-- ==== Sys2Proof/Word.lean ====
section
/-! DEFINITION. The words the LT-6 counts in (00_scope.md sections 6.2 and 6.3). -/

namespace Sys2Proof

/-- One byte on a serial line. -/
abbrev Byte := BitVec 8

/-- An encoder count: 32 bits, wrapping (00_scope.md 6.2). -/
abbrev Count := BitVec 32

/-- A lug number: 16 bits, wrapping (00_scope.md 6.3). -/
abbrev LugNo := BitVec 16

/-- A log number: 16 bits, wrapping (R129). -/
abbrev LogNo := BitVec 16

end Sys2Proof
end

