-- ==== Sys2Proof/Syntax.lean ====
section
/-! DEFINITION. The commands of the LT-6: one constructor of Instr for each row of spec/opcode_table.json. -/

namespace Sys2Proof

/-- The two grader panels and their ports (R74). -/
inductive PanelId where
  | p1 | p2
  deriving DecidableEq, Repr

/-- The twelve serial ports, in the order of R168: supervisor, P1, P2, H0 to H7, HL. -/
inductive Port where
  | supervisor
  | panel (p : PanelId)
  | head (h : Fin 8)
  | logHead
  deriving DecidableEq, Repr

/-- The two encoders whose counts time output entries (R102). -/
inductive EncoderId where
  | chain | log
  deriving DecidableEq, Repr

/-- A command: an event at the pins or ports of the LT-6, or the completion of something it began.
Requests carry their tag and their body bytes (11.5), so that every length of body is a term. -/
inductive Instr where
  /-- FULL_RESET (R26): the strap inputs (closed or open) and the emergency-stop input as they stand. -/
  | fullReset (firstStrap secondStrap : Bool) (estopIn : Bool)
  /-- CHAIN_LEGAL_TRANSITION (R1): forward or reverse; the scan eye as it stands (read by a MISSED lug's advance). -/
  | chainLegalTransition (forward : Bool) (eye : Bool)
  /-- CHAIN_ILLEGAL_TRANSITION (R1). -/
  | chainIllegalTransition
  /-- ENCODER_ERROR_CLEARED (R2). -/
  | encoderErrorCleared
  /-- REVERSAL_HOLD_END (R9). -/
  | reversalHoldEnd
  /-- LUG_EDGE (R6), with the scan eye as it stands. -/
  | lugEdge (eye : Bool)
  /-- LUG_MISSED (R8), with the scan eye as it stands. -/
  | lugMissed (eye : Bool)
  /-- ESTOP (R165). -/
  | estop
  /-- ESTOP_RELEASE (R165). -/
  | estopRelease
  /-- ENTRY_ON (R104). -/
  | entryOn (enc : EncoderId)
  /-- ENTRY_END (R104). -/
  | entryEnd (enc : EncoderId)
  /-- SEGMENT (R31): the head port it arrives on and its body. -/
  | segment (head : Fin 8) (body : List Byte)
  /-- MOISTURE_CONVERSION_COMPLETE (R42): the raw result, 0..4095. -/
  | moistureConversionComplete (raw : BitVec 12)
  /-- SOLVE_START (R65). -/
  | solveStart
  /-- SOLVE_COMPLETE (R67). -/
  | solveComplete
  /-- HELLO (R77). -/
  | hello (p : PanelId) (tag : Byte)
  /-- PANEL_TIMEOUT (R75). -/
  | panelTimeout (p : PanelId)
  /-- GRADE_SET (R84). -/
  | gradeSet (p : PanelId) (tag : Byte) (lug : LugNo) (value : Byte)
  /-- GRADE_DOWN (R84). -/
  | gradeDown (p : PanelId) (tag : Byte) (lug : LugNo) (value : Byte)
  /-- LENGTH_LIMIT (R84). -/
  | lengthLimit (p : PanelId) (tag : Byte) (lug : LugNo) (value : Byte)
  /-- SLASH (R85). -/
  | slash (p : PanelId) (tag : Byte) (lug : LugNo) (value : Byte)
  /-- REGRADE (R86). -/
  | regrade (p : PanelId) (tag : Byte) (lug : LugNo) (value : Byte)
  /-- CANCEL (R87). -/
  | cancel (p : PanelId) (tag : Byte) (lug : LugNo) (value : Byte)
  /-- PANEL_FRAME_SENT (R74). -/
  | panelFrameSent (p : PanelId)
  /-- LOG_LEGAL_TRANSITION (R126). -/
  | logLegalTransition (forward : Bool)
  /-- LOG_ILLEGAL_TRANSITION (R126). -/
  | logIllegalTransition
  /-- KICK_POINT (R140). -/
  | kickPoint
  /-- LOG_START (R129). -/
  | logStart
  /-- LOG_SECTION (R131): two diameters (unsigned) and two centre offsets (two's complement). -/
  | logSection (dx dy cx cy : BitVec 16)
  /-- LOG_END (R132). -/
  | logEnd
  /-- FRAME_BYTE (R172). -/
  | frameByte (port : Port) (byte : Byte)
  /-- INTER_BYTE_TIMEOUT (R172). -/
  | interByteTimeout (port : Port)
  /-- REQUEST_RECEIVED (R173). -/
  | requestReceived (kind tag : Byte) (body : List Byte)
  /-- HOST_SILENCE_SET (R176). -/
  | hostSilenceSet
  /-- TRANSMIT_COMPLETE (R174). -/
  | transmitComplete
  /-- UNKNOWN_KIND (R173). -/
  | unknownKind (kind tag : Byte) (body : List Byte)
  /-- IDENTIFY (R177). -/
  | identify (tag : Byte) (body : List Byte)
  /-- STATUS (R169). -/
  | status (tag : Byte) (body : List Byte)
  /-- LINE_STATE (R164). -/
  | lineState (tag : Byte) (body : List Byte)
  /-- LINE_RESET (R170). -/
  | lineReset (tag : Byte) (body : List Byte)
  /-- GEOMETRY_WRITE (R178). -/
  | geometryWrite (tag : Byte) (body : List Byte)
  /-- TABLE_WRITE (R180). -/
  | tableWrite (tag : Byte) (body : List Byte)
  /-- BANK_ACTIVATE (R181). -/
  | bankActivate (tag : Byte) (body : List Byte)
  /-- BANK_STATUS (R179). -/
  | bankStatus (tag : Byte) (body : List Byte)
  /-- SET_CAPACITY (R115). -/
  | setCapacity (tag bin : Byte) (value : BitVec 16)
  /-- OPEN (R116). -/
  | binOpen (tag bin : Byte) (value : BitVec 16)
  /-- CLOSE (R116). -/
  | binClose (tag bin : Byte) (value : BitVec 16)
  /-- EMPTIED (R117). -/
  | emptied (tag bin : Byte) (value : BitVec 16)
  /-- OUT_OF_SERVICE (R118). -/
  | outOfService (tag bin : Byte) (value : BitVec 16)
  /-- PIECE_QUERY (R24). -/
  | pieceQuery (tag : Byte) (body : List Byte)
  /-- LAST_PROFILE (R39). -/
  | lastProfile (tag : Byte) (body : List Byte)
  /-- CLEAR_SUSPECT (R22). -/
  | clearSuspect (tag : Byte) (body : List Byte)
  /-- CLEAR_HALT (R167). -/
  | clearHalt (tag : Byte) (body : List Byte)
  /-- TALLY_READ (R146). -/
  | tallyRead (tag : Byte) (body : List Byte)
  /-- TALLY_CLOSE (R147). -/
  | tallyClose (tag : Byte) (body : List Byte)
  /-- SNAPSHOT_READ (R150). -/
  | snapshotRead (tag : Byte) (body : List Byte)
  /-- SNAPSHOT_RELEASE (R151). -/
  | snapshotRelease (tag : Byte) (body : List Byte)
  /-- MALFORMED_OVERRIDE (R80): an OVERRIDE body of the wrong length or kind code. -/
  | malformedOverride (p : PanelId) (tag : Byte) (body : List Byte)
  /-- BIN_COMMAND (R114): a body of the wrong length or with an action code that names none. -/
  | binCommand (tag : Byte) (body : List Byte)
  deriving DecidableEq, Repr

end Sys2Proof
end

