-- ==== Sys2Proof/Decode.lean ====
section
/-! DEFINITION. The commands that a word spells. No row of spec/opcode_table.json gives bits (log 30). -/

namespace Sys2Proof

/-- The command a word of `nbits` bits spells: none, since no row of the table gives bits (log 30). -/
def decodeTableWord (_nbits _w : Nat) : Option Instr := none

end Sys2Proof
end

