-- ==== Sys2Proof/Machine/State.lean ====
section
/-! DEFINITION. The state of the LT-6 as plain data: one structure per block of 00_scope.md section 3, and the queue of
commands. Every quantity the spec numbers is a Nat unless software or wiring sees it wrap as a word. -/

namespace Sys2Proof.Machine

/-- The two table banks (R179). -/
inductive BankId where
  | a | b
  deriving DecidableEq, Repr

/-- The line states (R163). -/
inductive LineState where
  | idle | standby | run | halt
  deriving DecidableEq, Repr

/-- The causes of the suspect condition (R21). -/
inductive SuspectCause where
  | extra | missed | reversal | halt
  deriving DecidableEq, Repr

/-- The causes of HALT (R165). -/
inductive HaltCause where
  | encoder | estop
  deriving DecidableEq, Repr

/-- An event counter: 0..65535 with its saturated flag (00_scope.md 6.6, R168). -/
structure EventCounter where
  value : Nat
  saturated : Bool
  deriving DecidableEq, Repr

/-- An event counter after full reset. -/
def EventCounter.zero : EventCounter := ⟨0, false⟩

/-! ### Piece records (R15) -/

/-- The stages of a piece (R17). -/
inductive Stage where
  | scanning | closed | committed | pastSaw | finished
  deriving DecidableEq, Repr

/-- One cell of a profile (R29, R34): thickness in 1/64 in, width in 1/32 in, wane in 1/16 in, defect class. -/
inductive Cell where
  | unreported
  | absent
  | unknown
  | present (thickness width wane defect : Nat)
  deriving DecidableEq, Repr

/-- A head's report state in a profile (R34). -/
inductive HeadReport where
  | notReported | board | noBoard | headFault
  deriving DecidableEq, Repr

/-- The status of a closed profile (R36). -/
inductive ProfileStatus where
  | empty | complete | partialCells
  deriving DecidableEq, Repr

/-- What closed a profile (R35). -/
inductive CloseCause where
  | allReported | closeOffset
  deriving DecidableEq, Repr

/-- A piece's profile: 52 cells, eight head report states, and its status once closed (R34, R36). -/
structure Profile where
  cells : List Cell
  reports : List HeadReport
  status : Option ProfileStatus
  deriving DecidableEq, Repr

/-- A moisture value in tenths of a per cent with its HELD flag (R44). -/
structure Reading where
  value : Nat
  held : Bool
  deriving DecidableEq, Repr

/-- The size class of a piece (R51). -/
inductive SizeClass where
  | undersize
  | sized (thickness width : Nat)
  deriving DecidableEq, Repr

/-- A decision (R59, R60): an absent decision is `none` of an Option. -/
inductive Decision where
  | slash
  | keep (left right grade product reported : Nat)
  deriving DecidableEq, Repr

/-- The solve states of a piece (R70). -/
inductive SolveState where
  | none | queued | running | done | failed
  deriving DecidableEq, Repr

/-- The six kinds of OVERRIDE (R80), in the order of their codes. -/
inductive OverrideKind where
  | gradeSet | gradeDown | lengthLimit | slash | regrade | cancel
  deriving DecidableEq, Repr

/-- The override standing on a piece (R83): its kind, its value (0 where the kind reads none) and its panel. -/
structure Override where
  kind : OverrideKind
  value : Nat
  panel : PanelId
  deriving DecidableEq, Repr

/-- Where a committed piece goes (R98). -/
inductive Dest where
  | bin (b : Nat)
  | runOut
  deriving DecidableEq, Repr

/-- The outcomes of a piece (R15). -/
inductive PieceOutcome where
  | sorted | runOut | regrade | slash | untrimmed | unsolved | suspect | lost
  deriving DecidableEq, Repr

/-- The flags of a piece (R15). -/
structure PieceFlags where
  partialProfile : Bool
  heldMoisture : Bool
  staleMoisture : Bool
  scheduleFull : Bool
  overridden : Bool
  deriving DecidableEq, Repr

/-- A piece record (R15). -/
structure Piece where
  lug : LugNo
  admitCount : Count
  bank : BankId
  suspect : Option SuspectCause
  stage : Stage
  profile : Profile
  moisture : List (Option Reading)
  sizeClass : Option SizeClass
  decision : Option Decision
  solveState : SolveState
  revision : Byte
  override : Option Override
  dest : Option Dest
  outcome : Option PieceOutcome
  flags : PieceFlags
  deriving DecidableEq, Repr

/-! ### Chain tracker -/

/-- The chain tracker's state (section 1.1). Lug tracking is active outside IDLE (R4) and is read off the line state. -/
structure Chain where
  count : Count
  highest : Count
  encError : Bool
  encRun : Nat
  lockOn : Bool
  c0 : Count
  hold : Option Count
  goodRun : Nat
  lug : LugNo
  suspect : Option SuspectCause
  pieces : List Piece
  admitted : BitVec 64
  finished : BitVec 64
  deriving DecidableEq, Repr

/-! ### Scan assembler and moisture unit -/

/-- A summary in a last-profile buffer (R38); a report is `none` for a head the bank does not map. -/
structure Summary where
  lug : LugNo
  admitCount : Count
  bank : BankId
  cause : CloseCause
  status : ProfileStatus
  suspect : Bool
  reports : List (Option HeadReport)
  cells : List Cell
  deriving DecidableEq, Repr

/-- The role of a last-profile buffer (R38). -/
inductive BufferRole where
  | latest | reading | free
  deriving DecidableEq, Repr

/-- A last-profile buffer (R38). -/
structure ProfileBuffer where
  role : BufferRole
  summary : Option Summary
  deriving DecidableEq, Repr

/-- The scan assembler's state (section 2.1). `eye` is the scan eye as last sampled; `lugSent` is the last LUG
message of each head port (R28). -/
structure Scan where
  eye : Bool
  history : List (LugNo × Bool)
  late : EventCounter
  duplicate : EventCounter
  phantom : EventCounter
  buffers : List ProfileBuffer
  lugSent : List (Option LugNo)
  deriving DecidableEq, Repr

/-- A conversion set in progress (R41): the channel being converted is the first of `channels`. -/
structure Conversion where
  owner : LugNo
  bank : BankId
  channels : List Nat
  deriving DecidableEq, Repr

/-- The moisture unit's state (section 2.5); the converter is IDLE when `converter` is `none`. -/
structure Moisture where
  converter : Option Conversion
  held : List (Option Nat)
  ages : List Nat
  skipped : EventCounter
  clamps : List EventCounter
  deriving DecidableEq, Repr

/-! ### Sorter control, trim solver, panel unit -/

/-- The states of a bin (R112), in the order of 6.2. -/
inductive BinState where
  | opened | closed | outOfService
  deriving DecidableEq, Repr

/-- A bin record (R112). -/
structure Bin where
  state : BinState
  capacity : Nat
  count : Nat
  reserved : Nat
  full : Bool
  drops : Nat
  deriving DecidableEq, Repr

/-- A solve in progress with the inputs it took at its start (R50, R65). -/
structure Solve where
  lug : LugNo
  revision : Byte
  cells : List Cell
  moisture : List (Option Reading)
  override : Option Override
  bank : BankId
  bins : List Bin
  deriving DecidableEq, Repr

/-- The trim solver's state (section 3.3). -/
structure Solver where
  queue : List LugNo
  running : Option Solve
  deriving DecidableEq, Repr

/-- A frame: kind, tag and body (R172). -/
structure Frame where
  kind : Byte
  tag : Byte
  body : List Byte
  deriving DecidableEq, Repr

/-- One panel port (section 4.1): presence, silence timer in milliseconds, output queue, the frame being sent,
the port's sequence number (R174) and its dropped-frame counter. -/
structure PanelPort where
  present : Bool
  timer : Nat
  queue : List Frame
  sending : Option Frame
  seq : Byte
  dropped : EventCounter
  deriving DecidableEq, Repr

/-- An entry of the answer list (R88). -/
structure Answer where
  lug : LugNo
  revision : Byte
  panel : PanelId
  tag : Byte
  deriving DecidableEq, Repr

/-- The panel unit's state (section 4.1). -/
structure Panels where
  p1 : PanelPort
  p2 : PanelPort
  answers : List Answer
  deriving DecidableEq, Repr

/-! ### Output scheduler -/

/-- A timed line (R102). -/
inductive TimedLine where
  | saw (k : Nat)
  | gate (b : Nat)
  | kicker
  deriving DecidableEq, Repr

/-- The kind of an entry (R102). -/
inductive EntryKind where
  | saw | gate | kick
  deriving DecidableEq, Repr

/-- A schedule entry (R102); `on` is false while it is WAITING. The owner is a lug number or a log number. -/
structure Entry where
  line : TimedLine
  start : Count
  stop : Count
  owner : BitVec 16
  kind : EntryKind
  on : Bool
  deriving DecidableEq, Repr

/-- The output scheduler's state (section 5.4): the entries of each encoder in order of start count, and the lines. -/
structure Output where
  chain : List Entry
  log : List Entry
  saws : List Bool
  gates : List Bool
  kicker : Bool
  deriving DecidableEq, Repr

/-! ### Log measurer -/

/-- A sample of a log (R130). -/
structure Sample where
  pos : Nat
  dx : Nat
  dy : Nat
  cx : Int
  cy : Int
  deriving DecidableEq, Repr

/-- The figures of a log (R133 to R136); `smallLast` is set when the small end is LAST. -/
structure Figures where
  length : Nat
  firstEnd : Nat
  lastEnd : Nat
  sed : Nat
  led : Nat
  smallLast : Bool
  diameterClass : Option Nat
  volume : Nat
  sweep : Nat
  deriving DecidableEq, Repr

/-- The reasons of a REJECT (R138), in the order of its table. -/
structure Reasons where
  noSamples : Bool
  short : Bool
  long : Bool
  smallEnd : Bool
  largeEnd : Bool
  sweep : Bool
  deriving DecidableEq, Repr

/-- A log's decision (R138). -/
inductive LogDecision where
  | accept
  | reject (why : Reasons)
  deriving DecidableEq, Repr

/-- A log's kick state (R130). -/
inductive KickState where
  | none | notRun | missed | refused | scheduled | cancelled
  deriving DecidableEq, Repr

/-- The outcomes of a log (R130). -/
inductive LogOutcome where
  | accepted | rejected | rejectMissed | unmeasured | passed
  deriving DecidableEq, Repr

/-- The end causes of an UNMEASURED log (R140). -/
inductive EndCause where
  | kickPoint | superseded | fault | reset
  deriving DecidableEq, Repr

/-- The flags of a log (R130). -/
structure LogFlags where
  clamped : Bool
  overlong : Bool
  gapped : Bool
  noSamples : Bool
  scheduleFull : Bool
  deriving DecidableEq, Repr

/-- A log record (R130). `closed` is false in stage OPEN. -/
structure LogRecord where
  number : LogNo
  bank : BankId
  start : Count
  kickPoint : Count
  closed : Bool
  samples : List Sample
  figures : Option Figures
  decision : Option LogDecision
  kick : KickState
  flags : LogFlags
  outcome : Option LogOutcome
  endCause : Option EndCause
  deriving DecidableEq, Repr

/-- The log measurer's state (section 7.1). -/
structure Logs where
  count : Count
  highest : Count
  number : LogNo
  openLog : Option LogNo
  queue : List LogRecord
  deriving DecidableEq, Repr

/-! ### Tally unit -/

/-- A tally cell (R142). -/
structure TallyCell where
  count : Nat
  bf48 : Nat
  deriving DecidableEq, Repr

/-- A log class cell (R142). -/
structure LogCell where
  accepted : Nat
  acceptedVol : Nat
  all : Nat
  allVol : Nat
  deriving DecidableEq, Repr

/-- A tally period (R142). -/
structure Period where
  number : Nat
  entries : Nat
  cells : List TallyCell
  pieceOutcomes : List Nat
  binDrops : List Nat
  logCells : List LogCell
  logOutcomes : List Nat
  saturated : Bool
  deriving DecidableEq, Repr

/-- The recovery of a closed period with its sums and flags (R148). -/
structure Recovery where
  bf48 : Nat
  logvol : Nat
  value : Nat
  noLogVolume : Bool
  capped : Bool
  saturated : Bool
  deriving DecidableEq, Repr

/-- A HELD snapshot (R147). -/
structure Snapshot where
  period : Period
  recovery : Recovery
  deriving DecidableEq, Repr

/-- The tally unit's state (section 8.1). -/
structure Tally where
  period : Period
  snapshot : Option Snapshot
  deriving DecidableEq, Repr

/-! ### Feed governor -/

/-- The phase of the governor's cycle (R159). -/
inductive Phase where
  | gap | fill
  deriving DecidableEq, Repr

/-- The causes of forced hold in effect (R156). -/
structure HoldCauses where
  idle : Bool
  halt : Bool
  hostSilent : Bool
  noBank : Bool
  deriving DecidableEq, Repr

/-- The last pressure sample (R158). -/
structure PressureSample where
  pressed : Nat
  notice : Bool
  found : Bool
  deriving DecidableEq, Repr

/-- The feed governor's state (section 9.1); a permit decision is true for GIVEN. -/
structure Governor where
  g : Nat
  phase : Phase
  remaining : Nat
  causes : HoldCauses
  pressure : Bool
  sample : Option PressureSample
  record : List (LugNo × Bool)
  permit : Bool
  deriving DecidableEq, Repr

/-! ### Line control -/

/-- The event counters line control holds (R168). -/
structure LineCounters where
  encoder : EventCounter
  estop : EventCounter
  extra : EventCounter
  missed : EventCounter
  reversal : EventCounter
  format : EventCounter
  failed : EventCounter
  discarded : EventCounter
  scheduleFull : EventCounter
  stray : EventCounter
  untracked : EventCounter
  logEncoder : EventCounter
  fillDuringHold : EventCounter
  deriving DecidableEq, Repr

/-- Line control's state (section 10.1). -/
structure Line where
  state : LineState
  haltCause : Option HaltCause
  estopIn : Bool
  faultLine : Bool
  counters : LineCounters
  deriving DecidableEq, Repr

/-! ### Bank store -/

/-- The geometry set (R178), its 70 items in the order of 11.5. -/
structure Geometry where
  pitch : Nat
  windowTol : Nat
  reversalTol : Nat
  resync : Nat
  closeOffset : Nat
  moistureOffset : Nat
  markP1 : Nat
  markP2 : Nat
  commit : Nat
  sawLine : Nat
  sawLead : Nat
  fireWidth : Nat
  drops : List Nat
  gateLead : Nat
  gateWidth : Nat
  runOut : Nat
  panelTimeout : Nat
  hostTimeout : Nat
  cpi : Nat
  kickDistance : Nat
  kickLead : Nat
  kickWidth : Nat
  sampleSpacing : Nat
  deriving DecidableEq, Repr

/-- The eight table kinds, in the order of their codes (11.5). -/
inductive TableKind where
  | headmap | size | grade | price | sort | moisture | log | governor
  deriving DecidableEq, Repr

/-- The states of a bank (R179). -/
inductive BankState where
  | empty | loading | partlyLoaded | valid | active
  deriving DecidableEq, Repr

/-- A table of a bank: whether its kind is loaded, and the entries stored so far in order of offset (R180). -/
structure Table (α : Type) where
  loaded : Bool
  rows : List α
  deriving DecidableEq, Repr

/-- A HEADMAP entry (R27): unused, or first and last cell. -/
abbrev HeadRow := Option (Nat × Nat)

/-- A SIZE entry (R47): unused, or nominal and minimum. -/
structure SizeClassRow where
  nominal : Nat
  minimum : Nat
  deriving DecidableEq, Repr

/-- The limits of a defined grade (R48). `allow` is the allow-set byte: bit k stands for class k. -/
structure GradeLimits where
  waneDepth : Nat
  waneShare : Nat
  allow : Byte
  defectRate : Nat
  skip : Nat
  moisture : Nat
  deriving DecidableEq, Repr

/-- A GRADE entry (R48): a code's limits, or the two fields of the whole bank (entry 7). -/
inductive GradeRow where
  | code (limits : Option GradeLimits)
  | common (minLength : Nat) (binAware : Bool)
  deriving DecidableEq, Repr

/-- A SORT entry (R111): primary and alternate bin; `none` is the mark none. -/
structure SortRow where
  primary : Option Nat
  alternate : Option Nat
  deriving DecidableEq, Repr

/-- The settings of an enabled moisture channel (R40). -/
structure ChannelRow where
  first : Nat
  last : Nat
  gain : Nat
  offset : Int
  deriving DecidableEq, Repr

/-- A MOISTURE entry (R40): a channel, disabled or with its settings, or the common fields (entry 4). -/
inductive MoistureRow where
  | channel (settings : Option ChannelRow)
  | common (resolution staleAge : Nat)
  deriving DecidableEq, Repr

/-- The LOG table (R137). -/
structure LogLimits where
  minLength : Nat
  maxLength : Nat
  minSed : Nat
  maxLed : Nat
  maxSweep : Nat
  deriving DecidableEq, Repr

/-- The GOVERNOR table (R154). -/
structure GovernorRow where
  gMin : Nat
  gMax : Nat
  window : Nat
  up : Nat
  down : Nat
  highWater : Nat
  lowWater : Nat
  margin : Nat
  binPressure : Nat
  deriving DecidableEq, Repr

/-- A table bank (section 11.4). -/
structure Bank where
  state : BankState
  headmap : Table HeadRow
  size : Table (Option SizeClassRow)
  grade : Table GradeRow
  price : Table Nat
  sort : Table SortRow
  moisture : Table MoistureRow
  log : Table LogLimits
  governor : Table GovernorRow
  deriving DecidableEq, Repr

/-- The open load sequence (R180). -/
structure LoadSequence where
  bank : BankId
  kind : TableKind
  next : Nat
  deriving DecidableEq, Repr

/-- The bank store's state (section 11.4). -/
structure Store where
  geometry : Option Geometry
  bankA : Bank
  bankB : Bank
  sequence : Option LoadSequence
  pendingBank : Option BankId
  deriving DecidableEq, Repr

/-! ### Supervisor link -/

/-- The kinds of LINE_EVENT (R166). -/
inductive LineEventKind where
  | suspectSet | suspectCleared | haltEntered | haltingFault
  deriving DecidableEq, Repr

/-- The cause a LINE_EVENT carries (R166). -/
inductive EventCause where
  | suspect (c : SuspectCause)
  | halting (c : HaltCause)
  deriving DecidableEq, Repr

/-- The causes of a BIN_EVENT (R113). -/
inductive BinCause where
  | reservation | release | setCapacity | emptied | outOfService
  deriving DecidableEq, Repr

/-- The notices (R175) with the fields their rules list. -/
inductive Notice where
  /-- PIECE_DONE (R19): the record as it stood at finish. -/
  | pieceDone (p : Piece)
  /-- LOG_DONE (R140): the record as it stood at finish. -/
  | logDone (l : LogRecord)
  /-- LINE_EVENT (R166). -/
  | lineEvent (kind : LineEventKind) (cause : Option EventCause) (state : LineState) (left : Option LineState)
      (lug : LugNo) (goodRun : Nat)
  /-- BANK_EVENT (R181). -/
  | bankEvent (activated : BankId) (superseded : Option BankId) (lug : LugNo)
  /-- BIN_EVENT (R113): `full` is true for the change FULL; the record is the bin's after the change. -/
  | binEvent (bin : Nat) (full : Bool) (cause : BinCause) (after : Bin) (lug : LugNo)
  /-- PANEL_EVENT (R75). -/
  | panelEvent (p : PanelId) (present : Bool) (lug : LugNo)
  /-- TALLY_CLOSED (R149). -/
  | tallyClosed (closed new entries : Nat) (recovery : Recovery)
  deriving DecidableEq, Repr

/-- A notice in the queue with the sequence number it took as its tag (R174). -/
structure QueuedNotice where
  tag : Byte
  notice : Notice
  deriving DecidableEq, Repr

/-- A reply made and not yet sent (R173); `own` is false for a BUSY reply made as its request arrived. -/
structure Reply where
  frame : Frame
  own : Bool
  deriving DecidableEq, Repr

/-- What the supervisor transmitter is sending (R174). -/
inductive Sending where
  | reply (r : Reply)
  | notice (f : Frame)
  deriving DecidableEq, Repr

/-- A port receiver (R172): the bytes taken from the lead byte on, none while HUNTING, and the milliseconds since
the last of them. -/
structure Receiver where
  bytes : List Byte
  gap : Nat
  deriving DecidableEq, Repr

/-- The supervisor link's state (section 11.1). `taken` says whether the oldest request has been taken. -/
structure Link where
  receivers : List Receiver
  requests : List Frame
  taken : Bool
  replies : List Reply
  notices : List QueuedNotice
  seq : Byte
  sending : Option Sending
  timer : Nat
  silent : Bool
  rate : Nat
  frameErrors : List EventCounter
  dropped : EventCounter
  deriving DecidableEq, Repr

/-! ### The whole -/

/-- The state of the LT-6, and the commands that wait. -/
structure State where
  chain : Chain
  scan : Scan
  moisture : Moisture
  solver : Solver
  panels : Panels
  output : Output
  bins : List Bin
  logs : Logs
  tally : Tally
  governor : Governor
  line : Line
  link : Link
  store : Store
  pending : List Instr
  deriving DecidableEq, Repr

/-- The reasons a step could stop with a fault: there are none. The spec's faults are counted and the block goes on
(R168), so no constructor stands here (safe). -/
inductive Fault where
  deriving DecidableEq, Repr

/-- The reasons a command could be refused. -/
inductive Refusal where
  /-- Raised by an arm of exec whose row has no meaning yet; no arm raises it (safe). -/
  | notModelled (mnemonic : String)
  deriving DecidableEq, Repr

/-! ### Reset values -/

/-- A bank after full reset (R182): EMPTY, every kind unloaded. -/
def Bank.reset : Bank :=
  { state := .empty, headmap := ⟨false, []⟩, size := ⟨false, []⟩, grade := ⟨false, []⟩, price := ⟨false, []⟩,
    sort := ⟨false, []⟩, moisture := ⟨false, []⟩, log := ⟨false, []⟩, governor := ⟨false, []⟩ }

/-- A bin after full reset (R125). -/
def Bin.reset : Bin :=
  { state := .outOfService, capacity := 0, count := 0, reserved := 0, full := true, drops := 0 }

/-- A period at zero with the number given (R142, R153). -/
def Period.fresh (number : Nat) : Period :=
  { number, entries := 0, cells := List.replicate 96 ⟨0, 0⟩, pieceOutcomes := List.replicate 8 0,
    binDrops := List.replicate 48 0, logCells := List.replicate 37 ⟨0, 0, 0, 0⟩,
    logOutcomes := List.replicate 5 0, saturated := false }

/-- A panel port after full reset (R92, R182). DESIGN CHOICE (log 41): a frame the port is sending is cut off. -/
def PanelPort.reset : PanelPort :=
  { present := false, timer := 0, queue := [], sending := none, seq := 0, dropped := .zero }

/-- Line control's counters after full reset (R171). -/
def LineCounters.zero : LineCounters :=
  { encoder := .zero, estop := .zero, extra := .zero, missed := .zero, reversal := .zero, format := .zero,
    failed := .zero, discarded := .zero, scheduleFull := .zero, stray := .zero, untracked := .zero,
    logEncoder := .zero, fillDuringHold := .zero }

/-- The LT-6 after a full reset that read the supervisor rate `rate` from the straps and the emergency-stop input
`estopIn` (R26, R46, R73, R92, R110, R125, R141, R153, R162, R171, R182). The scan eye is an input and reads `eye`. DESIGN CHOICE (log 41): the spec
does not say what becomes of a frame under way, and one that the supervisor transmitter or a panel port is sending is cut
off. -/
def State.afterReset (rate : Nat) (estopIn eye : Bool) : State where
  chain := { count := 0, highest := 0, encError := false, encRun := 0, lockOn := false, c0 := 0, hold := none,
             goodRun := 0, lug := 0, suspect := none, pieces := [], admitted := 0, finished := 0 }
  scan := { eye, history := [], late := .zero, duplicate := .zero, phantom := .zero,
            buffers := List.replicate 3 ⟨.free, none⟩, lugSent := List.replicate 8 none }
  moisture := { converter := none, held := List.replicate 4 none, ages := List.replicate 4 0, skipped := .zero,
                clamps := List.replicate 4 .zero }
  solver := { queue := [], running := none }
  panels := { p1 := .reset, p2 := .reset, answers := [] }
  output := { chain := [], log := [], saws := List.replicate 13 false, gates := List.replicate 48 false,
              kicker := false }
  bins := List.replicate 48 .reset
  logs := { count := 0, highest := 0, number := 0, openLog := none, queue := [] }
  tally := { period := .fresh 1, snapshot := none }
  governor := { g := 0, phase := .fill, remaining := 0,
                causes := { idle := true, halt := false, hostSilent := false, noBank := true },
                pressure := false, sample := none, record := [], permit := false }
  line := { state := .idle, haltCause := none, estopIn, faultLine := false, counters := .zero }
  link := { receivers := List.replicate 12 ⟨[], 0⟩, requests := [], taken := false, replies := [], notices := [],
            seq := 0, sending := none, timer := 0, silent := false, rate,
            frameErrors := List.replicate 12 .zero, dropped := .zero }
  store := { geometry := none, bankA := .reset, bankB := .reset, sequence := none, pendingBank := none }
  pending := []

/-- The machine right after reset. DESIGN CHOICE (log 5): both straps open (rate code 0), the emergency-stop input
released and the scan eye clear, since the spec reads these inputs as they stand. -/
def State.reset : State := State.afterReset 0 false false

end Sys2Proof.Machine
end

