-- ==== Sys2Proof/Machine/Flags.lean ====
section
/-! DEFINITION. Counters that saturate, and the small lists of numbered things the blocks keep. -/

namespace Sys2Proof.Machine

/-- The greatest value of an event counter (00_scope.md 6.6). -/
def eventMax : Nat := 65535

/-- One event counted: the counter stays at 65535, and reaching it sets the saturated flag (R168). -/
def EventCounter.bump (c : EventCounter) : EventCounter :=
  if c.value + 1 < eventMax then { c with value := c.value + 1 } else ⟨eventMax, true⟩

/-- The greatest value of a 32-bit tally counter (R145). -/
def tallyMax : Nat := 2 ^ 32 - 1

/-- The greatest value of a 48-bit tally sum (R145). -/
def sumMax : Nat := 2 ^ 48 - 1

/-- An addition that stays at the greatest value `top` (R145). -/
def satAdd (top a b : Nat) : Nat := min top (a + b)

/-- Item `i` of a list changed by `f`; nothing where there is no such item. -/
def setAt {α : Type} (l : List α) (i : Nat) (f : α → α) : List α := l.modify i f

/-- The list `l` with its first item that meets `p` changed by `f`. -/
def changeFirst {α : Type} (p : α → Bool) (f : α → α) : List α → List α
  | [] => []
  | x :: xs => if p x then f x :: xs else x :: changeFirst p f xs

/-- The decision the permit record holds for a lug number, true for GIVEN; a lug with no entry is WITHHELD wherever the
record is read (R155). -/
def Governor.given (g : Governor) (lug : LugNo) : Bool := decide ((lug, true) ∈ g.record)

/-- The numbers below `n` for which `p` holds, as one byte for each eight of them: bit k of a byte stands for the
k-th of its eight (11.5, sets). -/
def packBits (bits : List Bool) : Nat → List Byte
  | 0 => []
  | k + 1 =>
    (((bits.take 8).zipIdx.foldl (fun (acc : Byte) (b, i) => if b then acc ||| (1#8 <<< i) else acc) 0)) ::
      packBits (bits.drop 8) k

end Sys2Proof.Machine
end

