-- ==== Sys2Proof/Config.lean ====
section
/-! DEFINITION. What the part carries and what the spec leaves open: constants without a body. -/

namespace Sys2Proof.Config

/-- The firmware level, "a number 0..65535 that the part carries" (R177; log 11). -/
opaque firmwareLevel : BitVec 16

/-- Whether a flag byte of an incoming frame that is neither 0 nor 1 counts as set: 11.5 gives flags as 1 or 0
and says nothing of other bytes (free value, log 10). -/
opaque oddFlag : Byte → Bool

/-- The lug number answered to an OVERRIDE whose body is too short to hold one (R80, R81; free value, log 12). -/
opaque missingLug : List Byte → LugNo

/-- The byte in the bank-state place of the reply to a TABLE_WRITE whose bank code names no bank
(R180; free value, log 13). -/
opaque noBankState : Byte → Byte

/-- The calibrated value of a channel's raw result when the set's bank no longer holds the channel in a loaded MOISTURE
table, its last piece having finished and a load having begun while the set ran (R42, R180; free value, log 32). -/
opaque openCalibration : Nat → Nat → Int

end Sys2Proof.Config
end

