-- ==== Sys2Proof/Machine/Operands.lean ====
section
/-! DEFINITION. Reading operands: wrapping counts (00_scope.md 6.2), the fields of frame bodies (11.5), the frame check
(R172), and the decisions a body's fields spell. -/

namespace Sys2Proof.Machine

/-! ### Wrapping counts -/

/-- Count `a` has reached count `b`: (a − b) mod 2^32 is below 2^31 (00_scope.md 6.2). -/
def reached (a b : Count) : Bool := decide ((a - b).toNat < 2 ^ 31)

/-- Count `a` is later than count `b`: it has reached `b` and is not `b` (00_scope.md 6.2). -/
def later (a b : Count) : Bool := decide (a ≠ b) && reached a b

/-- How far count `a` stands below count `b` that it has not reached; 0 when it has (R9, R127). -/
def fallenBelow (a b : Count) : Nat := if reached a b then 0 else (b - a).toNat

/-! ### Fields of a body (11.5: high byte first) -/

/-- Byte `i` of a body; 0 past its end. -/
def byteAt (bs : List Byte) (i : Nat) : Nat := (bs.getD i 0).toNat

/-- The 2-byte field at byte `i`. -/
def u16At (bs : List Byte) (i : Nat) : Nat := byteAt bs i * 256 + byteAt bs (i + 1)

/-- The 4-byte field at byte `i`. -/
def u32At (bs : List Byte) (i : Nat) : Nat := u16At bs i * 65536 + u16At bs (i + 2)

/-- The signed 2-byte field at byte `i`, in two's complement. -/
def s16At (bs : List Byte) (i : Nat) : Int := (BitVec.ofNat 16 (u16At bs i)).toInt

/-- A flag byte of an incoming frame: 1 is set and 0 is clear (11.5); another byte is a free value (log 10). -/
def flagAt (bs : List Byte) (i : Nat) : Bool :=
  let b := bs.getD i 0
  if b = 0 then false else if b = 1 then true else Config.oddFlag b

/-- The high and low byte of a 16-bit value. -/
def bytes16 (v : BitVec 16) : List Byte := [(v >>> 8).setWidth 8, v.setWidth 8]

/-- The chunks of `n` bytes of a body, first first; `fuel` bounds their number. -/
def chunks (n : Nat) : Nat → List Byte → List (List Byte)
  | 0, _ => []
  | fuel + 1, bs => bs.take n :: chunks n fuel (bs.drop n)

/-! ### The frame check (R172) -/

/-- One bit of the check: the remainder of x^16 + x^12 + x^5 + 1, most significant bit first. -/
def crcBit (crc : BitVec 16) (bit : Bool) : BitVec 16 :=
  let shifted := crc <<< 1
  if crc.msb != bit then shifted ^^^ 0x1021 else shifted

/-- One byte of the check, most significant bit first. -/
def crcByte (crc : BitVec 16) (b : Byte) : BitVec 16 :=
  [7, 6, 5, 4, 3, 2, 1, 0].foldl (fun c k => crcBit c (b.getLsbD k)) crc

/-- The check over a run of bytes, begun with all ones and sent without inversion (R172). -/
def crc16 (bs : List Byte) : BitVec 16 := bs.foldl crcByte 0xFFFF

/-- The bytes of a frame after the lead byte and before the check: length, kind, tag and body. -/
def Frame.inner (f : Frame) : List Byte :=
  bytes16 (BitVec.ofNat 16 f.body.length) ++ [f.kind, f.tag] ++ f.body

/-- A frame on its line: lead byte, length, kind, tag, body and check (11.5). -/
def Frame.wire (f : Frame) : List Byte := 0xC3 :: (f.inner ++ bytes16 (crc16 f.inner))

/-! ### Kinds of request (11.5) -/

/-- The seventeen requests (11.5), kinds 0x01 to 0x11 in this order. -/
inductive Request where
  | identify | status | lineState | lineReset | geometryWrite | tableWrite | bankActivate | bankStatus | binCommand
  | pieceQuery | lastProfile | clearSuspect | clearHalt | tallyRead | tallyClose | snapshotRead | snapshotRelease
  deriving DecidableEq, Repr

/-- The requests in the order of their kinds. -/
def Request.all : List Request :=
  [.identify, .status, .lineState, .lineReset, .geometryWrite, .tableWrite, .bankActivate, .bankStatus, .binCommand,
   .pieceQuery, .lastProfile, .clearSuspect, .clearHalt, .tallyRead, .tallyClose, .snapshotRead, .snapshotRelease]

/-- The kind code of a request: 0x01 to 0x11 (11.5). -/
def Request.code : Request → Byte
  | .identify => 0x01 | .status => 0x02 | .lineState => 0x03 | .lineReset => 0x04 | .geometryWrite => 0x05
  | .tableWrite => 0x06 | .bankActivate => 0x07 | .bankStatus => 0x08 | .binCommand => 0x09 | .pieceQuery => 0x0A
  | .lastProfile => 0x0B | .clearSuspect => 0x0C | .clearHalt => 0x0D | .tallyRead => 0x0E | .tallyClose => 0x0F
  | .snapshotRead => 0x10 | .snapshotRelease => 0x11

/-- The request a kind code names, or none (R173). -/
def Request.ofCode (kind : Byte) : Option Request := Request.all.find? fun r => r.code == kind

/-- The kind of the reply to a frame: its kind plus 0x80, or 0xFF when the kind names no request (R174). -/
def replyKind (kind : Byte) : Byte := if (Request.ofCode kind).isSome then kind + 0x80 else 0xFF

/-- The statuses of a reply, in the order of their codes 0 to 10 (R173, 11.5). -/
inductive Status where
  | ok | state | busy | range | sequence | referenced | notValid | notSynced | noData | unknownKind | length
  deriving DecidableEq, Repr

/-! ### Banks, kinds and tables (11.5) -/

/-- The bank a code names (0 A, 1 B). -/
def bankOfCode : Nat → Option BankId
  | 0 => some .a
  | 1 => some .b
  | _ => none

/-- The table kind a code names (0..7). -/
def kindOfCode : Nat → Option TableKind
  | 0 => some .headmap | 1 => some .size | 2 => some .grade | 3 => some .price
  | 4 => some .sort | 5 => some .moisture | 6 => some .log | 7 => some .governor
  | _ => none

/-- The eight kinds in the order of their codes. -/
def TableKind.all : List TableKind := [.headmap, .size, .grade, .price, .sort, .moisture, .log, .governor]

/-- The entry total of a kind (11.5). -/
def TableKind.total : TableKind → Nat
  | .headmap => 8 | .size => 16 | .grade => 8 | .price => 6144 | .sort => 96 | .moisture => 5 | .log => 1
  | .governor => 1

/-- The size in bytes of an entry of a kind (11.5). -/
def TableKind.entrySize : TableKind → Nat
  | .headmap => 3 | .size => 4 | .grade => 8 | .price => 2 | .sort => 2 | .moisture => 7 | .log => 10 | .governor => 9

/-- The body length a request requires (11.5); a TABLE_WRITE of 6 bytes or more that names no kind passes any length. -/
def Request.lengthOk (r : Request) (body : List Byte) : Bool :=
  match r with
  | .status | .pieceQuery => body.length == 2
  | .lineState | .bankActivate | .tallyRead | .snapshotRead => body.length == 1
  | .geometryWrite => body.length == 280
  | .binCommand => body.length == 4
  | .tableWrite =>
    decide (6 ≤ body.length) &&
      (match kindOfCode (byteAt body 1) with
        | some k => body.length == 6 + byteAt body 5 * k.entrySize
        | none => true)
  | _ => body.length == 0

/-- A HEADMAP entry: used flag, first cell, last cell. -/
def HeadRow.ofBytes (e : List Byte) : HeadRow := if flagAt e 0 then some (byteAt e 1, byteAt e 2) else none

/-- A SIZE entry: defined flag, nominal, minimum. -/
def sizeRowOfBytes (e : List Byte) : Option SizeClassRow := if flagAt e 0 then some ⟨byteAt e 1, u16At e 2⟩ else none

/-- A GRADE entry at offset `i`: codes 0..6, then the fields of the bank. -/
def GradeRow.ofBytes (i : Nat) (e : List Byte) : GradeRow :=
  if i = 7 then .common (byteAt e 0) (flagAt e 1)
  else if flagAt e 0 then
    .code (some { waneDepth := byteAt e 1, waneShare := byteAt e 2, allow := e.getD 3 0, defectRate := byteAt e 4,
                  skip := byteAt e 5, moisture := u16At e 6 })
  else .code none

/-- A bin byte of a SORT entry: 0xFF is none. -/
def binOfByte (b : Nat) : Option Nat := if b = 0xFF then none else some b

/-- A SORT entry: primary bin, alternate bin. -/
def SortRow.ofBytes (e : List Byte) : SortRow := ⟨binOfByte (byteAt e 0), binOfByte (byteAt e 1)⟩

/-- A MOISTURE entry at offset `i`: channels 0..3, then the common fields. -/
def MoistureRow.ofBytes (i : Nat) (e : List Byte) : MoistureRow :=
  if i = 4 then .common (byteAt e 0) (byteAt e 1)
  else if flagAt e 0 then
    .channel (some { first := byteAt e 1, last := byteAt e 2, gain := u16At e 3, offset := s16At e 5 })
  else .channel none

/-- The LOG entry. -/
def LogLimits.ofBytes (e : List Byte) : LogLimits :=
  { minLength := u16At e 0, maxLength := u16At e 2, minSed := u16At e 4, maxLed := u16At e 6, maxSweep := u16At e 8 }

/-- The GOVERNOR entry. -/
def GovernorRow.ofBytes (e : List Byte) : GovernorRow :=
  { gMin := byteAt e 0, gMax := byteAt e 1, window := byteAt e 2, up := byteAt e 3, down := byteAt e 4,
    highWater := byteAt e 5, lowWater := byteAt e 6, margin := byteAt e 7, binPressure := byteAt e 8 }

/-! ### The geometry set (11.5) -/

/-- The geometry set spelled by the 70 items of a GEOMETRY_WRITE body. -/
def Geometry.ofItems (v : List Nat) : Geometry :=
  { pitch := v.getD 0 0, windowTol := v.getD 1 0, reversalTol := v.getD 2 0, resync := v.getD 3 0,
    closeOffset := v.getD 4 0, moistureOffset := v.getD 5 0, markP1 := v.getD 6 0, markP2 := v.getD 7 0,
    commit := v.getD 8 0, sawLine := v.getD 9 0, sawLead := v.getD 10 0, fireWidth := v.getD 11 0,
    drops := (v.drop 12).take 48, gateLead := v.getD 60 0, gateWidth := v.getD 61 0, runOut := v.getD 62 0,
    panelTimeout := v.getD 63 0, hostTimeout := v.getD 64 0, cpi := v.getD 65 0, kickDistance := v.getD 66 0,
    kickLead := v.getD 67 0, kickWidth := v.getD 68 0, sampleSpacing := v.getD 69 0 }

/-- The 70 items of a body of 280 bytes. -/
def geometryItems (body : List Byte) : List Nat := (chunks 4 70 body).map fun e => u32At e 0

/-! ### SEGMENT and OVERRIDE bodies (11.5) -/

/-- A cell entry of a BOARD segment as the profile cell it becomes (R29). -/
def cellOfEntry (e : List Byte) : Cell :=
  let w := BitVec.ofNat 32 (u32At e 0)
  let defect := (w.extractLsb' 28 3).toNat
  if w.getLsbD 31 then
    if defect = 7 then .unknown
    else .present (w.extractLsb' 2 10).toNat (w.extractLsb' 12 10).toNat (w.extractLsb' 22 6).toNat defect
  else .absent

/-- The status of a SEGMENT (R29), coded 0 to 2. -/
inductive SegmentStatus where
  | noBoard | board | headFault
  deriving DecidableEq, Repr

/-- The status a code names. -/
def segmentStatusOfCode : Nat → Option SegmentStatus
  | 0 => some .noBoard
  | 1 => some .board
  | 2 => some .headFault
  | _ => none

/-- A SEGMENT's fields (R29). -/
structure SegmentFields where
  head : Nat
  lug : LugNo
  status : SegmentStatus
  count : Nat
  cells : List Cell
  deriving DecidableEq, Repr

/-- The fields of a SEGMENT body, or none where its length is not 5 + 4 × c or its status code is above 2
(R31 step 1, 11.5). -/
def SegmentFields.ofBody (body : List Byte) : Option SegmentFields :=
  let c := byteAt body 4
  if 5 ≤ body.length ∧ body.length = 5 + 4 * c then
    (segmentStatusOfCode (byteAt body 3)).map fun st =>
      { head := byteAt body 0, lug := BitVec.ofNat 16 (u16At body 1), status := st, count := c,
        cells := (chunks 4 c (body.drop 5)).map cellOfEntry }
  else none

/-- The override kind a code names (11.5). -/
def overrideKindOfCode : Nat → Option OverrideKind
  | 0 => some .gradeSet | 1 => some .gradeDown | 2 => some .lengthLimit
  | 3 => some .slash | 4 => some .regrade | 5 => some .cancel
  | _ => none

/-- Whether an OVERRIDE's value is one its kind accepts (R80): the value is read by GRADE_SET and LENGTH_LIMIT alone. -/
def OverrideKind.valueOk (k : OverrideKind) (value : Nat) : Bool :=
  match k with
  | .gradeSet => decide (value ≤ 7)
  | .lengthLimit => decide (2 ≤ value ∧ value ≤ 24 ∧ value % 2 = 0)
  | _ => true

/-- The value an override of a kind carries: 0 where the kind reads none. -/
def OverrideKind.value (k : OverrideKind) (value : Nat) : Nat :=
  match k with
  | .gradeSet | .lengthLimit => value
  | _ => 0

/-! ### Codes of states read as operands -/

/-- The line state a code names (11.5). -/
def lineStateOfCode : Nat → Option LineState
  | 0 => some .idle | 1 => some .standby | 2 => some .run | 3 => some .halt
  | _ => none

/-- The actions of a BIN_COMMAND (R114). -/
inductive BinAction where
  | setCapacity | opened | close | emptied | outOfService
  deriving DecidableEq, Repr

/-- The action a code names (11.5). -/
def binActionOfCode : Nat → Option BinAction
  | 0 => some .setCapacity | 1 => some .opened | 2 => some .close | 3 => some .emptied | 4 => some .outOfService
  | _ => none

/-- The place of a port among the twelve, in the order of R168. -/
def portIndex : Port → Nat
  | .supervisor => 0
  | .panel .p1 => 1
  | .panel .p2 => 2
  | .head h => 3 + h.val
  | .logHead => 11

end Sys2Proof.Machine
end

