-- ==== Sys2Proof/Machine/Layout.lean ====
section
/-! DEFINITION. The bodies of the frames the LT-6 sends, by the encoding rules of section 11.5. The places where those
rules leave the bytes of a composite field open are in logs 14, 31, 34, 36, 37, 38, 39 and 40. -/

namespace Sys2Proof.Machine

/-! ### Plain fields -/

/-- A whole number in 1 byte. -/
def put1 (n : Nat) : List Byte := [BitVec.ofNat 8 n]

/-- A whole number in 2 bytes. -/
def put2 (n : Nat) : List Byte := put1 (n / 256) ++ put1 n

/-- A whole number in 4 bytes. -/
def put4 (n : Nat) : List Byte := put2 (n / 65536) ++ put2 n

/-- A whole number in 6 bytes. -/
def put6 (n : Nat) : List Byte := put2 (n / 2 ^ 32) ++ put4 n

/-- A whole number in 8 bytes. -/
def put8 (n : Nat) : List Byte := put4 (n / 2 ^ 32) ++ put4 n

/-- A flag in 1 byte. -/
def putFlag (b : Bool) : List Byte := put1 (if b then 1 else 0)

/-- An optional field of `n` bytes: a byte of 1 and the field, or zeros. -/
def putOpt {α : Type} (n : Nat) (f : α → List Byte) : Option α → List Byte
  | some x => put1 1 ++ f x
  | none => List.replicate (n + 1) 0

/-! ### Codes of named values, in the order their rules list them -/

def BankId.code : BankId → Nat | .a => 0 | .b => 1
def panelCode : PanelId → Nat | .p1 => 0 | .p2 => 1
def LineState.code : LineState → Nat | .idle => 0 | .standby => 1 | .run => 2 | .halt => 3
def HaltCause.code : HaltCause → Nat | .encoder => 0 | .estop => 1
def SuspectCause.code : SuspectCause → Nat | .extra => 0 | .missed => 1 | .reversal => 2 | .halt => 3
def Stage.code : Stage → Nat | .scanning => 0 | .closed => 1 | .committed => 2 | .pastSaw => 3 | .finished => 4
def ProfileStatus.code : ProfileStatus → Nat | .empty => 0 | .complete => 1 | .partialCells => 2
def CloseCause.code : CloseCause → Nat | .allReported => 0 | .closeOffset => 1
def SolveState.code : SolveState → Nat | .none => 0 | .queued => 1 | .running => 2 | .done => 3 | .failed => 4
def OverrideKind.code : OverrideKind → Nat
  | .gradeSet => 0 | .gradeDown => 1 | .lengthLimit => 2 | .slash => 3 | .regrade => 4 | .cancel => 5
def PieceOutcome.code : PieceOutcome → Nat
  | .sorted => 0 | .runOut => 1 | .regrade => 2 | .slash => 3 | .untrimmed => 4 | .unsolved => 5 | .suspect => 6
  | .lost => 7
def BinState.code : BinState → Nat | .opened => 0 | .closed => 1 | .outOfService => 2
def BinCause.code : BinCause → Nat
  | .reservation => 0 | .release => 1 | .setCapacity => 2 | .emptied => 3 | .outOfService => 4
def KickState.code : KickState → Nat
  | .none => 0 | .notRun => 1 | .missed => 2 | .refused => 3 | .scheduled => 4 | .cancelled => 5
def LogOutcome.code : LogOutcome → Nat
  | .accepted => 0 | .rejected => 1 | .rejectMissed => 2 | .unmeasured => 3 | .passed => 4
def EndCause.code : EndCause → Nat | .kickPoint => 0 | .superseded => 1 | .fault => 2 | .reset => 3
def Phase.code : Phase → Nat | .gap => 0 | .fill => 1
def BankState.code : BankState → Nat | .empty => 0 | .loading => 1 | .partlyLoaded => 2 | .valid => 3 | .active => 4
def TableKind.code : TableKind → Nat
  | .headmap => 0 | .size => 1 | .grade => 2 | .price => 3 | .sort => 4 | .moisture => 5 | .log => 6 | .governor => 7
def LineEventKind.code : LineEventKind → Nat
  | .suspectSet => 0 | .suspectCleared => 1 | .haltEntered => 2 | .haltingFault => 3

/-- The status byte of a reply: 0 to 10 (11.5). -/
def Status.code : Status → Nat
  | .ok => 0 | .state => 1 | .busy => 2 | .range => 3 | .sequence => 4 | .referenced => 5 | .notValid => 6
  | .notSynced => 7 | .noData => 8 | .unknownKind => 9 | .length => 10

/-- The statuses of an OVERRIDE_REPLY (R81). -/
inductive OverrideStatus where
  | invalid | noPiece | tooLate | busy | accepted
  deriving DecidableEq, Repr

def OverrideStatus.code : OverrideStatus → Nat
  | .invalid => 0 | .noPiece => 1 | .tooLate => 2 | .busy => 3 | .accepted => 4

/-- The reasons of a LAPSED (R90, R92). -/
inductive LapseReason where
  | committed | lost
  deriving DecidableEq, Repr

def LapseReason.code : LapseReason → Nat | .committed => 0 | .lost => 1

/-! ### Composite fields -/

/-- A destination or bin field: a bin number, or 0xFF for RUN_OUT. -/
def Dest.put : Dest → List Byte
  | .bin b => put1 b
  | .runOut => put1 0xFF

/-- A set of flags. -/
def PieceFlags.put (f : PieceFlags) : List Byte :=
  packBits [f.partialProfile, f.heldMoisture, f.staleMoisture, f.scheduleFull, f.overridden] 1

/-- A condition with its cause: clear, or set with the cause. -/
def putSuspect : Option SuspectCause → List Byte
  | some c => putFlag true ++ put1 c.code
  | none => putFlag false ++ put1 0

/-- A decision in PIECE_DONE and PIECE_QUERY (R19): SLASH, or KEEP with left saw, right saw, grade, product and
reported value. -/
def Decision.put : Decision → List Byte
  | .slash => put1 0 ++ List.replicate 11 0
  | .keep l r g p v => put1 1 ++ put1 l ++ put1 r ++ put1 g ++ put4 p ++ put4 v

/-- A decision in RESULT and LAPSED (R89): KEEP with left saw, right saw, grade, length and reported value; SLASH; or
NONE. -/
def putPanelDecision : Option Decision → List Byte
  | some (.keep l r g _ v) => put1 0 ++ put1 l ++ put1 r ++ put1 g ++ put1 (2 * (r - l)) ++ put4 v
  | some .slash => put1 1 ++ List.replicate 8 0
  | none => put1 2 ++ List.replicate 8 0

/-- A size class (R19): UNDERSIZE, or a thickness class and a width class. -/
def SizeClass.put : SizeClass → List Byte
  | .undersize => put1 0 ++ List.replicate 2 0
  | .sized t w => put1 1 ++ put1 t ++ put1 w

/-- An override standing: kind, value and panel (R19, R79). -/
def Override.put (o : Override) : List Byte := put1 o.kind.code ++ put1 o.value ++ put1 (panelCode o.panel)

/-- A cell as a PIECE_QUERY or LAST_PROFILE reply shows it (R24): PRESENT with its values, ABSENT, UNKNOWN or
unreported. -/
def Cell.put : Cell → List Byte
  | .present t w a d => put1 0 ++ put2 t ++ put2 w ++ put1 a ++ put1 d
  | .absent => put1 1 ++ List.replicate 6 0
  | .unknown => put1 2 ++ List.replicate 6 0
  | .unreported => put1 3 ++ List.replicate 6 0

/-- A head's report state (R34), and 4 for a head the bank does not map (R38). -/
def putReport : Option HeadReport → List Byte
  | some .notReported => put1 0
  | some .board => put1 1
  | some .noBoard => put1 2
  | some .headFault => put1 3
  | none => put1 4

/-- A channel's moisture value with its HELD flag, optional (R24). -/
def putReading : Option Reading → List Byte := putOpt 3 fun r => put2 r.value ++ putFlag r.held

/-- The fields of R19 that stand after the destination. -/
def Piece.putTail (p : Piece) : List Byte :=
  putOpt 12 Decision.put p.decision ++ putOpt 3 SizeClass.put p.sizeClass ++ put1 p.revision.toNat ++
    putOpt 3 Override.put p.override ++ putSuspect p.suspect ++ p.flags.put ++ put1 p.solveState.code

/-- The body of PIECE_DONE (R19). -/
def Piece.putDone (p : Piece) : List Byte :=
  put2 p.lug.toNat ++ put4 p.admitCount.toNat ++ put1 p.bank.code ++
    put1 ((p.outcome.map PieceOutcome.code).getD 0) ++ putOpt 1 Dest.put p.dest ++ p.putTail

/-- The record in a PIECE_QUERY reply (R24) at lug number `now`: the stage and the position stand in place of the
outcome and the destination when these are absent (log 14). The status of a profile still open is sent as an absent
optional field (log 31). -/
def Piece.putQuery (p : Piece) (now : LugNo) : List Byte :=
  put2 p.lug.toNat ++ put4 p.admitCount.toNat ++ put1 p.bank.code ++
    (match p.outcome with
      | some o => put1 1 ++ put1 o.code
      | none => put1 0 ++ put1 p.stage.code) ++
    (match p.dest with
      | some d => put1 1 ++ d.put
      | none => put1 0 ++ put1 (now - p.lug).toNat) ++
    p.putTail ++ putOpt 1 (fun s => put1 (ProfileStatus.code s)) p.profile.status ++
    p.profile.cells.flatMap Cell.put ++ p.moisture.flatMap putReading

/-- The body of a LAST_PROFILE reply after its status (R38, R39). -/
def Summary.put (m : Summary) : List Byte :=
  put2 m.lug.toNat ++ put4 m.admitCount.toNat ++ put1 m.bank.code ++ put1 m.cause.code ++ put1 m.status.code ++
    putFlag m.suspect ++ m.reports.flatMap putReport ++ m.cells.flatMap Cell.put

/-- A bin's record: state, capacity, count, reserved, full flag, lifetime drops (R112). -/
def Bin.put (b : Bin) : List Byte :=
  put1 b.state.code ++ put2 b.capacity ++ put2 b.count ++ put2 b.reserved ++ putFlag b.full ++ put4 b.drops

/-- An event counter with its saturated flag (R169). -/
def EventCounter.put (c : EventCounter) : List Byte := put2 c.value ++ putFlag c.saturated

/-- The reasons of a REJECT. -/
def Reasons.put (r : Reasons) : List Byte :=
  packBits [r.noSamples, r.short, r.long, r.smallEnd, r.largeEnd, r.sweep] 1

/-- A log's decision: ACCEPT, or REJECT with its reasons. -/
def LogDecision.put : LogDecision → List Byte
  | .accept => put1 0 ++ put1 0
  | .reject why => put1 1 ++ why.put

/-- The figures of a log (R140). -/
def Figures.put (f : Figures) : List Byte :=
  put2 f.length ++ put2 f.firstEnd ++ put2 f.lastEnd ++ put2 f.sed ++ put2 f.led ++ putFlag f.smallLast ++
    putOpt 1 put1 f.diameterClass ++ put4 f.volume ++ put2 f.sweep

/-- The flags of a log. -/
def LogFlags.put (f : LogFlags) : List Byte :=
  packBits [f.clamped, f.overlong, f.gapped, f.noSamples, f.scheduleFull] 1

/-- The body of LOG_DONE (R140). -/
def LogRecord.put (l : LogRecord) : List Byte :=
  put2 l.number.toNat ++ put1 l.bank.code ++ put4 l.start.toNat ++ put1 ((l.outcome.map LogOutcome.code).getD 0) ++
    putOpt 1 (fun c => put1 (EndCause.code c)) l.endCause ++ put2 l.samples.length ++ putOpt 19 Figures.put l.figures ++
    putOpt 2 LogDecision.put l.decision ++ put1 l.kick.code ++ l.flags.put

/-- The flags of a recovery, in the order of R149. -/
def Recovery.putFlags (r : Recovery) : List Byte := packBits [r.noLogVolume, r.capped, r.saturated] 1

/-! ### Notices (R175, 11.5) -/

/-- The kind of a notice frame: 0x40 to 0x46. -/
def Notice.kind : Notice → Byte
  | .pieceDone _ => 0x40
  | .logDone _ => 0x41
  | .lineEvent .. => 0x42
  | .bankEvent .. => 0x43
  | .binEvent .. => 0x44
  | .panelEvent .. => 0x45
  | .tallyClosed .. => 0x46

/-- The cause a LINE_EVENT carries. -/
def EventCause.put : EventCause → List Byte
  | .suspect c => put1 c.code
  | .halting c => put1 c.code

/-- The body of a notice. -/
def Notice.body : Notice → List Byte
  | .pieceDone p => p.putDone
  | .logDone l => l.put
  | .lineEvent kind cause state left lug goodRun =>
    put1 kind.code ++ putOpt 1 EventCause.put cause ++ put1 state.code ++
      putOpt 1 (fun x => put1 (LineState.code x)) left ++ put2 lug.toNat ++ put1 goodRun
  | .bankEvent activated superseded lug =>
    put1 activated.code ++ putOpt 1 (fun x => put1 (BankId.code x)) superseded ++ put2 lug.toNat
  | .binEvent bin full cause after lug =>
    put1 bin ++ put1 (if full then 0 else 1) ++ put1 cause.code ++ put1 after.state.code ++ put2 after.capacity ++
      put2 after.count ++ put2 after.reserved ++ put2 lug.toNat
  | .panelEvent p present lug => put1 (panelCode p) ++ putFlag present ++ put2 lug.toNat
  | .tallyClosed closed new entries r =>
    put4 closed ++ put4 new ++ put4 entries ++ put8 r.bf48 ++ put8 r.logvol ++ put4 r.value ++ r.putFlags

/-- The frame of a queued notice (R174): its tag is the sequence number it took. -/
def QueuedNotice.frame (q : QueuedNotice) : Frame := ⟨q.notice.kind, q.tag, q.notice.body⟩

/-! ### Panel messages (R74) -/

/-- The body of a MARK for a piece (R79). -/
def Piece.putMark (p : Piece) : List Byte :=
  let shown : Nat :=
    match p.decision with
    | some (.keep ..) => 0
    | some .slash => 1
    | none => if p.solveState = .queued ∨ p.solveState = .running then 2 else 3
  let keep : List Byte :=
    match p.decision with
    | some (.keep l r g _ v) =>
      put1 1 ++ put1 l ++ put1 1 ++ put1 r ++ put1 1 ++ put1 g ++ put1 1 ++ put1 (2 * (r - l)) ++ put1 1 ++ put4 v
    | _ => List.replicate 13 0
  put2 p.lug.toNat ++ put1 p.revision.toNat ++ put1 shown ++ keep ++ putOpt 3 Override.put p.override ++
    putFlag p.suspect.isSome ++ putFlag p.flags.partialProfile

/-- The body of a RESULT for a piece (R89). -/
def Piece.putResult (p : Piece) (tag : Byte) : List Byte :=
  put1 tag.toNat ++ put2 p.lug.toNat ++ put1 p.revision.toNat ++ putPanelDecision p.decision ++
    putOpt 3 Override.put p.override ++ putFlag p.suspect.isSome

/-- The body of a LAPSED for an answer entry (R90). -/
def Answer.putLapsed (a : Answer) (why : LapseReason) (d : Option Decision) : List Byte :=
  put1 a.tag.toNat ++ put1 a.revision.toNat ++ put2 a.lug.toNat ++ put1 why.code ++ putPanelDecision d

/-- The body of a REPLACED for an answer entry (R88). -/
def Answer.putReplaced (a : Answer) (by_ : OverrideKind) (p : PanelId) : List Byte :=
  put1 a.tag.toNat ++ put1 a.revision.toNat ++ put2 a.lug.toNat ++ put1 by_.code ++ put1 (panelCode p)

/-! ### Pages (R146, R169) -/

/-- A page of a period (R146). -/
def Period.putPage (t : Period) : Nat → List Byte
  | 0 => t.pieceOutcomes.flatMap put4 ++ t.logOutcomes.flatMap put4 ++ putFlag t.saturated
  | 1 => (t.cells.take 48).flatMap fun c => put4 c.count ++ put6 c.bf48
  | 2 => (t.cells.drop 48).flatMap fun c => put4 c.count ++ put6 c.bf48
  | 3 => t.binDrops.flatMap put4
  | 4 => (t.logCells.take 18).flatMap putLogCell
  | 5 => (t.logCells.drop 18).flatMap putLogCell
  | _ => []
where
  /-- A log class cell. -/
  putLogCell (c : LogCell) : List Byte := put4 c.accepted ++ put6 c.acceptedVol ++ put4 c.all ++ put6 c.allVol

/-- The event counters of STATUS page 1, in the order of R168's table. -/
def State.counters (s : State) : List EventCounter :=
  let l := s.line.counters
  [l.encoder, l.estop, l.extra, l.missed, l.reversal, l.format, s.scan.late, s.scan.duplicate, l.failed, l.discarded,
   l.scheduleFull, s.moisture.skipped] ++ s.link.frameErrors ++ [s.link.dropped, s.panels.p1.dropped, s.panels.p2.dropped,
   s.scan.phantom, l.stray, l.untracked, l.logEncoder] ++ s.moisture.clamps ++ [l.fillDuringHold]

/-- The number of entries the schedule holds. -/
def Output.held (o : Output) : Nat := o.chain.length + o.log.length

/-- STATUS page 0 (R169), given the active bank. A halt cause of none is sent as an absent optional field (log 37). -/
def State.putPage0 (s : State) (active : Option BankId) : List Byte :=
  put1 s.line.state.code ++ putOpt 1 (fun c => put1 (HaltCause.code c)) s.line.haltCause ++ putFlag s.line.estopIn ++
    putFlag s.chain.encError ++ putFlag s.line.faultLine ++ put4 s.chain.count.toNat ++ put2 s.chain.lug.toNat ++
    put1 s.chain.goodRun ++ putSuspect s.chain.suspect ++ put8 s.chain.admitted.toNat ++ put8 s.chain.finished.toNat ++
    put1 s.chain.pieces.length ++ put1 s.solver.queue.length ++ putFlag s.solver.running.isSome ++
    put1 s.output.chain.length ++ put1 s.output.log.length ++
    packBits (s.output.saws ++ s.output.gates ++ [s.output.kicker]) 8 ++ putFlag s.panels.p1.present ++
    putFlag s.panels.p2.present ++ putFlag s.link.silent ++ put1 s.link.notices.length ++
    putOpt 1 (fun x => put1 (BankId.code x)) active ++ putOpt 1 (fun x => put1 (BankId.code x)) s.store.pendingBank ++
    put4 s.tally.period.number ++ putFlag s.tally.snapshot.isSome ++ put4 s.logs.count.toNat

/-- STATUS page 4 (R169). The decision for the latest lug number is the one last recorded, for the lug number after the
one just produced (log 38), GIVEN or WITHHELD, and WITHHELD where the record holds none (R155). -/
def State.putPage4 (s : State) : List Byte :=
  let g := s.governor
  put1 g.g ++ put1 g.phase.code ++ put1 g.remaining ++
    packBits [g.causes.idle, g.causes.halt, g.causes.hostSilent, g.causes.noBank] 1 ++ putFlag g.pressure ++
    putOpt 3 (fun x : PressureSample => put1 x.pressed ++ putFlag x.notice ++ putFlag x.found) g.sample ++
    putFlag g.permit ++ put1 (if g.given (s.chain.lug + 1) then 0 else 1) ++
    put1 s.logs.queue.length ++
    s.logs.queue.flatMap (fun l => put2 l.number.toNat ++ putFlag l.closed ++ putOpt 2 LogDecision.put l.decision ++
      put1 l.kick.code) ++
    putOpt 2 (fun n : LogNo => put2 n.toNat) s.logs.openLog

/-- A page 0..4 of STATUS (R169). -/
def State.putStatusPage (s : State) (active : Option BankId) : Nat → List Byte
  | 0 => s.putPage0 active
  | 1 => s.counters.flatMap EventCounter.put
  | 2 => (s.bins.take 24).flatMap Bin.put
  | 3 => (s.bins.drop 24).flatMap Bin.put
  | 4 => s.putPage4
  | _ => []

end Sys2Proof.Machine
end

