-- ==== Sys2Proof/Machine/Ops.lean ====
section
/-! DEFINITION. The operations the blocks share: changing one block, counting faults, the forced hold and notice
pressure of the governor, the notice queue and the transmitter, the panel ports, the schedule, the bins, the piece
records, the suspect condition, the tally and the finish of a piece. -/

namespace Sys2Proof.Machine

/-! ### Changing one block of the state -/

def State.onChain (s : State) (f : Chain → Chain) : State := { s with chain := f s.chain }
def State.onScan (s : State) (f : Scan → Scan) : State := { s with scan := f s.scan }
def State.onMoisture (s : State) (f : Moisture → Moisture) : State := { s with moisture := f s.moisture }
def State.onSolver (s : State) (f : Solver → Solver) : State := { s with solver := f s.solver }
def State.onPanels (s : State) (f : Panels → Panels) : State := { s with panels := f s.panels }
def State.onOutput (s : State) (f : Output → Output) : State := { s with output := f s.output }
def State.onBins (s : State) (f : List Bin → List Bin) : State := { s with bins := f s.bins }
def State.onLogs (s : State) (f : Logs → Logs) : State := { s with logs := f s.logs }
def State.onTally (s : State) (f : Tally → Tally) : State := { s with tally := f s.tally }
def State.onGovernor (s : State) (f : Governor → Governor) : State := { s with governor := f s.governor }
def State.onLine (s : State) (f : Line → Line) : State := { s with line := f s.line }
def State.onLink (s : State) (f : Link → Link) : State := { s with link := f s.link }
def State.onStore (s : State) (f : Store → Store) : State := { s with store := f s.store }

/-! ### Reading the state -/

/-- The bank record of a bank. -/
def State.bank (s : State) : BankId → Bank
  | .a => s.store.bankA
  | .b => s.store.bankB

/-- The active bank, or none (R179). -/
def State.activeBank (s : State) : Option BankId :=
  if s.store.bankA.state = .active then some .a else if s.store.bankB.state = .active then some .b else none

/-- Lug tracking is active in STANDBY, RUN and HALT (R4). -/
def State.tracking (s : State) : Bool := decide (s.line.state ≠ .idle)

/-- The record of a lug in the piece queue, or none (R16). -/
def State.piece? (s : State) (lug : LugNo) : Option Piece := s.chain.pieces.find? fun p => p.lug == lug

/-- The record of a log in the log queue, or none (R130). -/
def State.log? (s : State) (n : LogNo) : Option LogRecord := s.logs.queue.find? fun l => l.number == n

/-- The settings of a bank's GOVERNOR table (R154). -/
def Bank.governorRow (b : Bank) : Option GovernorRow := b.governor.rows.head?

/-- The limits of a bank's LOG table (R137). -/
def Bank.logLimits (b : Bank) : Option LogLimits := b.log.rows.head?

/-- The SORT entry of a bank for a grade and a length index (R111). -/
def Bank.sortRow (b : Bank) (grade lengthIndex : Nat) : Option SortRow := b.sort.rows[grade * 12 + lengthIndex]?

/-- A thickness class of a bank's SIZE table, when it is defined (R47). -/
def Bank.thickness (b : Bank) (t : Nat) : Option SizeClassRow := (b.size.rows[t]?).join

/-- A width class of a bank's SIZE table, when it is defined (R47). -/
def Bank.width (b : Bank) (w : Nat) : Option SizeClassRow := (b.size.rows[8 + w]?).join

/-- The run of cells of a head in a bank's HEADMAP, none when the head is unused (R27). -/
def Bank.headRun (b : Bank) (h : Nat) : HeadRow := (b.headmap.rows[h]?).join

/-- The settings of a moisture channel of a bank, none when it is disabled (R40). -/
def Bank.channel (b : Bank) (c : Nat) : Option ChannelRow :=
  match b.moisture.rows[c]? with
  | some (.channel r) => r
  | _ => none

/-- The resolution and the stale age of a bank's MOISTURE table (R40). -/
def Bank.moistureCommon (b : Bank) : Nat × Nat :=
  match b.moisture.rows[4]? with
  | some (MoistureRow.common r a) => (r, a)
  | _ => (12, 0)

/-- The limits of a grade code of a bank, none when the code is undefined (R48). -/
def Bank.gradeLimits (b : Bank) (g : Nat) : Option GradeLimits :=
  match b.grade.rows[g]? with
  | some (.code l) => l
  | _ => none

/-- The minimum product length and the bin-aware flag of a bank (R48). -/
def Bank.gradeCommon (b : Bank) : Nat × Bool :=
  match b.grade.rows[7]? with
  | some (GradeRow.common m f) => (m, f)
  | _ => (4, false)

/-- The price of a bank for a grade, length index and size classes (R49). -/
def Bank.priceOf (b : Bank) (g i t w : Nat) : Nat := b.price.rows.getD (((g * 12 + i) * 8 + t) * 8 + w) 0

/-! ### Counting faults (R168) -/

/-- The faults line control counts (R168). -/
inductive LineFault where
  | encoder | estop | extra | missed | reversal | format | failed | discarded | scheduleFull | stray | untracked
  | logEncoder | fillDuringHold
  deriving DecidableEq, Repr

/-- The counters after one fault. -/
def LineCounters.bump (c : LineCounters) : LineFault → LineCounters
  | .encoder => { c with encoder := c.encoder.bump }
  | .estop => { c with estop := c.estop.bump }
  | .extra => { c with extra := c.extra.bump }
  | .missed => { c with missed := c.missed.bump }
  | .reversal => { c with reversal := c.reversal.bump }
  | .format => { c with format := c.format.bump }
  | .failed => { c with failed := c.failed.bump }
  | .discarded => { c with discarded := c.discarded.bump }
  | .scheduleFull => { c with scheduleFull := c.scheduleFull.bump }
  | .stray => { c with stray := c.stray.bump }
  | .untracked => { c with untracked := c.untracked.bump }
  | .logEncoder => { c with logEncoder := c.logEncoder.bump }
  | .fillDuringHold => { c with fillDuringHold := c.fillDuringHold.bump }

/-- A fault reported to line control and counted (R168). -/
def countFault (f : LineFault) (s : State) : State := s.onLine fun l => { l with counters := l.counters.bump f }

/-- A frame error counted for a port (R168, R172). -/
def countFrameError (port : Port) (s : State) : State :=
  s.onLink fun l => { l with frameErrors := setAt l.frameErrors (portIndex port) EventCounter.bump }

/-! ### The governor's standing conditions (R156, R157) -/

/-- Whether any cause of forced hold is in effect. -/
def HoldCauses.any (c : HoldCauses) : Bool := c.idle || c.halt || c.hostSilent || c.noBank

/-- The causes of forced hold as the other blocks stand (R156). -/
def State.holdCauses (s : State) : HoldCauses :=
  { idle := decide (s.line.state = .idle), halt := decide (s.line.state = .halt), hostSilent := s.link.silent,
    noBank := s.activeBank.isNone }

/-- The causes weighed afresh (R156): when a hold begins, the permit line goes off and the permit record is emptied. -/
def weighHold (s : State) : State :=
  let now := s.holdCauses
  if now.any && !s.governor.causes.any then
    s.onGovernor fun g => { g with causes := now, permit := false, record := [] }
  else s.onGovernor fun g => { g with causes := now }

/-- Notice pressure weighed at a level against the active bank's water marks (R157). -/
def weighPressure (level : Nat) (s : State) : State :=
  match s.activeBank.bind fun x => (s.bank x).governorRow with
  | none => s
  | some r =>
    if !s.governor.pressure && decide (r.highWater ≤ level) then s.onGovernor fun g => { g with pressure := true }
    else if s.governor.pressure && decide (level ≤ r.lowWater) then s.onGovernor fun g => { g with pressure := false }
    else s

/-! ### The supervisor transmitter (R174, R175) -/

/-- The arbiter (R174): a free transmitter begins the oldest reply, or else the oldest notice, which leaves the queue
as its sending begins. -/
def arbitrate (s : State) : State :=
  match s.link.sending with
  | some _ => s
  | none =>
    match s.link.replies, s.link.notices with
    | r :: _, _ => s.onLink fun l => { l with sending := some (.reply r) }
    | [], q :: rest =>
      weighPressure rest.length (s.onLink fun l => { l with notices := rest, sending := some (.notice q.frame) })
    | [], [] => s

/-- The greatest number of notices in the queue (R175). -/
def noticeMax : Nat := 64

/-- A notice is made (R174, R175): it takes the sequence number, and joins the queue or is dropped and counted. -/
def queueNotice (n : Notice) (s : State) : State :=
  let tag := s.link.seq
  if s.link.notices.length < noticeMax then
    arbitrate (weighPressure (s.link.notices.length + 1)
      (s.onLink fun l => { l with seq := l.seq + 1, notices := l.notices ++ [⟨tag, n⟩] }))
  else s.onLink fun l => { l with seq := l.seq + 1, dropped := l.dropped.bump }

/-- A LINE_EVENT (R166) with the line state, lug number and good-lug run as they stand. -/
def lineEvent (kind : LineEventKind) (cause : Option EventCause) (left : Option LineState) (s : State) : State :=
  queueNotice (.lineEvent kind cause s.line.state left s.chain.lug s.chain.goodRun) s

/-- A reply joins the reply list (R173). -/
def makeReply (r : Reply) (s : State) : State := arbitrate (s.onLink fun l => { l with replies := l.replies ++ [r] })

/-! ### The panel ports (R74) -/

/-- The port of a panel. -/
def Panels.port (p : Panels) : PanelId → PanelPort
  | .p1 => p.p1
  | .p2 => p.p2

/-- A panel port changed. -/
def onPort (p : PanelId) (f : PanelPort → PanelPort) (s : State) : State :=
  s.onPanels fun x =>
    match p with
    | .p1 => { x with p1 := f x.p1 }
    | .p2 => { x with p2 := f x.p2 }

/-- The greatest number of frames in a panel port's output queue (R74). -/
def panelQueueMax : Nat := 160

/-- A free panel port begins its oldest waiting frame (R74). -/
def PanelPort.start (q : PanelPort) : PanelPort :=
  match q.sending, q.queue with
  | none, f :: rest => { q with sending := some f, queue := rest }
  | _, _ => q

/-- A frame made for a port (R74): it joins the output queue, or is dropped and counted when the queue holds 160. -/
def PanelPort.push (q : PanelPort) (f : Frame) : PanelPort :=
  if q.queue.length < panelQueueMax then PanelPort.start { q with queue := q.queue ++ [f] }
  else { q with dropped := q.dropped.bump }

/-- A HELLO answer or OVERRIDE_REPLY, which carries the tag of the panel's frame (R174). -/
def answerPanel (p : PanelId) (kind tag : Byte) (body : List Byte) (s : State) : State :=
  onPort p (fun q => q.push ⟨kind, tag, body⟩) s

/-- A MARK, RESULT, LAPSED or REPLACED for a panel: sent if the panel is PRESENT, with the port's sequence number as
its tag, spent even when the frame is dropped (R74, R174). -/
def tellPanel (p : PanelId) (kind : Byte) (body : List Byte) (s : State) : State :=
  onPort p (fun q => if q.present then { q.push ⟨kind, q.seq, body⟩ with seq := q.seq + 1 } else q) s

/-- The kinds of the frames sent on a panel port (11.5). -/
def kindHello : Byte := 0x20
def kindOverride : Byte := 0x21
def kindOverrideReply : Byte := 0x22
def kindMark : Byte := 0x23
def kindResult : Byte := 0x24
def kindLapsed : Byte := 0x25
def kindReplaced : Byte := 0x26

/-! ### The schedule (R102 to R106) -/

/-- A WAITING entry whose start count has been reached turns ON, and is removed when its end has been reached too
(R104). -/
def Entry.turnOn (now : Count) (e : Entry) : Option Entry :=
  if !e.on && reached now e.start then
    if reached now e.stop then none else some { e with on := true }
  else some e

/-- An ON entry whose end count has been reached is removed (R104). -/
def Entry.finish (now : Count) (e : Entry) : Option Entry := if e.on && reached now e.stop then none else some e

/-- An entry taken at a count (R104). -/
def Entry.take (now : Count) (e : Entry) : Option Entry := (e.finish now).bind (Entry.turnOn now)

/-- Whether some ON entry names a line (R105). -/
def Output.lineOn (o : Output) (l : TimedLine) : Bool :=
  o.chain.any (fun e => e.on && e.line == l) || o.log.any (fun e => e.on && e.line == l)

/-- Every line's state set afresh (R105). -/
def Output.refresh (o : Output) : Output :=
  { o with
    saws := (List.range 13).map fun k => o.lineOn (.saw k)
    gates := (List.range 48).map fun b => o.lineOn (.gate b)
    kicker := o.lineOn .kicker }

/-- The entries of one encoder. -/
def Output.entries (o : Output) : EncoderId → List Entry
  | .chain => o.chain
  | .log => o.log

/-- The entries of one encoder replaced, and every line set afresh (R105). -/
def Output.setEntries (o : Output) (enc : EncoderId) (es : List Entry) : Output :=
  match enc with
  | .chain => Output.refresh { o with chain := es }
  | .log => Output.refresh { o with log := es }

/-- The current count of an encoder. -/
def State.encoderCount (s : State) : EncoderId → Count
  | .chain => s.chain.count
  | .log => s.logs.count

/-- Every entry of an encoder taken at its current count, then the lines (R104). -/
def weighEntries (enc : EncoderId) (s : State) : State :=
  s.onOutput fun o => o.setEntries enc ((o.entries enc).filterMap (Entry.take (s.encoderCount enc)))

/-- An entry joins in order of start count, after those of equal start count (R102). -/
def insertEntry (e : Entry) : List Entry → List Entry
  | [] => [e]
  | x :: xs => if later x.start e.start then e :: x :: xs else x :: insertEntry e xs

/-- The greatest number of entries in the schedule (R102). -/
def scheduleMax : Nat := 48

/-- A request to add entries on an encoder is taken whole, each entry judged at once, or refused whole (R103). -/
def addEntries (enc : EncoderId) (es : List Entry) (s : State) : Option State :=
  if s.line.state = .halt ∨ scheduleMax < s.output.held + es.length then none
  else
    let joining := es.filterMap (Entry.turnOn (s.encoderCount enc))
    some (s.onOutput fun o => o.setEntries enc (joining.foldl (fun acc e => insertEntry e acc) (o.entries enc)))

/-- OWNER cancellation (R106): the WAITING chain entries of a lug are removed. -/
def cancelOwner (lug : LugNo) (s : State) : State :=
  s.onOutput fun o => o.setEntries .chain (o.chain.filter fun e => e.on || e.owner != lug)

/-- OWNER_GATE cancellation (R106): the WAITING GATE entries of a lug are removed. -/
def cancelOwnerGate (lug : LugNo) (s : State) : State :=
  s.onOutput fun o => o.setEntries .chain (o.chain.filter fun e => e.on || e.owner != lug || e.kind != .gate)

/-- ENCODER cancellation (R106): every entry of the encoder is removed. -/
def cancelEncoder (enc : EncoderId) (s : State) : State := s.onOutput fun o => o.setEntries enc []

/-- A log whose SCHEDULED kick's entry was removed is CANCELLED (R139). -/
def LogRecord.kickRemoved (owners : List LogNo) (l : LogRecord) : LogRecord :=
  if l.kick = .scheduled ∧ l.number ∈ owners then { l with kick := .cancelled } else l

/-- ALL cancellation (R106, R109): every entry is removed, and the log measurer is told the owners of the LOG entries
removed (R139). -/
def cancelAll (s : State) : State :=
  let owners := s.output.log.map Entry.owner
  (s.onOutput fun o => Output.refresh { o with chain := [], log := [] }).onLogs fun m =>
    { m with queue := m.queue.map (LogRecord.kickRemoved owners) }

/-! ### The bins (R112, R113, R120, R121) -/

/-- The full flag as count, reserved and capacity give it (R112). -/
def Bin.fullNow (b : Bin) : Bool := decide (b.capacity ≤ b.count + b.reserved)

/-- Bin `i`'s full flag weighed afresh, with a BIN_EVENT when it changes (R112, R113). -/
def weighBin (i : Nat) (cause : BinCause) (s : State) : State :=
  match s.bins[i]? with
  | none => s
  | some b =>
    if b.fullNow = b.full then s
    else
      let b' := { b with full := b.fullNow }
      queueNotice (.binEvent i b'.full cause b' s.chain.lug) (s.onBins fun l => l.set i b')

/-- Bin `i` changed by `f` and its full flag weighed afresh. -/
def changeBin (i : Nat) (f : Bin → Bin) (cause : BinCause) (s : State) : State :=
  weighBin i cause (s.onBins fun l => setAt l i f)

/-- A bin is available for reservation (R120). -/
def Bin.available (b : Bin) : Bool := decide (b.state = .opened) && decide (b.count + b.reserved < b.capacity)

/-- Whether the bin named is available for reservation; a bin given as none is not (R120). -/
def binAvailable (s : State) : Option Nat → Bool
  | none => false
  | some i => (s.bins[i]?).elim false Bin.available

/-- A reservation taken in bin `i` (R120). -/
def reserveBin (i : Nat) (s : State) : State :=
  changeBin i (fun b => { b with reserved := b.reserved + 1 }) .reservation s

/-- A reservation in bin `i` released (R121). -/
def releaseBin (i : Nat) (s : State) : State :=
  changeBin i (fun b => { b with reserved := b.reserved - 1 }) .release s

/-! ### Piece records (R15, R16) -/

/-- The record of a lug changed by `f`; nothing when the queue holds none. -/
def changePiece (lug : LugNo) (f : Piece → Piece) (s : State) : State :=
  s.onChain fun c => { c with pieces := changeFirst (fun p => p.lug == lug) f c.pieces }

/-! ### The suspect condition (R21, R22) -/

/-- A record marked suspect (R21): a record already suspect keeps its first cause. -/
def Piece.markSuspect (cause : SuspectCause) (p : Piece) : Piece :=
  match p.suspect with
  | some _ => p
  | none =>
    { p with
      suspect := some cause
      dest := match p.dest with
        | some (.bin _) => some .runOut
        | d => d }

/-- The bin in which a record holds a reservation, or none (R121). -/
def Piece.reservedBin (p : Piece) : Option Nat :=
  match p.dest with
  | some (.bin b) => some b
  | _ => none

/-- The suspect condition set with a cause (R21): records marked, reservations released, entries cancelled in OWNER
mode, and a SUSPECT_SET notice when the condition was clear. -/
def setSuspect (cause : SuspectCause) (s : State) : State :=
  let fresh := s.chain.pieces.filter fun p => p.suspect.isNone
  let was := s.chain.suspect
  let s1 := s.onChain fun c =>
    { c with suspect := some cause, pieces := c.pieces.map (Piece.markSuspect cause) }
  let s2 := (fresh.filterMap Piece.reservedBin).foldl (fun t b => releaseBin b t) s1
  let s3 := (fresh.map Piece.lug).foldl (fun t lug => cancelOwner lug t) s2
  if was.isNone then lineEvent .suspectSet (some (.suspect cause)) none s3 else s3

/-- The suspect condition cleared, with a SUSPECT_CLEARED notice when it was set (R22). -/
def clearSuspectNoticed (s : State) : State :=
  if s.chain.suspect.isSome then
    lineEvent .suspectCleared none none (s.onChain fun c => { c with suspect := none })
  else s

/-! ### The tally (R143 to R145) -/

/-- The place of an outcome among the piece outcome counters (R142). -/
def PieceOutcome.index (o : PieceOutcome) : Nat := o.code

/-- A period whose counters have been changed: its saturated flag is set when any of `reachedTop` holds (R145). -/
def Period.flag (t : Period) (reachedTop : Bool) : Period := { t with saturated := t.saturated || reachedTop }

/-- One finish added to the entry count (R142). -/
def Period.enter (t : Period) : Period :=
  let n := satAdd tallyMax t.entries 1
  Period.flag { t with entries := n } (n == tallyMax)

/-- One added to item `i` of a list of 32-bit counters, with whether it has reached its greatest value. -/
def bumpAt (l : List Nat) (i : Nat) : List Nat × Bool :=
  let l' := setAt l i fun n => satAdd tallyMax n 1
  (l', l'[i]? == some tallyMax)

/-- One piece outcome counted (R143 step 1). -/
def Period.countPiece (t : Period) (o : PieceOutcome) : Period :=
  let (l, top) := bumpAt t.pieceOutcomes o.index
  Period.flag { t.enter with pieceOutcomes := l } top

/-- One piece and its volume added to a tally cell (R143 step 2). -/
def Period.countCell (t : Period) (cell bf48 : Nat) : Period :=
  let l := setAt t.cells cell fun c => ⟨satAdd tallyMax c.count 1, satAdd sumMax c.bf48 bf48⟩
  Period.flag { t with cells := l } ((l[cell]?).elim false fun c => c.count == tallyMax || c.bf48 == sumMax)

/-- One drop counted for a bin (R143 step 3). -/
def Period.countDrop (t : Period) (b : Nat) : Period :=
  let (l, top) := bumpAt t.binDrops b
  Period.flag { t with binDrops := l } top

/-- The board volume in BF48 of a piece's KEEP span: Tq × W × length in feet (R57, R143). -/
def bf48Of (bank : Bank) (size : Option SizeClass) (left right : Nat) : Nat :=
  match size with
  | some (.sized t w) =>
    ((bank.thickness t).elim 0 SizeClassRow.nominal) * ((bank.width w).elim 0 SizeClassRow.nominal) *
      (2 * (right - left))
  | _ => 0

/-- A finished piece counted into the current period (R143). -/
def tallyPiece (p : Piece) (o : PieceOutcome) (s : State) : State :=
  let bank := s.bank p.bank
  s.onTally fun t =>
    let t1 := t.period.countPiece o
    let t2 :=
      match o, p.decision with
      | .sorted, some (.keep l r g _ _) => t1.countCell (g * 12 + (r - l - 1)) (bf48Of bank p.sizeClass l r)
      | .runOut, some (.keep l r g _ _) => t1.countCell (g * 12 + (r - l - 1)) (bf48Of bank p.sizeClass l r)
      | _, _ => t1
    let t3 :=
      match o, p.dest with
      | .sorted, some (.bin b) => t2.countDrop b
      | _, _ => t2
    { t with period := t3 }

/-! ### Finishing a piece (R18) -/

/-- A piece finished with an outcome (R18): outcome and stage set, the record removed, counted, and its PIECE_DONE
queued. A lug with no record changes nothing. -/
def finishPiece (lug : LugNo) (o : PieceOutcome) (s : State) : State :=
  match s.piece? lug with
  | none => s
  | some p =>
    let p' := { p with outcome := some o, stage := .finished }
    let s1 := s.onChain fun c =>
      { c with pieces := c.pieces.eraseP (fun q => q.lug == lug), finished := c.finished + 1 }
    queueNotice (.pieceDone p') (tallyPiece p' o s1)

/-! ### Requests (R173) -/

/-- What serving a request leaves: the state after its effects, and the status and content of its reply. -/
structure Served where
  state : State
  status : Status
  content : List Byte

end Sys2Proof.Machine
end

