-- ==== Sys2Proof/Machine/Answers.lean ====
section
/-! DEFINITION. The answer list of the panel unit and the messages that pay it (R88 to R90), and panel presence (R75). -/

namespace Sys2Proof.Machine

/-- The answer list's entry for a lug, or none (R88). -/
def State.answer? (s : State) (lug : LugNo) : Option Answer := s.panels.answers.find? fun a => a.lug == lug

/-- The entry for a lug leaves the answer list. -/
def dropAnswer (lug : LugNo) (s : State) : State :=
  s.onPanels fun p => { p with answers := p.answers.filter fun a => a.lug != lug }

/-- A RESULT for a piece, sent to a panel if it is PRESENT (R85, R86, R89). -/
def sendResult (p : PanelId) (tag : Byte) (lug : LugNo) (s : State) : State :=
  match s.piece? lug with
  | none => s
  | some x => tellPanel p kindResult (x.putResult tag) s

/-- The trim solver reports a written result for a piece at a revision: an answer entry of that revision is paid with
a RESULT (R71, R89). -/
def reportResult (lug : LugNo) (revision : Byte) (s : State) : State :=
  match s.answer? lug with
  | none => s
  | some a => if a.revision = revision then sendResult a.panel a.tag lug (dropAnswer lug s) else s

/-- A piece commits or is lost: an answer entry for it is paid with a LAPSED carrying the decision it holds (R90, R92). -/
def payLapsed (lug : LugNo) (why : LapseReason) (s : State) : State :=
  match s.answer? lug with
  | none => s
  | some a => tellPanel a.panel kindLapsed (a.putLapsed why ((s.piece? lug).bind Piece.decision)) (dropAnswer lug s)

/-- Whether an accepted override of a kind leaves an answer owed, given the piece's solve state (R88). -/
def answerOwed (k : OverrideKind) (st : SolveState) : Bool :=
  match k with
  | .slash => false
  | .regrade => decide (st = .none ∨ st = .queued ∨ st = .running)
  | _ => true

/-- The answer list brought up to date at an acceptance (R88): the piece's entry is replaced or removed, and a
replaced entry owed to the other panel is closed with a REPLACED. -/
def updateAnswers (p : PanelId) (tag : Byte) (lug : LugNo) (k : OverrideKind) (revision : Byte) (owed : Bool)
    (s : State) : State :=
  let old := s.answer? lug
  let s1 := dropAnswer lug s
  let s2 := if owed then s1.onPanels fun x => { x with answers := x.answers ++ [⟨lug, revision, p, tag⟩] } else s1
  match old with
  | some a => if a.panel = p then s2 else tellPanel a.panel kindReplaced (a.putReplaced k p) s2
  | none => s2

/-- A change of presence queues a PANEL_EVENT (R75). -/
def setPresence (p : PanelId) (present : Bool) (s : State) : State :=
  queueNotice (.panelEvent p present s.chain.lug) (onPort p (fun q => { q with present }) s)

/-- A valid frame on a panel port (R75): the silence timer restarts, and an ABSENT panel becomes PRESENT. -/
def panelHeard (p : PanelId) (s : State) : State :=
  let s1 := onPort p (fun q => { q with timer := 0 }) s
  if (s1.panels.port p).present then s1 else setPresence p true s1

/-- The panel timeout in force, in milliseconds: 30 s while no geometry set is loaded (R76). -/
def State.panelTimeoutMs (s : State) : Nat := (s.store.geometry.elim 30 Geometry.panelTimeout) * 1000

/-- The silence timer of a panel weighed against the timeout in force (R75, R76). -/
def weighPanelTimer (p : PanelId) (s : State) : State :=
  if (s.panels.port p).present ∧ s.panelTimeoutMs ≤ (s.panels.port p).timer then setPresence p false s else s

end Sys2Proof.Machine
end

