-- ==== Sys2Proof/Machine/Solver.lean ====
section
/-! DEFINITION. The trim solver (chapter 3): moisture fill, grading, valuing and choosing a trim, the solver queue and
the life of a solve. -/

namespace Sys2Proof.Machine

/-! ### Size class, skip, defect and wane cells (R51, R52) -/

/-- The thickness and width of a PRESENT cell. -/
def Cell.size? : Cell → Option (Nat × Nat)
  | .present t w _ _ => some (t, w)
  | _ => none

/-- The mean thickness and mean width over the PRESENT cells, or none where there is no PRESENT cell (R51). -/
def meanSize (cells : List Cell) : Option (Nat × Nat) :=
  let sizes := cells.filterMap Cell.size?
  if sizes.isEmpty then none
  else some ((sizes.map Prod.fst).sum / sizes.length, (sizes.map Prod.snd).sum / sizes.length)

/-- The defined class of highest number whose minimum is at or below a mean (R51). -/
def classFor (row : Nat → Option SizeClassRow) (mean : Nat) : Option Nat :=
  ((List.range 8).reverse).find? fun k => (row k).elim false fun r => decide (r.minimum ≤ mean)

/-- The size class that means earn (R51). -/
def sizeClassOf (b : Bank) (mean : Nat × Nat) : SizeClass :=
  match classFor b.thickness mean.1, classFor b.width mean.2 with
  | some t, some w => .sized t w
  | _, _ => .undersize

/-- A PRESENT cell below the minimum thickness or width of the piece's classes is a skip cell (R52). -/
def Cell.isSkip (minT minW : Nat) : Cell → Bool
  | .present t w _ _ => decide (t < minT) || decide (w < minW)
  | _ => false

/-- A PRESENT cell of defect class 1..6 is a defect cell (R52). -/
def Cell.isDefect : Cell → Bool
  | .present _ _ _ d => decide (1 ≤ d ∧ d ≤ 6)
  | _ => false

/-- A PRESENT cell of wane depth above 0 is a wane cell (R52). -/
def Cell.isWane : Cell → Bool
  | .present _ _ a _ => decide (0 < a)
  | _ => false

/-! ### Candidates and their grades (R53 to R56) -/

/-- A candidate trim with its grade. -/
structure Candidate where
  left : Nat
  right : Nat
  grade : Nat
  deriving DecidableEq, Repr

/-- A candidate's length in feet. -/
def Candidate.length (c : Candidate) : Nat := 2 * (c.right - c.left)

/-- The cells between saws a and b: 4a to 4b − 1. -/
def spanOf (cells : List Cell) (a b : Nat) : List Cell := (cells.drop (4 * a)).take (4 * (b - a))

/-- The saw pairs that are candidates (R53): long enough, and no cell of the span ABSENT. -/
def candidatePairs (minLength : Nat) (cells : List Cell) : List (Nat × Nat) :=
  (List.range 13).flatMap fun a =>
    (List.range 13).filterMap fun b =>
      if a < b ∧ minLength ≤ 2 * (b - a) ∧ Cell.absent ∉ spanOf cells a b then some (a, b) else none

/-- The span moisture (R55): the highest value among the usable channels whose cells overlap cells 4a to 4b − 1. -/
def spanMoisture (b : Bank) (moisture : List (Option Reading)) (left right : Nat) : Option Nat :=
  ((List.range 4).filterMap fun c =>
    match b.channel c, (moisture[c]?).join with
    | some ch, some r => if ch.first < 4 * right ∧ 4 * left ≤ ch.last then some r.value else none
    | _, _ => none).max?

/-- A defect class stands in an allow set: bit k of the byte stands for class k (R48). -/
def allowed (allow : Byte) (defect : Nat) : Bool := allow.getLsbD defect

/-- The limits of a grade hold for a span (R54). -/
def GradeLimits.hold (g : GradeLimits) (span : List Cell) (minT minW : Nat) (moist : Option Nat) : Bool :=
  let n := span.length
  !span.contains .unknown &&
    span.all (fun c => match c with | .present _ _ a _ => decide (a ≤ g.waneDepth) | _ => true) &&
    decide ((span.countP Cell.isWane) * 8 ≤ g.waneShare * n) &&
    span.all (fun c => match c with | .present _ _ _ d => !c.isDefect || allowed g.allow d | _ => true) &&
    decide ((span.countP Cell.isDefect) * 8 ≤ g.defectRate * n) &&
    decide (span.countP (Cell.isSkip minT minW) ≤ g.skip) &&
    moist.elim true fun m => decide (m ≤ g.moisture)

/-- The grade a span earns: the first defined code whose limits hold, or 7, CULL (R54). -/
def gradeOf (b : Bank) (span : List Cell) (minT minW : Nat) (moist : Option Nat) : Nat :=
  ((List.range 7).find? fun g => (b.gradeLimits g).elim false fun l => l.hold span minT minW moist).getD 7

/-- The candidates of a piece with the grades R54 gives them. -/
def candidates (b : Bank) (cells : List Cell) (moisture : List (Option Reading)) (minT minW : Nat) : List Candidate :=
  (candidatePairs b.gradeCommon.1 cells).map fun (l, r) =>
    ⟨l, r, gradeOf b (spanOf cells l r) minT minW (spanMoisture b moisture l r)⟩

/-- The override applied to the graded candidates (R56); SLASH decides before this step. -/
def applyOverride (o : Option Override) (cs : List Candidate) : List Candidate :=
  match o with
  | some ⟨.gradeSet, g, _⟩ => cs.map fun c => { c with grade := g }
  | some ⟨.gradeDown, _, _⟩ => cs.map fun c => { c with grade := min 7 (c.grade + 1) }
  | some ⟨.lengthLimit, l, _⟩ => cs.filter fun c => decide (c.length ≤ l)
  | _ => cs

/-! ### Valuing and choosing (R57 to R59) -/

/-- The product of a candidate: its BF48 times its price (R57). -/
def productOf (b : Bank) (t w : Nat) (c : Candidate) : Nat :=
  bf48Of b (some (.sized t w)) c.left c.right * b.priceOf c.grade (c.right - c.left - 1) t w

/-- The reported value of a product, in hundredths of a currency unit (R57). -/
def reportedValue (product : Nat) : Nat := (product + 240) / 480

/-- A bin is available to the solver (R58): OPEN, and count + reserved + margin below its capacity. -/
def solverBinAvailable (bins : List Bin) (margin : Nat) : Option Nat → Bool
  | none => false
  | some i => (bins[i]?).elim false fun x =>
      decide (x.state = .opened) && decide (x.count + x.reserved + margin < x.capacity)

/-- The candidates that keep their place under the bin-aware exclusion (R58). -/
def binAware (b : Bank) (bins : List Bin) (cs : List Candidate) : List Candidate :=
  if b.gradeCommon.2 then
    let margin := b.governorRow.elim 0 GovernorRow.margin
    let kept := cs.filter fun c =>
      (b.sortRow c.grade (c.right - c.left - 1)).elim false fun r =>
        solverBinAvailable bins margin r.primary || solverBinAvailable bins margin r.alternate
    if kept.isEmpty then cs else kept
  else cs

/-- Candidate `x` is chosen before `y` (R59): higher product, then longer, then lower grade, then smaller left saw. -/
def prefer (product : Candidate → Nat) (x y : Candidate) : Bool :=
  decide (product y < product x) ||
    (product x == product y && (decide (y.length < x.length) ||
      (x.length == y.length && (decide (x.grade < y.grade) || (x.grade == y.grade && decide (x.left < y.left))))))

/-- The candidate chosen (R59). -/
def choose (product : Candidate → Nat) : List Candidate → Option Candidate
  | [] => none
  | c :: cs => some (cs.foldl (fun best x => if prefer product x best then x else best) c)

/-- The decision of R59 among the remaining candidates. -/
def decideTrim (product : Candidate → Nat) (cs : List Candidate) : Decision :=
  match choose product cs with
  | none => .slash
  | some c => if product c = 0 then .slash else .keep c.left c.right c.grade (product c) (reportedValue (product c))

/-- Whether an override is of kind SLASH. -/
def isSlash (o : Option Override) : Bool := (o.map Override.kind) == some .slash

/-- The result of a solve (R50 to R60): size class and decision. -/
def Solve.result (v : Solve) (b : Bank) : Option SizeClass × Option Decision :=
  match meanSize v.cells with
  | none => (none, if isSlash v.override then some .slash else none)
  | some mean =>
    match sizeClassOf b mean with
    | .undersize => (some .undersize, some .slash)
    | .sized t w =>
      if isSlash v.override then (some (.sized t w), some .slash)
      else
        let minT := (b.thickness t).elim 0 SizeClassRow.minimum
        let minW := (b.width w).elim 0 SizeClassRow.minimum
        let cs := applyOverride v.override (candidates b v.cells v.moisture minT minW)
        (some (.sized t w), some (decideTrim (productOf b t w) (binAware b v.bins cs)))

/-! ### Moisture at a solve start (R44) -/

/-- One channel of a piece as a solve start leaves it, with whether it was filled and whether it was stale (R44). -/
def fillChannel (enabled : Bool) (own : Option Reading) (held : Option Nat) (fresh : Bool) :
    Option Reading × Bool × Bool :=
  if !enabled then (none, false, false)
  else
    match own with
    | some ⟨v, false⟩ => (some ⟨v, false⟩, false, false)
    | _ =>
      match held with
      | some v => if fresh then (some ⟨v, true⟩, true, false) else (none, false, true)
      | none => (none, false, false)

/-- A piece with its moisture filled from the unit's held readings at a solve start (R44). -/
def Piece.fillMoisture (p : Piece) (b : Bank) (m : Moisture) : Piece :=
  let filled := (List.range 4).map fun c =>
    fillChannel (b.channel c).isSome (p.moisture[c]?).join (m.held[c]?).join
      (decide (m.ages.getD c 0 ≤ b.moistureCommon.2))
  { p with
    moisture := filled.map Prod.fst
    flags := { p.flags with
      heldMoisture := p.flags.heldMoisture || filled.any fun x => x.2.1
      staleMoisture := p.flags.staleMoisture || filled.any fun x => x.2.2 } }

/-! ### The solver queue (R61 to R65) -/

/-- The greatest number of entries in the solver queue (R61). -/
def solverMax : Nat := 8

/-- A solve starts when none is in progress and an entry waits (R65): the oldest entry leaves the queue, the piece's
moisture is filled, its solve state becomes RUNNING, and the inputs of R50 are taken. -/
def startSolve (s : State) : State :=
  match s.solver.running, s.solver.queue with
  | none, lug :: rest =>
    let s1 := s.onSolver fun v => { v with queue := rest }
    match s1.piece? lug with
    | none => s1
    | some p =>
      let q := { p.fillMoisture (s1.bank p.bank) s1.moisture with solveState := .running }
      (changePiece lug (fun _ => q) s1).onSolver fun v =>
        { v with running := some { lug, revision := q.revision, cells := q.profile.cells, moisture := q.moisture,
                                   override := q.override, bank := q.bank, bins := s1.bins } }
  | _, _ => s

/-- A piece's solve state set. -/
def setSolveState (lug : LugNo) (st : SolveState) (s : State) : State :=
  changePiece lug (fun p => { p with solveState := st }) s

/-- An entry for a lug joins the solver queue, its solve state QUEUED, and starts at once when no solve is in progress
(R62, R65). -/
def joinSolver (lug : LugNo) (s : State) : State :=
  startSolve (setSolveState lug .queued (s.onSolver fun v => { v with queue := v.queue ++ [lug] }))

/-- A request for a piece whose profile is EMPTY is completed at once (R63). -/
def completeEmpty (lug : LugNo) (s : State) : State :=
  match s.piece? lug with
  | none => s
  | some p =>
    reportResult lug p.revision
      (changePiece lug (fun x =>
        { x with sizeClass := none, solveState := .done
                 decision := if isSlash x.override then some .slash else none }) s)

/-- Whether a piece's profile closed EMPTY (R36). -/
def Piece.emptyProfile (p : Piece) : Bool := decide (p.profile.status = some .empty)

/-- The request of a profile's close (R62, R63). -/
def requestAtClose (lug : LugNo) (s : State) : State :=
  match s.piece? lug with
  | none => s
  | some p =>
    if p.emptyProfile then completeEmpty lug s
    else if lug ∈ s.solver.queue then s
    else if s.solver.queue.length < solverMax then joinSolver lug s
    else countFault .failed (setSolveState lug .failed s)

/-- Whether the solver can take a request for a piece (R64, R82). -/
def canTakeRequest (lug : LugNo) (s : State) : Bool :=
  decide (lug ∈ s.solver.queue) || decide (s.solver.queue.length < solverMax)

/-- The request an accepted override makes for a CLOSED piece (R63, R64). -/
def requestForOverride (lug : LugNo) (s : State) : State :=
  match s.piece? lug with
  | none => s
  | some p =>
    if p.emptyProfile then completeEmpty lug s
    else if lug ∈ s.solver.queue then setSolveState lug .queued s
    else joinSolver lug s

/-! ### Completion, discard and commit (R67 to R69) -/

/-- Whether a piece has committed (R17). -/
def Piece.isCommitted (p : Piece) : Bool := decide (p.stage = .committed ∨ p.stage = .pastSaw ∨ p.stage = .finished)

/-- The solve state of a committed piece with no solve to come (R68, R69). -/
def Piece.settled (p : Piece) : SolveState := if p.decision.isSome then .done else .failed

/-- The solve state settled after a discard (R68). -/
def settleDiscard (lug : LugNo) (s : State) : State :=
  match s.piece? lug with
  | none => s
  | some p =>
    if p.isCommitted then setSolveState lug p.settled s
    else if lug ∈ s.solver.queue then setSolveState lug .queued s
    else if s.solver.queue.length < solverMax then joinSolver lug s
    else countFault .failed (setSolveState lug .failed s)

/-- Whether the result of a solve is written: the record stands, is CLOSED, and keeps the revision read (R67). -/
def Solve.stillWanted (v : Solve) (p : Piece) : Bool := decide (p.stage = .closed) && decide (p.revision = v.revision)

/-- The completion of the solve in progress (R67): its result written and reported, or discarded and settled; then the
next solve starts if an entry waits. -/
def completeSolve (s : State) : State :=
  match s.solver.running with
  | none => s
  | some v =>
    let s1 := s.onSolver fun x => { x with running := none }
    match s1.piece? v.lug with
    | none => startSolve (countFault .discarded s1)
    | some p =>
      if v.stillWanted p then
        let r := v.result (s1.bank v.bank)
        startSolve (reportResult v.lug v.revision
          (changePiece v.lug (fun x => { x with sizeClass := r.1, decision := r.2, solveState := .done }) s1))
      else startSolve (settleDiscard v.lug (countFault .discarded s1))

/-- The solver told of a commit (R69): the piece's entry leaves the queue and its solve state is settled. -/
def solverCommitted (lug : LugNo) (s : State) : State :=
  if lug ∈ s.solver.queue then
    changePiece lug (fun p => { p with solveState := p.settled })
      (s.onSolver fun v => { v with queue := v.queue.filter fun q => q != lug })
  else s

/-! ### Commands -/

/-- SOLVE_START (R65). -/
def execSolveStart (s : State) : Host.Outcome State Fault Refusal := .next (startSolve s)

/-- SOLVE_COMPLETE (R67). -/
def execSolveComplete (s : State) : Host.Outcome State Fault Refusal := .next (completeSolve s)

end Sys2Proof.Machine
end

