-- ==== Sys2Proof/Machine/Commit.lean ====
section
/-! DEFINITION. Trimmer control (chapter 5): the commit of a piece, its fire times, and the saw line; and the commands of
the output scheduler. -/

namespace Sys2Proof.Machine

/-- The outcome paths of a commit (R94). -/
inductive Path where
  | suspect | untrimmed | unsolved | slash | regrade | keep
  deriving DecidableEq, Repr

/-- The path of a piece at commit, the checks in the order of R94. -/
def pathOf (line : LineState) (p : Piece) : Path :=
  if p.suspect.isSome then .suspect
  else if line ≠ .run then .untrimmed
  else
    match p.decision with
    | none => .unsolved
    | some .slash => .slash
    | some (.keep ..) => if (p.override.map Override.kind) = some .regrade then .regrade else .keep

/-- The index of the last cell that is PRESENT or UNKNOWN, or none (R96). -/
def lastCell (cells : List Cell) : Option Nat :=
  ((cells.zipIdx.filter fun (c, _) => match c with
    | .present .. => true
    | .unknown => true
    | _ => false).map Prod.snd).getLast?

/-- The slash set of a profile (R96): every saw k with 4k at or below the last cell. -/
def slashSet (cells : List Cell) : List Nat :=
  match lastCell cells with
  | none => []
  | some last => (List.range 13).filter fun k => decide (4 * k ≤ last)

/-- The left and right saw of a KEEP decision. -/
def keepSaws : Option Decision → List Nat
  | some (.keep l r _ _ _) => [l, r]
  | _ => []

/-- The saws of a path (R94). -/
def sawsOf (path : Path) (p : Piece) : List Nat :=
  match path with
  | .slash => slashSet p.profile.cells
  | .regrade | .keep => keepSaws p.decision
  | _ => []

/-- The saw entry of a saw for a piece committed at count `c` (R99). -/
def sawEntry (g : Geometry) (c : Count) (lug : LugNo) (k : Nat) : Entry :=
  let start := c + BitVec.ofNat 32 ((g.sawLine - g.commit) * g.pitch) - BitVec.ofNat 32 g.sawLead
  { line := .saw k, start, stop := start + BitVec.ofNat 32 g.fireWidth, owner := lug, kind := .saw, on := false }

/-- The gate entry of bin `b` for a piece committed at count `c` (R99). -/
def gateEntry (g : Geometry) (c : Count) (lug : LugNo) (b : Nat) : Entry :=
  let start := c + BitVec.ofNat 32 ((g.drops.getD b 0 - g.commit) * g.pitch) - BitVec.ofNat 32 g.gateLead
  { line := .gate b, start, stop := start + BitVec.ofNat 32 g.gateWidth, owner := lug, kind := .gate, on := false }

/-- The bin a KEEP piece's reservation takes (R120): the primary of its SORT entry if available, else the alternate. -/
def binFor (s : State) (p : Piece) : Option Nat :=
  match p.decision with
  | some (.keep l r g _ _) =>
    match (s.bank p.bank).sortRow g (r - l - 1) with
    | none => none
    | some row => if binAvailable s row.primary then row.primary
                  else if binAvailable s row.alternate then row.alternate else none
  | _ => none

/-- The bin reserved on a path: only the KEEP path asks for one (R95). -/
def reservationOf (path : Path) (s : State) (p : Piece) : Option Nat :=
  match path with
  | .keep => binFor s p
  | _ => none

/-- The outcome a path fixes at commit, given the bin reserved (R94). -/
def outcomeOf (path : Path) (bin : Option Nat) : Option PieceOutcome :=
  match path with
  | .suspect => some .suspect
  | .untrimmed => some .untrimmed
  | .unsolved => some .unsolved
  | .slash => none
  | .regrade => some .regrade
  | .keep => if bin.isSome then none else some .runOut

/-- The record a commit writes (R98). -/
def Piece.committed (p : Piece) (dest : Dest) (outcome : Option PieceOutcome) (full : Bool) : Piece :=
  { p with stage := .committed, dest := some dest, outcome := outcome
           flags := { p.flags with scheduleFull := p.flags.scheduleFull || full } }

/-- The record written and the solver and the panel unit told of the commit (R98). -/
def writeCommit (lug : LugNo) (dest : Dest) (outcome : Option PieceOutcome) (full : Bool) (s : State) : State :=
  payLapsed lug .committed
    (solverCommitted lug (changePiece lug (fun p => p.committed dest outcome full) s))

/-- A piece commits at the advance count `c` (R93 to R98). Its entries join in the order of its saws, the gate last
(log 35). -/
def commitPiece (g : Geometry) (c : Count) (lug : LugNo) (s : State) : State :=
  match s.piece? lug with
  | none => s
  | some p =>
    let path := pathOf s.line.state p
    let bin := reservationOf path s p
    let s1 := bin.elim s fun b => reserveBin b s
    let entries := (sawsOf path p).map (sawEntry g c lug) ++ (bin.map (gateEntry g c lug)).toList
    if entries.isEmpty then writeCommit lug .runOut (outcomeOf path bin) false s1
    else
      match addEntries .chain entries s1 with
      | some s2 => writeCommit lug (bin.elim .runOut .bin) (outcomeOf path bin) false s2
      | none =>
        let s2 := bin.elim s1 fun b => releaseBin b s1
        writeCommit lug .runOut (some .untrimmed) true (countFault .scheduleFull s2)

/-- A piece reaches the saw line (R100): PAST_SAW, and an unsuspect SLASH piece with no outcome fixed finishes there. -/
def passSaw (lug : LugNo) (s : State) : State :=
  let s1 := changePiece lug (fun p => { p with stage := .pastSaw }) s
  match s1.piece? lug with
  | none => s1
  | some p =>
    if p.decision = some .slash ∧ p.suspect = none ∧ p.outcome = none then finishPiece lug .slash s1 else s1

/-! ### Commands of the scheduler -/

/-- WAITING entries of an encoder turn ON where their start count has been reached (R104). -/
def turnEntriesOn (enc : EncoderId) (s : State) : State :=
  s.onOutput fun o => o.setEntries enc ((o.entries enc).filterMap (Entry.turnOn (s.encoderCount enc)))

/-- ON entries of an encoder are removed where their end count has been reached (R104). -/
def endEntries (enc : EncoderId) (s : State) : State :=
  s.onOutput fun o => o.setEntries enc ((o.entries enc).filterMap (Entry.finish (s.encoderCount enc)))

/-- ENTRY_ON (R104). A transition takes the entries of its own count (log 1); this weighs them again. -/
def execEntryOn (enc : EncoderId) (s : State) : Host.Outcome State Fault Refusal := .next (turnEntriesOn enc s)

/-- ENTRY_END (R104). -/
def execEntryEnd (enc : EncoderId) (s : State) : Host.Outcome State Fault Refusal := .next (endEntries enc s)

end Sys2Proof.Machine
end

