-- ==== Sys2Proof/Machine/Halt.lean ====
section
/-! DEFINITION. Halting faults and the entry into HALT (R165, R166), and the emergency-stop commands. -/

namespace Sys2Proof.Machine

/-- Entry into HALT with a cause (R166), its six steps in order. -/
def enterHalt (cause : HaltCause) (s : State) : State :=
  let left := s.line.state
  let s1 := s.onLine fun l => { l with state := .halt, haltCause := some cause }
  let s2 := lineEvent .haltEntered (some (.halting cause)) (some left) s1
  let s3 := setSuspect .halt (cancelAll s2)
  weighHold (s3.onLine fun l => { l with faultLine := true })

/-- The counter of a halting fault (R168). -/
def HaltCause.fault : HaltCause → LineFault
  | .encoder => .encoder
  | .estop => .estop

/-- A halting fault (R165): counted; in STANDBY or RUN the line enters HALT, in HALT or IDLE a HALTING_FAULT is
queued. -/
def haltingFault (cause : HaltCause) (s : State) : State :=
  let s1 := countFault cause.fault s
  match s.line.state with
  | .standby | .run => enterHalt cause s1
  | .idle | .halt => lineEvent .haltingFault (some (.halting cause)) none s1

/-- The emergency-stop input is asserted (R165): a fault only on the change from released to asserted. -/
def assertEstop (s : State) : State :=
  if s.line.estopIn then s else haltingFault .estop (s.onLine fun l => { l with estopIn := true })

/-- The emergency-stop input is released (R165). -/
def releaseEstop (s : State) : State := s.onLine fun l => { l with estopIn := false }

/-- ESTOP (R165). -/
def execEstop (s : State) : Host.Outcome State Fault Refusal := .next (assertEstop s)

/-- ESTOP_RELEASE (R165). -/
def execEstopRelease (s : State) : Host.Outcome State Fault Refusal := .next (releaseEstop s)

end Sys2Proof.Machine
end

