-- ==== Sys2Proof/Machine/Tally.lean ====
section
/-! DEFINITION. The tally unit (chapter 8): counting a finished log, the recovery of a period, and the tally requests.
Counting a finished piece stands in Ops, with the finish that brings it. -/

namespace Sys2Proof.Machine

/-! ### Counting a finished log (R144) -/

/-- The place of an outcome among the log outcome counters (R142). -/
def LogOutcome.index (o : LogOutcome) : Nat := o.code

/-- One log outcome counted (R144 step 1). -/
def Period.countLog (t : Period) (o : LogOutcome) : Period :=
  let (l, top) := bumpAt t.logOutcomes o.index
  Period.flag { t.enter with logOutcomes := l } top

/-- A class cell with one log of a volume added (R144 steps 2 and 3). -/
def LogCell.add (c : LogCell) (accepted : Bool) (volume : Nat) : LogCell :=
  let c1 := { c with all := satAdd tallyMax c.all 1, allVol := satAdd sumMax c.allVol volume }
  if accepted then
    { c1 with accepted := satAdd tallyMax c.accepted 1, acceptedVol := satAdd sumMax c.acceptedVol volume }
  else c1

/-- Whether a counter or sum of a class cell stands at its greatest value (R145). -/
def LogCell.atTop (c : LogCell) : Bool :=
  c.accepted == tallyMax || c.all == tallyMax || c.acceptedVol == sumMax || c.allVol == sumMax

/-- A measured log counted in the cell of its diameter class, the first cell that of class 4 (R144). -/
def Period.countClass (t : Period) (diameterClass : Nat) (accepted : Bool) (volume : Nat) : Period :=
  let l := setAt t.logCells (diameterClass - 4) fun c => c.add accepted volume
  Period.flag { t with logCells := l } ((l[diameterClass - 4]?).elim false LogCell.atTop)

/-- A finished log counted into a period (R144). -/
def Period.takeLog (t : Period) (r : LogRecord) (o : LogOutcome) : Period :=
  let t1 := t.countLog o
  match o, r.figures with
  | .unmeasured, _ => t1
  | _, none => t1
  | _, some f =>
    match f.diameterClass with
    | none => t1
    | some d => t1.countClass d (decide (o = .accepted)) f.volume

/-- A finished log counted into the current period (R144). -/
def tallyLog (r : LogRecord) (o : LogOutcome) (s : State) : State :=
  s.onTally fun t => { t with period := t.period.takeLog r o }

/-! ### The recovery (R148) -/

/-- The recovery of a period with its sums and flags (R148). -/
def Period.recovery (t : Period) : Recovery :=
  let out := (t.cells.map TallyCell.bf48).sum
  let vol := (t.logCells.map LogCell.acceptedVol).sum
  let exact := if vol = 0 then 0 else (out * 1000000 + 48 * vol / 2) / (48 * vol)
  { bf48 := out, logvol := vol, value := min exact tallyMax, noLogVolume := decide (vol = 0),
    capped := decide (tallyMax < exact), saturated := t.saturated }

/-! ### The requests (R146, R147, R150, R151) -/

/-- The page number, the period number and the entry count, and behind them the page of a period (R146; order: log 36). -/
def Period.putRead (t : Period) (page : Nat) : List Byte :=
  put1 page ++ put4 t.number ++ put4 t.entries ++ t.putPage page

/-- TALLY_READ (R146). -/
def serveTallyRead (body : List Byte) (s : State) : Served :=
  let t := s.tally.period
  if 5 < byteAt body 0 then ⟨s, .range, put4 t.number ++ put4 t.entries⟩
  else ⟨s, .ok, t.putRead (byteAt body 0)⟩

/-- The number of the period after one closed (R147 step 4). -/
def nextPeriod (number : Nat) : Nat := if number = tallyMax then 1 else number + 1

/-- The tally after a close (R147 steps 1 to 5). -/
def Tally.close (t : Tally) : Tally :=
  { period := Period.fresh (nextPeriod t.period.number), snapshot := some ⟨t.period, t.period.recovery⟩ }

/-- TALLY_CLOSE (R147). -/
def serveTallyClose (s : State) : Served :=
  match s.tally.snapshot with
  | some h => ⟨s, .busy, put4 h.period.number⟩
  | none =>
    let t := s.tally.period
    let r := t.recovery
    ⟨queueNotice (.tallyClosed t.number (nextPeriod t.number) t.entries r) (s.onTally Tally.close), .ok,
      put4 t.number ++ put4 (nextPeriod t.number) ++ put4 t.entries ++ put4 r.value ++ r.putFlags⟩

/-- SNAPSHOT_READ (R150): page 0 also carries the sums, the recovery and its flags, behind the page (log 36). -/
def serveSnapshotRead (body : List Byte) (s : State) : Served :=
  match s.tally.snapshot with
  | none => ⟨s, .noData, []⟩
  | some h =>
    let page := byteAt body 0
    if 5 < page then ⟨s, .range, []⟩
    else
      ⟨s, .ok, h.period.putRead page ++
        (if page = 0 then
          put8 h.recovery.bf48 ++ put8 h.recovery.logvol ++ put4 h.recovery.value ++ h.recovery.putFlags
        else [])⟩

/-- SNAPSHOT_RELEASE (R151). -/
def serveSnapshotRelease (s : State) : Served :=
  match s.tally.snapshot with
  | none => ⟨s, .noData, []⟩
  | some h => ⟨s.onTally fun t => { t with snapshot := none }, .ok, put4 h.period.number⟩

end Sys2Proof.Machine
end

