-- ==== Sys2Proof/Machine/LogInfeed.lean ====
section
/-! DEFINITION. The log measurer (chapter 7): the log encoder, the records, sections and figures of a log, the decision,
the kick and the finish. -/

namespace Sys2Proof.Machine

/-! ### Finishing a log (R140) -/

/-- A log finished with an outcome (R140): the outcome set, the record removed, counted, and its LOG_DONE queued; when
it is the open log, the open log becomes none. A number with no record changes nothing. -/
def finishLog (n : LogNo) (o : LogOutcome) (cause : Option EndCause) (s : State) : State :=
  match s.log? n with
  | none => s
  | some r =>
    let r' := { r with outcome := some o, endCause := cause }
    let s1 := s.onLogs fun m =>
      { m with
        queue := m.queue.eraseP fun q => q.number == n
        openLog := if m.openLog = some n then none else m.openLog }
    queueNotice (.logDone r') (tallyLog r' o s1)

/-- The outcome and end cause of a record at its kick point (R140). -/
def kickOutcome (isOpen : Bool) (r : LogRecord) : LogOutcome × Option EndCause :=
  match r.decision with
  | none => (.unmeasured, some (if isOpen then .kickPoint else .superseded))
  | some .accept => (.accepted, none)
  | some (.reject _) =>
    match r.kick with
    | .scheduled => (.rejected, none)
    | .missed | .refused => (.rejectMissed, none)
    | .none | .notRun | .cancelled => (.passed, none)

/-- A log that has come to its kick point finishes (R140). -/
def finishAtKick (n : LogNo) (s : State) : State :=
  match s.log? n with
  | none => s
  | some r =>
    let out := kickOutcome (decide (s.logs.openLog = some n)) r
    finishLog n out.1 out.2 s

/-- Every record whose kick point count has been reached is finished, oldest first (R140). -/
def weighKicks (s : State) : State :=
  ((s.logs.queue.filter fun r => reached s.logs.count r.kickPoint).map LogRecord.number).foldl
    (fun t n => finishAtKick n t) s

/-- Every record finished UNMEASURED with an end cause, oldest first; the open log becomes none (R127, R141). -/
def finishAllLogs (cause : EndCause) (s : State) : State :=
  ((s.logs.queue.map LogRecord.number).foldl (fun t n => finishLog n .unmeasured (some cause) t) s).onLogs
    fun m => { m with openLog := none }

/-! ### The log encoder (R126, R127) -/

/-- A LOG_ENCODER fault (R126, R127): counted, the LOG entries removed, and every record in the queue finished. -/
def logEncoderFault (s : State) : State :=
  let s1 := cancelEncoder .log (countFault .logEncoder s)
  if s1.logs.queue.isEmpty then s1 else finishAllLogs .fault s1

/-- The count and the highest log count after a legal transition (R126, R127). -/
def Logs.move (forward : Bool) (m : Logs) : Logs :=
  let c := if forward then m.count + 1 else m.count - 1
  { m with
    count := c
    highest := if forward && !m.queue.isEmpty && later c m.highest then c else m.highest }

/-- The reversal check of the log encoder (R127). -/
def weighLogReversal (s : State) : State :=
  match s.store.geometry with
  | none => s
  | some g =>
    if !s.logs.queue.isEmpty && decide (g.reversalTol < fallenBelow s.logs.count s.logs.highest) then logEncoderFault s
    else s

/-- A legal transition of the log encoder with all that its change of count brings: the reversal check, the schedule,
and the kick points reached (R126, R127, R104, R140; log 1). -/
def logTransition (forward : Bool) (s : State) : State :=
  weighKicks (weighEntries .log (weighLogReversal (s.onLogs (Logs.move forward))))

/-! ### Starting a log (R129, R130) -/

/-- A log record at its creation (R129, R130). -/
def LogRecord.begin_ (n : LogNo) (bank : BankId) (start : Count) (kickDistance cpi : Nat) : LogRecord :=
  { number := n, bank, start, kickPoint := start + BitVec.ofNat 32 (kickDistance * cpi), closed := false, samples := [],
    figures := none, decision := none, kick := .none, flags := ⟨false, false, false, false, false⟩, outcome := none,
    endCause := none }

/-- The greatest number of records in the log queue (R130). -/
def logQueueMax : Nat := 8

/-- A LOG_START (R129): the open log is ended; in IDLE or with 8 records the log is UNTRACKED, otherwise a record is
made. -/
def startLog (s : State) : State :=
  let s1 := s.onLogs fun m => { m with openLog := none }
  if s.line.state = .idle ∨ logQueueMax ≤ s.logs.queue.length then countFault .untracked s1
  else
    s1.onLogs fun m =>
      let n := m.number + 1
      { m with
        number := n
        openLog := some n
        highest := if m.queue.isEmpty then m.count else m.highest
        queue := m.queue ++ [LogRecord.begin_ n (s.activeBank.getD .a) m.count
          (s.store.geometry.elim 0 Geometry.kickDistance) (s.store.geometry.elim 0 Geometry.cpi)] }

/-! ### Sections (R131) -/

/-- The open log's record, if there is one (R129). -/
def State.openRecord (s : State) : Option LogRecord := s.logs.openLog.bind s.log?

/-- The record of a log changed by `f`. -/
def changeLog (n : LogNo) (f : LogRecord → LogRecord) (s : State) : State :=
  s.onLogs fun m => { m with queue := changeFirst (fun r => r.number == n) f m.queue }

/-- The distance in inches from a log's start count to a count, 0 when the count has not reached it (R131, R133). -/
def inchesFrom (start count : Count) (cpi : Nat) : Nat := if reached count start then (count - start).toNat / cpi else 0

/-- The position of a section taken at a count (R131 step 1): never below that of the last sample. -/
def LogRecord.position (r : LogRecord) (count : Count) (cpi : Nat) : Nat :=
  max (inchesFrom r.start count cpi) ((r.samples.getLast?).elim 0 Sample.pos)

/-- A diameter clamped to 600 (R131 step 4). -/
def clampDiameter (d : Nat) : Nat := min d 600

/-- A centre offset clamped to −600..600 (R131 step 4). -/
def clampOffset (c : Int) : Int := min (max c (-600)) 600

/-- The greatest number of samples of a log (R130). -/
def sampleMax : Nat := 256

/-- The greatest position of a sample, in inches (R130). -/
def positionMax : Nat := 480

/-- A section given to an open record (R131 steps 2 to 4). -/
def LogRecord.takeSection (r : LogRecord) (pos dx dy : Nat) (cx cy : Int) : LogRecord :=
  if positionMax < pos ∨ sampleMax ≤ r.samples.length then { r with flags := { r.flags with overlong := true } }
  else
    { r with
      samples := r.samples ++ [⟨pos, clampDiameter dx, clampDiameter dy, clampOffset cx, clampOffset cy⟩]
      flags := { r.flags with
        clamped := r.flags.clamped ||
          decide (clampDiameter dx ≠ dx ∨ clampDiameter dy ≠ dy ∨ clampOffset cx ≠ cx ∨ clampOffset cy ≠ cy) } }

/-- A LOG_SECTION (R131): placed and taken for the open log, or STRAY. -/
def takeSection (dx dy : Nat) (cx cy : Int) (s : State) : State :=
  match s.openRecord with
  | none => countFault .stray s
  | some r =>
    let pos := r.position s.logs.count (s.store.geometry.elim 1 Geometry.cpi)
    changeLog r.number (fun x => x.takeSection pos dx dy cx cy) s

/-! ### The figures of a log (R133 to R136) -/

/-- The end diameter of a sample (R133). -/
def Sample.diameter (x : Sample) : Nat := (x.dx + x.dy) / 2

/-- The diameter class of a SED (R133). -/
def diameterClassOf (sed : Nat) : Nat := min (max (sed / 10) 4) 40

/-- The sum U over consecutive pairs of samples (R134). -/
def endAreaSum : List Sample → Nat
  | x :: y :: rest => (y.pos - x.pos) * (x.dx * x.dy + y.dx * y.dy) + endAreaSum (y :: rest)
  | _ => 0

/-- The volume for a sum U, in thousandths of a cubic foot (R134). -/
def volumeOf (u : Nat) : Nat := (u * 3550 + 781056) / 1562112

/-- The chord's centre at position `p` between the ends at `p0` and `pN` (R135), the division toward zero. -/
def chordAt (c0 cN : Int) (p0 pN p : Nat) : Int :=
  if pN = p0 then c0 else c0 + ((cN - c0) * ((p : Int) - p0)).tdiv ((pN : Int) - p0)

/-- The departure of a sample from the chord between two samples (R135). -/
def Sample.departure (first last x : Sample) : Nat :=
  max (x.cx - chordAt first.cx last.cx first.pos last.pos x.pos).natAbs
    (x.cy - chordAt first.cy last.cy first.pos last.pos x.pos).natAbs

/-- The sweep of a run of samples (R135). -/
def sweepOf (xs : List Sample) : Nat :=
  match xs.head?, xs.getLast? with
  | some a, some z =>
    if xs.length < 3 ∨ a.pos = z.pos then 0 else (xs.map (Sample.departure a z)).foldl max 0
  | _, _ => 0

/-- The figures of a log of a length with the samples given (R133 to R136). -/
def figuresOf (length : Nat) (xs : List Sample) : Figures :=
  match xs.head?, xs.getLast? with
  | some a, some z =>
    let sed := min a.diameter z.diameter
    { length, firstEnd := a.diameter, lastEnd := z.diameter, sed, led := max a.diameter z.diameter,
      smallLast := decide (z.diameter < a.diameter), diameterClass := some (diameterClassOf sed),
      volume := volumeOf (endAreaSum xs), sweep := sweepOf xs }
  | _, _ =>
    { length, firstEnd := 0, lastEnd := 0, sed := 0, led := 0, smallLast := false, diameterClass := none, volume := 0,
      sweep := 0 }

/-- Some two consecutive samples stand further apart than the spacing (R136). -/
def gapBetween (spacing : Nat) : List Sample → Bool
  | x :: y :: rest => decide (spacing < y.pos - x.pos) || gapBetween spacing (y :: rest)
  | _ => false

/-- Whether a log of a length is GAPPED (R136); a log with no sample is not weighed. -/
def isGapped (spacing length : Nat) (xs : List Sample) : Bool :=
  match xs.head?, xs.getLast? with
  | some a, some z => decide (spacing < a.pos) || gapBetween spacing xs || decide (spacing < length - z.pos)
  | _, _ => false

/-! ### The decision (R138) -/

/-- The reasons against a log (R138); a log with no sample is weighed for NO_SAMPLES, SHORT and LONG alone. -/
def LogLimits.reasons (l : LogLimits) (empty : Bool) (f : Figures) : Reasons :=
  { noSamples := empty, short := decide (f.length < l.minLength), long := decide (l.maxLength < f.length),
    smallEnd := !empty && decide (f.sed < l.minSed), largeEnd := !empty && decide (l.maxLed < f.led),
    sweep := !empty && decide (l.maxSweep < f.sweep) }

/-- Whether any reason stands. -/
def Reasons.any (r : Reasons) : Bool := r.noSamples || r.short || r.long || r.smallEnd || r.largeEnd || r.sweep

/-- The decision for a log (R138). -/
def LogLimits.judge (l : LogLimits) (empty : Bool) (f : Figures) : LogDecision :=
  if (l.reasons empty f).any then .reject (l.reasons empty f) else .accept

/-! ### The kick (R139) -/

/-- The kick start count of a record (R139). -/
def LogRecord.kickStart (r : LogRecord) (lead : Nat) : Count := r.kickPoint - BitVec.ofNat 32 lead

/-- The kicker entry of a record (R139). -/
def LogRecord.kickEntry (r : LogRecord) (lead width : Nat) : Entry :=
  { line := .kicker, start := r.kickStart lead, stop := r.kickStart lead + BitVec.ofNat 32 width, owner := r.number,
    kind := .kick, on := false }

/-- A record's kick state set. -/
def setKick (n : LogNo) (k : KickState) (s : State) : State := changeLog n (fun r => { r with kick := k }) s

/-- The kick of a log just decided (R139), the checks in the order given. -/
def settleKick (r : LogRecord) (d : LogDecision) (s : State) : State :=
  match d with
  | .accept => s
  | .reject _ =>
    if s.line.state ≠ .run then setKick r.number .notRun s
    else
      let lead := s.store.geometry.elim 0 Geometry.kickLead
      let width := s.store.geometry.elim 1 Geometry.kickWidth
      if reached s.logs.count (r.kickStart lead) then setKick r.number .missed s
      else
        match addEntries .log [r.kickEntry lead width] s with
        | none =>
          countFault .scheduleFull (changeLog r.number
            (fun x => { x with kick := .refused, flags := { x.flags with scheduleFull := true } }) s)
        | some s' => setKick r.number .scheduled s'

/-! ### LOG_END (R132) -/

/-- A record closed at a LOG_END with its figures, its decision and the flags of R136. -/
def LogRecord.close (r : LogRecord) (length spacing : Nat) (d : LogDecision) : LogRecord :=
  { r with
    closed := true
    figures := some (figuresOf length r.samples)
    decision := some d
    flags := { r.flags with
      gapped := isGapped spacing length r.samples
      noSamples := r.samples.isEmpty } }

/-- A LOG_END (R132): the open log closed, measured, decided and its kick settled; or STRAY. -/
def endLog (s : State) : State :=
  match s.openRecord with
  | none => countFault .stray s
  | some r =>
    let length := inchesFrom r.start s.logs.count (s.store.geometry.elim 1 Geometry.cpi)
    let f := figuresOf length r.samples
    let d := ((s.bank r.bank).logLimits).elim .accept fun l => l.judge r.samples.isEmpty f
    let s1 := (changeLog r.number (fun x => x.close length (s.store.geometry.elim 2 Geometry.sampleSpacing) d) s).onLogs
      fun m => { m with openLog := none }
    settleKick r d s1

/-! ### Commands -/

/-- LOG_LEGAL_TRANSITION (R126). -/
def execLogLegalTransition (forward : Bool) (s : State) : Host.Outcome State Fault Refusal :=
  .next (logTransition forward s)

/-- LOG_ILLEGAL_TRANSITION (R126). -/
def execLogIllegalTransition (s : State) : Host.Outcome State Fault Refusal := .next (logEncoderFault s)

/-- KICK_POINT (R140). A transition finishes the logs whose kick point its count reaches (log 1); this weighs them
again. -/
def execKickPoint (s : State) : Host.Outcome State Fault Refusal := .next (weighKicks s)

/-- LOG_START (R129). -/
def execLogStart (s : State) : Host.Outcome State Fault Refusal := .next (startLog s)

/-- LOG_SECTION (R131). -/
def execLogSection (dx dy cx cy : BitVec 16) (s : State) : Host.Outcome State Fault Refusal :=
  .next (takeSection dx.toNat dy.toNat cx.toInt cy.toInt s)

/-- LOG_END (R132). -/
def execLogEnd (s : State) : Host.Outcome State Fault Refusal := .next (endLog s)

end Sys2Proof.Machine
end

