-- ==== Sys2Proof/Machine/Governor.lean ====
section
/-! DEFINITION. The feed governor's cycle (chapter 9): the step at a lug advance, the pressure sample, the adjustment of
the gap target, the new bank's settings, and FILL_DURING_HOLD. -/

namespace Sys2Proof.Machine

/-- A bin is pressed (R119): OPEN, and count + reserved + margin at or above its capacity. -/
def Bin.pressed (margin : Nat) (b : Bin) : Bool :=
  decide (b.state = .opened) && decide (b.capacity ≤ b.count + b.reserved + margin)

/-- The gap target after an adjustment (R160). -/
def GovernorRow.adjust (r : GovernorRow) (pressure : Bool) (g : Nat) : Nat :=
  if pressure then min (g + r.up) r.gMax else max (g - r.down) r.gMin

/-- The end of a phase (R159 step 4): a GAP becomes FILL with W; a FILL is sampled (R158), G is adjusted (R160), and
the next phase is GAP with G, or FILL with W when G is 0. -/
def Governor.endPhase (r : GovernorRow) (bins : List Bin) (g : Governor) : Governor :=
  match g.phase with
  | .gap => { g with phase := .fill, remaining := r.window }
  | .fill =>
    let pressed := bins.countP (Bin.pressed r.margin)
    let found := decide (r.binPressure ≤ pressed) || g.pressure
    let target := r.adjust found g.g
    let g1 := { g with sample := some ⟨pressed, g.pressure, found⟩, g := target }
    if 0 < target then { g1 with phase := .gap, remaining := target }
    else { g1 with phase := .fill, remaining := r.window }

/-- A decision recorded for a lug number, the two latest kept, and the permit line set (R155). -/
def Governor.permitFor (next : LugNo) (given : Bool) (g : Governor) : Governor :=
  let l := g.record ++ [(next, given)]
  { g with record := l.drop (l.length - 2), permit := given }

/-- The governor's step at the advance that produced lug number `lug`, outside a forced hold (R159). -/
def Governor.step (r : GovernorRow) (bins : List Bin) (lug : LugNo) (g : Governor) : Governor :=
  let g1 := if g.remaining = 0 then g.endPhase r bins else g
  let g2 := g1.permitFor (lug + 1) (g1.phase == .fill)
  let g3 := { g2 with remaining := g2.remaining - 1 }
  if g3.remaining = 0 then g3.endPhase r bins else g3

/-- The governor at a lug advance (R156, R159): nothing in a forced hold. -/
def stepGovernor (s : State) : State :=
  if s.governor.causes.any then s
  else
    match s.activeBank.bind fun x => (s.bank x).governorRow with
    | none => s
    | some r => s.onGovernor fun g => g.step r s.bins s.chain.lug

/-- The governor adopts the settings of a bank whose activation is taken (R160). -/
def Governor.adopt (r : GovernorRow) (g : Governor) : Governor :=
  let target := min (max g.g r.gMin) r.gMax
  let remaining :=
    match g.phase with
    | .gap => min g.remaining target
    | .fill => min g.remaining r.window
  { g with g := target, remaining }

/-- The governor at LINE_RESET (R162). -/
def Governor.lineReset (r : Option GovernorRow) (g : Governor) : Governor :=
  let g1 := { g with record := [], permit := false }
  match r with
  | some r => { g1 with g := r.gMin, phase := .fill, remaining := r.window }
  | none => g1

/-- An admitted lug looked up in the permit record (R161): a lug WITHHELD or with no entry is FILL_DURING_HOLD. -/
def weighAdmission (lug : LugNo) (s : State) : State :=
  if s.governor.given lug then s else countFault .fillDuringHold s

end Sys2Proof.Machine
end

