-- ==== Sys2Proof/Machine/Banks.lean ====
section
/-! DEFINITION. The bank store (chapter 11): references, range checks, load sequences, activation, the geometry set. -/

namespace Sys2Proof.Machine

/-! ### Bank records -/

/-- A bank record changed. -/
def onBank (x : BankId) (f : Bank → Bank) (s : State) : State :=
  s.onStore fun st =>
    match x with
    | .a => { st with bankA := f st.bankA }
    | .b => { st with bankB := f st.bankB }

/-- The pieces in flight that carry a bank (R179). -/
def State.pieceRefs (s : State) (x : BankId) : Nat := s.chain.pieces.countP fun p => p.bank == x

/-- The logs in flight that carry a bank (R179). -/
def State.logRefs (s : State) (x : BankId) : Nat := s.logs.queue.countP fun l => l.bank == x

/-- Whether a bank is referenced (R179). -/
def State.referenced (s : State) (x : BankId) : Bool := decide (0 < s.pieceRefs x + s.logRefs x)

/-- The loaded flag of a kind (R180). -/
def Bank.loaded (b : Bank) : TableKind → Bool
  | .headmap => b.headmap.loaded | .size => b.size.loaded | .grade => b.grade.loaded | .price => b.price.loaded
  | .sort => b.sort.loaded | .moisture => b.moisture.loaded | .log => b.log.loaded | .governor => b.governor.loaded

/-- The loaded flag of a kind set. -/
def Bank.setLoaded (b : Bank) (v : Bool) : TableKind → Bank
  | .headmap => { b with headmap := { b.headmap with loaded := v } }
  | .size => { b with size := { b.size with loaded := v } }
  | .grade => { b with grade := { b.grade with loaded := v } }
  | .price => { b with price := { b.price with loaded := v } }
  | .sort => { b with sort := { b.sort with loaded := v } }
  | .moisture => { b with moisture := { b.moisture with loaded := v } }
  | .log => { b with log := { b.log with loaded := v } }
  | .governor => { b with governor := { b.governor with loaded := v } }

/-- A kind emptied and unloaded, as a FIRST frame leaves it (R180). -/
def Bank.clearKind (b : Bank) : TableKind → Bank
  | .headmap => { b with headmap := ⟨false, []⟩ }
  | .size => { b with size := ⟨false, []⟩ }
  | .grade => { b with grade := ⟨false, []⟩ }
  | .price => { b with price := ⟨false, []⟩ }
  | .sort => { b with sort := ⟨false, []⟩ }
  | .moisture => { b with moisture := ⟨false, []⟩ }
  | .log => { b with log := ⟨false, []⟩ }
  | .governor => { b with governor := ⟨false, []⟩ }

/-- Entries stored at their offsets, the first at offset `at_` (R180): a sequence stores them from 0 in order. -/
def Bank.store (b : Bank) (at_ : Nat) (es : List (List Byte)) : TableKind → Bank
  | .headmap => { b with headmap := { b.headmap with rows := b.headmap.rows ++ es.map HeadRow.ofBytes } }
  | .size => { b with size := { b.size with rows := b.size.rows ++ es.map sizeRowOfBytes } }
  | .grade =>
    { b with grade := { b.grade with rows := b.grade.rows ++ es.zipIdx.map fun (e, i) => GradeRow.ofBytes (at_ + i) e } }
  | .price => { b with price := { b.price with rows := b.price.rows ++ es.map fun e => u16At e 0 } }
  | .sort => { b with sort := { b.sort with rows := b.sort.rows ++ es.map SortRow.ofBytes } }
  | .moisture =>
    { b with moisture := { b.moisture with
        rows := b.moisture.rows ++ es.zipIdx.map fun (e, i) => MoistureRow.ofBytes (at_ + i) e } }
  | .log => { b with log := { b.log with rows := b.log.rows ++ es.map LogLimits.ofBytes } }
  | .governor => { b with governor := { b.governor with rows := b.governor.rows ++ es.map GovernorRow.ofBytes } }

/-! ### Range checks at a LAST frame (R27, R40, R47, R48, R49, R111, R137, R154) -/

/-- HEADMAP ranges (R27). -/
def headmapOk (rows : List HeadRow) : Bool :=
  rows.length == 8 && rows.all fun r => r.elim true fun (f, l) => decide (f ≤ l ∧ l ≤ 51)

/-- The defined classes rise strictly in nominal and in minimum (R47). -/
def risingClasses : List SizeClassRow → Bool
  | x :: y :: rest => decide (x.nominal < y.nominal ∧ x.minimum < y.minimum) && risingClasses (y :: rest)
  | _ => true

/-- One kind of size class of a SIZE table (R47): nominals 2..16, minima 0..1023, rising, and at least one defined. -/
def classesOk (rows : List (Option SizeClassRow)) : Bool :=
  let d := rows.filterMap id
  !d.isEmpty && d.all (fun r => decide (2 ≤ r.nominal ∧ r.nominal ≤ 16 ∧ r.minimum ≤ 1023)) && risingClasses d

/-- SIZE ranges (R47). -/
def sizeOk (rows : List (Option SizeClassRow)) : Bool :=
  rows.length == 16 && classesOk (rows.take 8) && classesOk (rows.drop 8)

/-- A GRADE entry's ranges (R48): the allow set names classes 1..6 alone. -/
def GradeRow.ok : GradeRow → Bool
  | .code none => true
  | .code (some l) =>
    decide (l.waneDepth ≤ 63 ∧ l.waneShare ≤ 8 ∧ l.defectRate ≤ 8 ∧ l.skip ≤ 52 ∧ l.moisture ≤ 600) &&
      l.allow &&& 0x81 == 0
  | .common m _ => decide (4 ≤ m ∧ m ≤ 16 ∧ m % 2 = 0)

/-- GRADE ranges (R48). -/
def gradeOk (rows : List GradeRow) : Bool := rows.length == 8 && rows.all GradeRow.ok

/-- PRICE ranges (R49). -/
def priceOk (rows : List Nat) : Bool := rows.length == 6144 && rows.all fun p => decide (p ≤ 9999)

/-- The bins a SORT table names are 0..47 or none (R111). -/
def sortBinsOk (rows : List SortRow) : Bool :=
  rows.all fun r => r.primary.elim true (fun b => decide (b ≤ 47)) && r.alternate.elim true fun b => decide (b ≤ 47)

/-- SORT ranges (R111). -/
def sortOk (rows : List SortRow) : Bool := rows.length == 96 && sortBinsOk rows

/-- A MOISTURE entry's ranges (R40). -/
def MoistureRow.ok : MoistureRow → Bool
  | .channel none => true
  | .channel (some c) =>
    decide (c.first ≤ c.last ∧ c.last ≤ 51 ∧ c.gain ≤ 2000 ∧ -600 ≤ c.offset ∧ c.offset ≤ 600)
  | .common r a => decide (8 ≤ r ∧ r ≤ 12 ∧ 1 ≤ a ∧ a ≤ 32)

/-- MOISTURE ranges (R40). -/
def moistureOk (rows : List MoistureRow) : Bool := rows.length == 5 && rows.all MoistureRow.ok

/-- LOG ranges (R137). -/
def logOk (rows : List LogLimits) : Bool :=
  rows.length == 1 && rows.all fun l =>
    decide (l.minLength ≤ l.maxLength ∧ l.maxLength ≤ 1200 ∧ l.minSed ≤ 600 ∧ l.maxLed ≤ 600 ∧ l.maxSweep ≤ 1200)

/-- GOVERNOR ranges (R154). -/
def governorOk (rows : List GovernorRow) : Bool :=
  rows.length == 1 && rows.all fun r =>
    decide (r.gMin ≤ r.gMax ∧ r.gMax ≤ 15 ∧ 1 ≤ r.window ∧ r.window ≤ 255 ∧ 1 ≤ r.up ∧ r.up ≤ 15 ∧ 1 ≤ r.down ∧
      r.down ≤ 15 ∧ 2 ≤ r.highWater ∧ r.highWater ≤ 64 ∧ r.lowWater < r.highWater ∧ r.margin ≤ 255 ∧
      1 ≤ r.binPressure ∧ r.binPressure ≤ 48)

/-- The entry total and every range of a kind (R180). -/
def Bank.kindOk (b : Bank) : TableKind → Bool
  | .headmap => headmapOk b.headmap.rows
  | .size => sizeOk b.size.rows
  | .grade => gradeOk b.grade.rows
  | .price => priceOk b.price.rows
  | .sort => sortOk b.sort.rows
  | .moisture => moistureOk b.moisture.rows
  | .log => logOk b.log.rows
  | .governor => governorOk b.governor.rows

/-! ### Cross-checks and the state at a close (R179, R180) -/

/-- The heads whose runs hold a cell. -/
def coverCount (rows : List HeadRow) (k : Nat) : Nat :=
  rows.countP fun r => r.elim false fun (f, l) => decide (f ≤ k ∧ k ≤ l)

/-- The coverage cross-check (R27, R179): every cell 0..51 covered once. It passes on an unloaded kind, as it is
weighed on the loaded kinds (log 40). -/
def Bank.coverageOk (b : Bank) : Bool :=
  !b.headmap.loaded || (List.range 52).all fun k => coverCount b.headmap.rows k == 1

/-- The SORT cross-check (R111, R179), which passes on an unloaded kind (log 40). -/
def Bank.sortCheckOk (b : Bank) : Bool := !b.sort.loaded || sortBinsOk b.sort.rows

/-- The state of a bank at the close of a sequence (R180). -/
def Bank.closedState (b : Bank) : BankState :=
  if TableKind.all.all b.loaded && b.coverageOk && b.sortCheckOk then .valid
  else if TableKind.all.all fun k => !b.loaded k then .empty
  else .partlyLoaded

/-- A bank whose sequence closes (R180). -/
def Bank.close (b : Bank) : Bank := { b with state := b.closedState }

/-! ### TABLE_WRITE (R180) -/

/-- The reply to a TABLE_WRITE (R180, log 14): bank state, whether a sequence is open and its next offset, and at a
close the result of each cross-check. -/
def tableReply (st : Status) (bankByte : Byte) (closed : Bool) (s : State) : Served :=
  let bank := bankOfCode bankByte.toNat
  ⟨s, st,
    (match bank with
      | some x => put1 (s.bank x).state.code
      | none => [Config.noBankState bankByte]) ++
    putFlag s.store.sequence.isSome ++ put2 (s.store.sequence.elim 0 LoadSequence.next) ++
    (match bank, closed with
      | some x, true => put1 1 ++ putFlag (s.bank x).coverageOk ++ putFlag (s.bank x).sortCheckOk
      | _, _ => List.replicate 3 0)⟩

/-- A taken frame's entries stored, and the next offset moved past them (R180). -/
def storeEntries (x : BankId) (k : TableKind) (offset : Nat) (es : List (List Byte)) (s : State) : State :=
  (onBank x (fun b => b.store offset es k) s).onStore fun st =>
    { st with sequence := some ⟨x, k, offset + es.length⟩ }

/-- A LAST frame (R180): the kind weighed, the sequence closed. -/
def closeSequence (x : BankId) (k : TableKind) (bankByte : Byte) (s : State) : Served :=
  let good := (s.bank x).kindOk k
  let s1 := (onBank x (fun b => (b.setLoaded good k).close) s).onStore fun st => { st with sequence := none }
  tableReply (if good then .ok else .range) bankByte true s1

/-- The check of a frame against the open sequence and the bank (R180), none when the frame is taken. -/
def tableCheck (x : BankId) (k : TableKind) (first : Bool) (offset count : Nat) (s : State) : Option Status :=
  if first then
    if s.store.sequence.isSome then some .sequence
    else if (s.bank x).state = .active ∨ s.store.pendingBank = some x ∨ s.referenced x then some .referenced
    else if offset ≠ 0 then some .sequence
    else if k.total < offset + count then some .range
    else none
  else
    match s.store.sequence with
    | none => some .sequence
    | some q =>
      if q.bank ≠ x ∨ q.kind ≠ k then some .sequence
      else if offset ≠ q.next then some .sequence
      else if k.total < offset + count then some .range
      else none

/-- A taken FIRST frame opens the sequence (R180). -/
def openSequence (x : BankId) (k : TableKind) (s : State) : State :=
  (onBank x (fun b => { b.clearKind k with state := .loading }) s).onStore fun st =>
    { st with sequence := some ⟨x, k, 0⟩ }

/-- TABLE_WRITE judged in the order of R180. -/
def serveTableWrite (body : List Byte) (s : State) : Served :=
  let bankByte := body.getD 0 0
  let first := (body.getD 2 0).getLsbD 0
  let last := (body.getD 2 0).getLsbD 1
  let offset := u16At body 3
  let count := byteAt body 5
  match bankOfCode (byteAt body 0), kindOfCode (byteAt body 1) with
  | some x, some k =>
    if count = 0 ∨ 128 < count then tableReply .range bankByte false s
    else
      match tableCheck x k first offset count s with
      | some st => tableReply st bankByte false s
      | none =>
        let s1 := if first then openSequence x k s else s
        let s2 := storeEntries x k offset (chunks k.entrySize count (body.drop 6)) s1
        if last then closeSequence x k bankByte s2 else tableReply .ok bankByte false s2
  | _, _ => tableReply .range bankByte false s

/-- An open load sequence aborted by LINE_RESET (R180). -/
def abortSequence (s : State) : State :=
  match s.store.sequence with
  | none => s
  | some q =>
    (onBank q.bank (fun b => (b.setLoaded false q.kind).close) s).onStore fun st => { st with sequence := none }

/-! ### Activation (R181) -/

/-- An activation taken (R181): bank states, the governor's settings and pressure, the holds, and the BANK_EVENT. -/
def takeActivation (x : BankId) (s : State) : State :=
  let old := s.activeBank
  let s1 := old.elim s fun y => onBank y (fun b => { b with state := .valid }) s
  let s2 := (onBank x (fun b => { b with state := .active }) s1).onStore fun st => { st with pendingBank := none }
  let s3 := (s2.bank x).governorRow.elim s2 fun r => s2.onGovernor (Governor.adopt r)
  let s4 := weighHold (weighPressure s3.link.notices.length s3)
  queueNotice (.bankEvent x old s4.chain.lug) s4

/-- The pending activation taken, if any (R181). -/
def takePending (s : State) : State := s.store.pendingBank.elim s fun x => takeActivation x s

/-- BANK_ACTIVATE judged (R181). An OK reply carries a flag, 1 for taken and 0 for left pending, and a refusal carries
nothing more (log 39). -/
def serveBankActivate (body : List Byte) (s : State) : Served :=
  match bankOfCode (byteAt body 0) with
  | none => ⟨s, .range, []⟩
  | some x =>
    if (s.bank x).state ≠ .valid then ⟨s, .notValid, []⟩
    else if s.store.pendingBank.isSome then ⟨s, .busy, []⟩
    else if s.line.state = .idle then ⟨takeActivation x s, .ok, putFlag true⟩
    else ⟨s.onStore fun st => { st with pendingBank := some x }, .ok, putFlag false⟩

/-- One bank's part of a BANK_STATUS reply (R179). -/
def State.putBank (s : State) (x : BankId) : List Byte :=
  put1 (s.bank x).state.code ++ TableKind.all.flatMap (fun k => putFlag ((s.bank x).loaded k)) ++ put1 (s.pieceRefs x) ++
    put1 (s.logRefs x) ++ putFlag (decide (s.store.pendingBank = some x))

/-- BANK_STATUS (R179). -/
def serveBankStatus (s : State) : Served :=
  ⟨s, .ok, s.putBank .a ++ s.putBank .b ++
    putOpt 4 (fun q : LoadSequence => put1 q.bank.code ++ put1 q.kind.code ++ put2 q.next) s.store.sequence ++
    putFlag s.store.geometry.isSome⟩

/-! ### The geometry set (R12, R99, R178, chapter 7) -/

/-- Whether item `i` of a geometry set is in range, weighed against the other items of the same set (R178). -/
def Geometry.itemOk (g : Geometry) (i : Nat) : Bool :=
  match i with
  | 0 => decide (64 ≤ g.pitch ∧ g.pitch ≤ 65535)
  | 1 => decide (1 ≤ g.windowTol ∧ g.windowTol ≤ g.pitch / 4)
  | 2 => decide (1 ≤ g.reversalTol ∧ g.reversalTol ≤ 1023)
  | 3 => decide (4 ≤ g.resync ∧ g.resync ≤ 64)
  | 4 => decide (1 ≤ g.closeOffset ∧ g.closeOffset ≤ 8)
  | 5 => decide (g.moistureOffset ≤ g.closeOffset)
  | 6 => decide (g.closeOffset + 1 ≤ g.markP1 ∧ g.markP1 < g.commit)
  | 7 => decide (g.closeOffset + 1 ≤ g.markP2 ∧ g.markP2 < g.commit)
  | 8 => decide (3 ≤ g.commit ∧ g.commit ≤ 60 ∧ g.closeOffset + 1 < g.commit)
  | 9 => decide (g.commit + 1 ≤ g.sawLine ∧ g.sawLine ≤ g.commit + 16)
  | 10 => decide (g.sawLead < (g.sawLine - g.commit) * g.pitch)
  | 11 => decide (1 ≤ g.fireWidth ∧ g.fireWidth ≤ g.pitch)
  | 60 => decide (g.gateLead < g.pitch)
  | 61 => decide (1 ≤ g.gateWidth ∧ g.gateWidth ≤ g.pitch)
  | 62 => g.drops.all (fun d => decide (d < g.runOut)) && decide (g.runOut ≤ 127)
  | 63 => decide (1 ≤ g.panelTimeout ∧ g.panelTimeout ≤ 30)
  | 64 => decide (g.hostTimeout ≤ 60)
  | 65 => decide (1 ≤ g.cpi ∧ g.cpi ≤ 255)
  | 66 => decide (60 ≤ g.kickDistance ∧ g.kickDistance ≤ 1200)
  | 67 => decide (g.kickLead ≤ 65535)
  | 68 => decide (1 ≤ g.kickWidth ∧ g.kickWidth ≤ 65535)
  | 69 => decide (2 ≤ g.sampleSpacing ∧ g.sampleSpacing ≤ 12)
  | _ => decide (g.sawLine + 1 ≤ g.drops.getD (i - 12) 0 ∧ g.drops.getD (i - 12) 0 ≤ 126)

/-- The number of the first item out of range, or none (R178). -/
def Geometry.firstBad (g : Geometry) : Option Nat := (List.range 70).find? fun i => !g.itemOk i

end Sys2Proof.Machine
end

