-- ==== Sys2Proof/Machine/Panel.lean ====
section
/-! DEFINITION. The panel unit (chapter 4): HELLO, the judgement and acceptance of overrides, panel timeouts and the
sending of panel frames. -/

namespace Sys2Proof.Machine

/-! ### HELLO (R77) -/

/-- The mark offset the geometry set gives a panel, 0 while none is loaded (R77). -/
def State.markOffset (s : State) : PanelId → Nat
  | .p1 => s.store.geometry.elim 0 Geometry.markP1
  | .p2 => s.store.geometry.elim 0 Geometry.markP2

/-- A valid HELLO (R75, R77): presence, then the answer with line state, lug number and mark offset. The tag
it carries is the frame's tag byte and is not repeated in the body (log 34). -/
def panelHello (p : PanelId) (tag : Byte) (s : State) : State :=
  let s1 := panelHeard p s
  answerPanel p kindHello tag
    (put1 s1.line.state.code ++ put2 s1.chain.lug.toNat ++ put1 (s1.markOffset p)) s1

/-! ### Overrides (R80 to R88) -/

/-- An OVERRIDE_REPLY (R81); its tag is the frame's tag byte alone (log 34). -/
def overrideReply (p : PanelId) (tag : Byte) (lug : LugNo) (st : OverrideStatus) (revision : Byte) (s : State) : State :=
  answerPanel p kindOverrideReply tag (put2 lug.toNat ++ put1 st.code ++ put1 revision.toNat) s

/-- Whether an override of a kind needs a re-solve of a piece (R82). -/
def needsResolve (k : OverrideKind) (x : Piece) : Bool :=
  decide (x.stage = .closed) && !x.emptyProfile &&
    (match k with
      | .gradeSet | .gradeDown | .lengthLimit | .cancel => true
      | .slash | .regrade => false)

/-- A record after an acceptance (R83 steps 1 to 3, and the decision an accepted SLASH sets, R85). -/
def Piece.accept (x : Piece) (p : PanelId) (k : OverrideKind) (value : Nat) : Piece :=
  { x with
    override := match k with
      | .cancel => none
      | _ => some ⟨k, k.value value, p⟩
    revision := x.revision + 1
    flags := { x.flags with overridden := true }
    decision := match k with
      | .slash => some .slash
      | _ => x.decision }

/-- What an accepted override of a kind asks for after the answer list (R84 to R87). -/
def afterAcceptance (p : PanelId) (tag : Byte) (lug : LugNo) (k : OverrideKind) (x : Piece) (s : State) : State :=
  match k with
  | .slash => sendResult p tag lug s
  | .regrade => if answerOwed .regrade x.solveState then s else sendResult p tag lug s
  | _ => if x.stage = .closed then requestForOverride lug s else s

/-- An override accepted for the record `x` (R83): record, OVERRIDE_REPLY, answer list, then the rule for the kind. -/
def acceptOverride (p : PanelId) (tag : Byte) (lug : LugNo) (k : OverrideKind) (value : Nat) (x : Piece)
    (s : State) : State :=
  let revision := x.revision + 1
  let s1 := changePiece lug (fun y => y.accept p k value) s
  let s2 := overrideReply p tag lug .accepted revision s1
  let s3 := updateAnswers p tag lug k revision (answerOwed k x.solveState) s2
  afterAcceptance p tag lug k x s3

/-- An OVERRIDE of a kind judged (R81), after its presence handling. -/
def judgeOverride (p : PanelId) (tag : Byte) (lug : LugNo) (k : OverrideKind) (value : Nat) (s : State) : State :=
  if !k.valueOk value then overrideReply p tag lug .invalid 0 s
  else
    match s.piece? lug with
    | none => overrideReply p tag lug .noPiece 0 s
    | some x =>
      if x.isCommitted then overrideReply p tag lug .tooLate x.revision s
      else if needsResolve k x && !canTakeRequest lug s then overrideReply p tag lug .busy x.revision s
      else acceptOverride p tag lug k value x s

/-- An OVERRIDE of a kind arriving on a panel port: presence first, then the judgement (R75, R81). -/
def overrideFrame (p : PanelId) (tag : Byte) (lug : LugNo) (k : OverrideKind) (value : Byte) (s : State) : State :=
  judgeOverride p tag lug k value.toNat (panelHeard p s)

/-- The lug number answered to an OVERRIDE body: bytes 0 and 1, or a free value where the body is shorter (log 12). -/
def lugOfOverride (body : List Byte) : LugNo :=
  if 2 ≤ body.length then BitVec.ofNat 16 (u16At body 0) else Config.missingLug body

/-- Any OVERRIDE frame by its body (R80, R81): a body of the wrong length or an unknown kind code is INVALID. -/
def overrideBody (p : PanelId) (tag : Byte) (body : List Byte) (s : State) : State :=
  match overrideKindOfCode (byteAt body 2), decide (body.length = 4) with
  | some k, true => overrideFrame p tag (BitVec.ofNat 16 (u16At body 0)) k (body.getD 3 0) s
  | _, _ => overrideReply p tag (lugOfOverride body) .invalid 0 (panelHeard p s)

/-! ### Time and sending -/

/-- A panel's silence timer reaches the panel timeout (R75): a PRESENT panel becomes ABSENT. -/
def panelSilent (p : PanelId) (s : State) : State :=
  weighPanelTimer p (onPort p (fun q => { q with timer := max q.timer s.panelTimeoutMs }) s)

/-- A panel port finishes sending and sends its oldest waiting frame (R74). -/
def panelSent (p : PanelId) (s : State) : State := onPort p (fun q => PanelPort.start { q with sending := none }) s

/-! ### Commands -/

/-- HELLO (R77). -/
def execHello (p : PanelId) (tag : Byte) (s : State) : Host.Outcome State Fault Refusal := .next (panelHello p tag s)

/-- PANEL_TIMEOUT (R75). -/
def execPanelTimeout (p : PanelId) (s : State) : Host.Outcome State Fault Refusal := .next (panelSilent p s)

/-- GRADE_SET (R84). -/
def execGradeSet (p : PanelId) (tag : Byte) (lug : LugNo) (value : Byte) (s : State) :
    Host.Outcome State Fault Refusal := .next (overrideFrame p tag lug .gradeSet value s)

/-- GRADE_DOWN (R84). -/
def execGradeDown (p : PanelId) (tag : Byte) (lug : LugNo) (value : Byte) (s : State) :
    Host.Outcome State Fault Refusal := .next (overrideFrame p tag lug .gradeDown value s)

/-- LENGTH_LIMIT (R84). -/
def execLengthLimit (p : PanelId) (tag : Byte) (lug : LugNo) (value : Byte) (s : State) :
    Host.Outcome State Fault Refusal := .next (overrideFrame p tag lug .lengthLimit value s)

/-- SLASH (R85). -/
def execSlash (p : PanelId) (tag : Byte) (lug : LugNo) (value : Byte) (s : State) :
    Host.Outcome State Fault Refusal := .next (overrideFrame p tag lug .slash value s)

/-- REGRADE (R86). -/
def execRegrade (p : PanelId) (tag : Byte) (lug : LugNo) (value : Byte) (s : State) :
    Host.Outcome State Fault Refusal := .next (overrideFrame p tag lug .regrade value s)

/-- CANCEL (R87). -/
def execCancel (p : PanelId) (tag : Byte) (lug : LugNo) (value : Byte) (s : State) :
    Host.Outcome State Fault Refusal := .next (overrideFrame p tag lug .cancel value s)

/-- MALFORMED_OVERRIDE (R80). -/
def execMalformedOverride (p : PanelId) (tag : Byte) (body : List Byte) (s : State) :
    Host.Outcome State Fault Refusal := .next (overrideBody p tag body s)

/-- PANEL_FRAME_SENT (R74). -/
def execPanelFrameSent (p : PanelId) (s : State) : Host.Outcome State Fault Refusal := .next (panelSent p s)

end Sys2Proof.Machine
end

