-- ==== Sys2Proof/Machine/Scan.lean ====
section
/-! DEFINITION. The scan assembler and the moisture unit (chapter 2). -/

namespace Sys2Proof.Machine

/-! ### Admission's side of the scan assembler (R28, R30) -/

/-- The lug history gains an entry; beyond 128 entries the oldest leaves (R30). -/
def recordHistory (lug : LugNo) (filled : Bool) (s : State) : State :=
  s.onScan fun x =>
    let l := x.history ++ [(lug, filled)]
    { x with history := l.drop (l.length - 128) }

/-- The LUG message of an advance, sent to every head used in the active bank's HEADMAP (R28). -/
def sendLug (lug : LugNo) (s : State) : State :=
  match s.activeBank with
  | none => s
  | some x =>
    s.onScan fun sc =>
      { sc with lugSent := sc.lugSent.zipIdx.map fun (old, h) =>
          if ((s.bank x).headRun h).isSome then some lug else old }

/-- A profile at admission: open, no cell reported (R15, R34). -/
def Profile.fresh : Profile :=
  { cells := List.replicate 52 .unreported, reports := List.replicate 8 .notReported, status := none }

/-! ### Closing a profile (R35, R36, R38) -/

/-- The status of a profile whose cells are settled (R36 step 2). -/
def profileStatus (cells : List Cell) : ProfileStatus :=
  if cells.all (· == .absent) then .empty else if cells.contains .unknown then .partialCells else .complete

/-- The cells after a close: a cell of a head still NOT_REPORTED becomes UNKNOWN (R36 step 1). A head's cells are
written once (R34), so these are the cells with no value. -/
def closeCells (cells : List Cell) : List Cell := cells.map fun c => if c = .unreported then .unknown else c

/-- A record after its profile's close (R36 steps 1 to 3). -/
def Piece.closeProfile (p : Piece) : Piece :=
  let cells := closeCells p.profile.cells
  let st := profileStatus cells
  { p with
    profile := { p.profile with cells, status := some st }
    stage := .closed
    flags := { p.flags with partialProfile := p.flags.partialProfile || decide (st = .partialCells) } }

/-- The summary of a piece whose profile has closed (R38). -/
def Piece.summary (p : Piece) (b : Bank) (cause : CloseCause) : Summary :=
  { lug := p.lug, admitCount := p.admitCount, bank := p.bank, cause,
    status := p.profile.status.getD .empty, suspect := p.suspect.isSome,
    reports := p.profile.reports.zipIdx.map fun (r, h) => if (b.headRun h).isSome then some r else none,
    cells := p.profile.cells }

/-- The buffers after a summary is written: the first FREE one becomes LATEST and the former LATEST becomes FREE
(R38; log 15 for the choice between two FREE ones). -/
def writeSummary (m : Summary) (l : List ProfileBuffer) : List ProfileBuffer :=
  match l.findIdx? fun x => x.role == .free with
  | none => l
  | some i => (l.map fun x => if x.role = .latest then { x with role := .free } else x).set i ⟨.latest, some m⟩

/-- The profile of a piece in stage SCANNING closes (R36). -/
def closeProfile (lug : LugNo) (cause : CloseCause) (s : State) : State :=
  match s.piece? lug with
  | none => s
  | some p =>
    if p.stage = .scanning then
      let q := p.closeProfile
      let s1 := changePiece lug (fun _ => q) s
      let s2 := requestAtClose lug s1
      s2.onScan fun x => { x with buffers := writeSummary (q.summary (s.bank p.bank) cause) x.buffers }
    else s

/-! ### SEGMENT frames (R31 to R34) -/

/-- The cells of a head's run replaced by a report's cells (R34). -/
def writeRun (first last : Nat) (new : List Cell) (cells : List Cell) : List Cell :=
  cells.zipIdx.map fun (c, k) => if first ≤ k ∧ k ≤ last then new.getD (k - first) c else c

/-- The report state and the cells a SEGMENT writes for a run of `n` cells (R34). -/
def SegmentFields.report (f : SegmentFields) (n : Nat) : HeadReport × List Cell :=
  match f.status with
  | .board => (.board, f.cells)
  | .noBoard => (.noBoard, List.replicate n .absent)
  | .headFault => (.headFault, List.replicate n .unknown)

/-- A record with a head's report written (R34). -/
def Piece.takeReport (p : Piece) (head first last : Nat) (f : SegmentFields) : Piece :=
  let r := f.report (last - first + 1)
  { p with profile := { p.profile with
      cells := writeRun first last r.2 p.profile.cells
      reports := p.profile.reports.set head r.1 } }

/-- Every mapped head of a bank has reported in a profile (R34). -/
def allReported (b : Bank) (p : Profile) : Bool :=
  (List.range 8).all fun h => (b.headRun h).isNone || p.reports[h]? != some .notReported

/-- A head's report for a piece in stage SCANNING (R34); the profile closes when every mapped head has reported. -/
def takeReport (p : Piece) (head first last : Nat) (f : SegmentFields) (s : State) : State :=
  let q := p.takeReport head first last f
  let s1 := changePiece p.lug (fun _ => q) s
  if allReported (s.bank p.bank) q.profile then closeProfile p.lug .allReported s1 else s1

/-- A SEGMENT that names a piece in stage SCANNING: FORMAT, DUPLICATE or the head's report (R32 to R34). -/
def judgeReport (port : Fin 8) (f : SegmentFields) (p : Piece) (s : State) : State :=
  match (s.bank p.bank).headRun port.val with
  | none => countFault .format s
  | some (first, last) =>
    if f.head ≠ port.val ∨ f.count ≠ last - first + 1 then countFault .format s
    else if p.profile.reports[port.val]? = some .notReported then takeReport p port.val first last f s
    else s.onScan fun x => { x with duplicate := x.duplicate.bump }

/-- A SEGMENT frame on a head port judged by the steps of R31. -/
def judgeSegment (port : Fin 8) (body : List Byte) (s : State) : State :=
  match SegmentFields.ofBody body with
  | none => countFrameError (.head port) s
  | some f =>
    match s.scan.history.find? fun e => e.1 == f.lug with
    | none => countFault .format s
    | some (_, false) =>
      if f.status = .board then s.onScan fun x => { x with phantom := x.phantom.bump } else s
    | some (_, true) =>
      match s.piece? f.lug with
      | none => s.onScan fun x => { x with late := x.late.bump }
      | some p =>
        if p.stage = .scanning then judgeReport port f p s
        else s.onScan fun x => { x with late := x.late.bump }

/-! ### The last-profile reply's end (R39) -/

/-- The READING buffer after its reply has been sent: LATEST again when none is LATEST, or FREE (R39). -/
def readingSent (l : List ProfileBuffer) : List ProfileBuffer :=
  let role : BufferRole := if l.any fun x => x.role == .latest then .free else .latest
  l.map fun x => if x.role = .reading then { x with role } else x

/-- LAST_PROFILE (R39): the LATEST buffer becomes READING and its summary is the reply. -/
def serveLastProfile (s : State) : Served :=
  match s.scan.buffers.find? fun x => x.role == .latest with
  | none => ⟨s, .noData, []⟩
  | some x =>
    ⟨s.onScan fun sc =>
        { sc with buffers := sc.buffers.map fun y => if y.role = .latest then { y with role := .reading } else y },
      .ok, x.summary.elim [] Summary.put⟩

/-! ### The moisture unit (R41 to R45) -/

/-- The channels a bank enables, in order (R40). -/
def Bank.enabledChannels (b : Bank) : List Nat := (List.range 4).filter fun c => (b.channel c).isSome

/-- A piece reaches the moisture offset (R41): a set begins, or is SKIPPED while one runs. -/
def triggerMoisture (lug : LugNo) (s : State) : State :=
  match s.piece? lug with
  | none => s
  | some p =>
    let channels := (s.bank p.bank).enabledChannels
    if channels.isEmpty then s
    else
      match s.moisture.converter with
      | some _ => s.onMoisture fun m => { m with skipped := m.skipped.bump }
      | none => s.onMoisture fun m => { m with converter := some ⟨lug, p.bank, channels⟩ }

/-- The calibrated value of a raw result before its clamp (R42 steps 1 and 2). -/
def calibrate (r : ChannelRow) (resolution raw : Nat) : Int :=
  r.offset + (r.gain * (raw / 2 ^ (12 - resolution)) / 2 ^ resolution : Nat)

/-- The calibrated value of a channel's raw result by the set's bank (R42 steps 1 and 2), as its MOISTURE table stands; a
free value where the bank holds no such channel in a loaded table (log 32). -/
def Bank.calibrated (b : Bank) (c raw : Nat) : Int :=
  match b.moisture.loaded, b.channel c with
  | true, some row => calibrate row b.moistureCommon.1 raw
  | _, _ => Config.openCalibration c raw

/-- The clamp of a calibrated value to 0..600 (R42 step 3). -/
def clampMoisture (v : Int) : Nat := (min (max v 0) 600).toNat

/-- The channel's result written into the owning piece, if it has not committed (R42). -/
def Piece.takeReading (c v : Nat) (p : Piece) : Piece :=
  if p.isCommitted then p else { p with moisture := p.moisture.set c (some ⟨v, false⟩) }

/-- A channel's conversion completes (R42); the next channel begins, or the converter returns to IDLE (R41). -/
def completeConversion (raw : Nat) (s : State) : State :=
  match s.moisture.converter with
  | none => s
  | some cv =>
    match cv.channels with
    | [] => s.onMoisture fun m => { m with converter := none }
    | c :: rest =>
      let cal := (s.bank cv.bank).calibrated c raw
      let v := clampMoisture cal
      let s1 := s.onMoisture fun m =>
        { m with
          converter := if rest.isEmpty then none else some { cv with channels := rest }
          held := m.held.set c (some v)
          ages := m.ages.set c 0
          clamps := if cal < 0 ∨ 600 < cal then setAt m.clamps c EventCounter.bump else m.clamps }
      changePiece cv.owner (Piece.takeReading c v) s1

/-- Every channel's age at a lug advance (R43). -/
def ageMoisture (s : State) : State := s.onMoisture fun m => { m with ages := m.ages.map fun a => min 255 (a + 1) }

/-- Every held reading absent and every age 0 (R45). -/
def clearHeld (s : State) : State :=
  s.onMoisture fun m => { m with held := m.held.map fun _ => none, ages := m.ages.map fun _ => 0 }

/-! ### Commands -/

/-- SEGMENT (R31). -/
def execSegment (head : Fin 8) (body : List Byte) (s : State) : Host.Outcome State Fault Refusal :=
  .next (judgeSegment head body s)

/-- MOISTURE_CONVERSION_COMPLETE (R42). -/
def execMoistureConversionComplete (raw : BitVec 12) (s : State) : Host.Outcome State Fault Refusal :=
  .next (completeConversion raw.toNat s)

end Sys2Proof.Machine
end

