-- ==== Sys2Proof/Machine/Sorter.lean ====
section
/-! DEFINITION. Sorter control (chapter 6): bin commands, drops and the run-out. -/

namespace Sys2Proof.Machine

/-! ### Bin commands (R114 to R118) -/

/-- SET_CAPACITY's check (R115): the value is not below count + reserved. -/
def Bin.capacityOk (b : Bin) (value : Nat) : Bool := decide (b.count + b.reserved ≤ value)

/-- A committed piece bound for a bin rerouted to the run-out (R118 steps 1 to 3). -/
def reroute (bin : Nat) (lug : LugNo) (s : State) : State :=
  let s1 := changePiece lug (fun p => { p with dest := some .runOut, outcome := some .runOut }) s
  cancelOwnerGate lug (s1.onBins fun l => setAt l bin fun b => { b with reserved := b.reserved - 1 })

/-- OUT_OF_SERVICE's effect (R118): the pieces bound for the bin rerouted oldest first, then the bin's state changed
and its flag weighed once. -/
def takeOutOfService (bin : Nat) (s : State) : State :=
  let bound := (s.chain.pieces.filter fun p => p.dest == some (.bin bin)).map Piece.lug
  changeBin bin (fun b => { b with state := .outOfService }) .outOfService
    (bound.foldl (fun t lug => reroute bin lug t) s)

/-- An action carried out on a bin (R115 to R118); none where its own check fails. -/
def binAction (bin : Nat) (b : Bin) (a : BinAction) (value : Nat) (s : State) : Option State :=
  match a with
  | .setCapacity =>
    if b.capacityOk value then some (changeBin bin (fun x => { x with capacity := value }) .setCapacity s) else none
  | .opened => some (s.onBins fun l => setAt l bin fun x => { x with state := .opened })
  | .close => some (s.onBins fun l => setAt l bin fun x => { x with state := .closed })
  | .emptied => some (changeBin bin (fun x => { x with count := 0 }) .emptied s)
  | .outOfService => some (takeOutOfService bin s)

/-- The reply to a BIN_COMMAND: the bin number and its record as it stands (R114). -/
def binReply (bin : Nat) (st : Status) (s : State) : Served :=
  ⟨s, st, put1 bin ++ (s.bins[bin]?).elim [] Bin.put⟩

/-- BIN_COMMAND judged (R114). -/
def serveBin (bin : Nat) (action : Option BinAction) (value : Nat) (s : State) : Served :=
  match s.bins[bin]? with
  | none => binReply bin .range s
  | some b =>
    match action.bind fun a => binAction bin b a value s with
    | none => binReply bin .range s
    | some s' => binReply bin .ok s'

/-! ### Finishing (R122, R123) -/

/-- A piece drops into its bin (R122). -/
def dropPiece (bin : Nat) (lug : LugNo) (s : State) : State :=
  finishPiece lug .sorted (s.onBins fun l => setAt l bin fun b =>
    { b with reserved := b.reserved - 1, count := b.count + 1, drops := satAdd tallyMax b.drops 1 })

/-- The outcome of a piece that reaches the run-out (R123): SUSPECT for a suspect piece, else the outcome fixed. -/
def Piece.runOutOutcome (p : Piece) : PieceOutcome :=
  if p.suspect.isSome then .suspect else p.outcome.getD .runOut

/-- A piece reaches the run-out (R123). -/
def runOutPiece (lug : LugNo) (s : State) : State :=
  match s.piece? lug with
  | none => s
  | some p => finishPiece lug p.runOutOutcome s

end Sys2Proof.Machine
end

