-- ==== Sys2Proof/Machine/Tracking.lean ====
section
/-! DEFINITION. The chain tracker (chapter 1): the lug advance and the stations, the chain encoder, the lug windows and
the reversal check. -/

namespace Sys2Proof.Machine

/-! ### The stations (R13) -/

/-- The position of a lug (00_scope.md 6.3). -/
def State.position (s : State) (lug : LugNo) : Nat := (s.chain.lug - lug).toNat

/-- A MARK for a piece to a panel, if the panel is PRESENT (R78). -/
def markPiece (p : PanelId) (lug : LugNo) (s : State) : State :=
  match s.piece? lug with
  | none => s
  | some x => tellPanel p kindMark x.putMark s

/-- The drop station of a piece (R122): the bin named as its destination when `pos` is that bin's drop offset. -/
def dropAt (g : Geometry) (pos : Nat) (s : State) (lug : LugNo) : Option Nat :=
  ((s.piece? lug).bind Piece.reservedBin).filter fun b => g.drops[b]? == some pos

/-- An action taken when `b` holds. -/
def onlyIf (b : Bool) (f : State → State) (s : State) : State := if b then f s else s

/-- A piece at its position after an advance of count `c`: each station whose offset it has reached acts (R13), in
the order scan, moisture, close, panel marks, commit, saw line, drop, run-out. -/
def visitStations (g : Geometry) (c : Count) (s : State) (lug : LugNo) : State :=
  let pos := s.position lug
  let s1 := onlyIf (pos == g.moistureOffset) (triggerMoisture lug) s
  let s2 := onlyIf (pos == g.closeOffset) (closeProfile lug .closeOffset) s1
  let s3 := onlyIf (pos == g.markP1) (markPiece .p1 lug) s2
  let s4 := onlyIf (pos == g.markP2) (markPiece .p2 lug) s3
  let s5 := onlyIf (pos == g.commit) (commitPiece g c lug) s4
  let s6 := onlyIf (pos == g.sawLine) (passSaw lug) s5
  let s7 := (dropAt g pos s6 lug).elim s6 fun b => dropPiece b lug s6
  onlyIf (pos == g.runOut) (runOutPiece lug) s7

/-- Every piece in the queue, oldest first, at the stations it reaches (R11, R13; order: log 6). -/
def runStations (c : Count) (s : State) : State :=
  match s.store.geometry with
  | none => s
  | some g => (s.chain.pieces.map Piece.lug).foldl (visitStations g c) s

/-! ### The lug advance (R11, R14) -/

/-- A piece record at admission (R15). -/
def Piece.admitted (lug : LugNo) (c : Count) (bank : BankId) (suspect : Option SuspectCause) : Piece :=
  { lug, admitCount := c, bank, suspect, stage := .scanning, profile := .fresh, moisture := List.replicate 4 none,
    sizeClass := none, decision := none, solveState := .none, revision := 0, override := none, dest := none,
    outcome := none, flags := ⟨false, false, false, false, false⟩ }

/-- The admission at an advance of count `c` with the scan eye as given (R14, R161), and the lug history (R30). -/
def admitPiece (c : Count) (eye : Bool) (s : State) : State :=
  let lug := s.chain.lug
  match eye, s.activeBank with
  | true, some x =>
    let s1 := s.onChain fun ch =>
      { ch with pieces := ch.pieces ++ [Piece.admitted lug c x ch.suspect], admitted := ch.admitted + 1 }
    recordHistory lug true (weighAdmission lug s1)
  | _, _ => recordHistory lug false s

/-- A lug advance at an advance count, good or synthesized (R11). -/
def lugAdvance (c : Count) (good eye : Bool) (s : State) : State :=
  let s1 := s.onChain fun ch =>
    { ch with lug := ch.lug + 1, c0 := c, goodRun := if good then min 255 (ch.goodRun + 1) else ch.goodRun }
  let s2 := takePending s1
  let s3 := sendLug s2.chain.lug (s2.onScan fun x => { x with eye })
  let s4 := admitPiece c eye s3
  stepGovernor (runStations c (ageMoisture s4))

/-! ### Lug edges and missed lugs (R5 to R8) -/

/-- An EXTRA lug (R7). -/
def extraLug (s : State) : State :=
  countFault .extra (setSuspect .extra (s.onChain fun c => { c with goodRun := 0 }))

/-- A MISSED lug and its synthesized advance at the nominal count (R8). -/
def missedLug (g : Geometry) (eye : Bool) (s : State) : State :=
  let s1 := countFault .missed (setSuspect .missed (s.onChain fun c => { c with goodRun := 0 }))
  lugAdvance (s1.chain.c0 + BitVec.ofNat 32 g.pitch) false eye s1

/-- The first count of the window (R6). -/
def windowStart (g : Geometry) (c0 : Count) : Count := c0 + BitVec.ofNat 32 g.pitch - BitVec.ofNat 32 g.windowTol

/-- The first count past the window (R8). -/
def windowPast (g : Geometry) (c0 : Count) : Count := c0 + BitVec.ofNat 32 g.pitch + BitVec.ofNat 32 (g.windowTol + 1)

/-- The geometry by which lugs are judged, when tracking is active and no reversal hold is on (R4, R9). -/
def State.judging (s : State) : Option Geometry :=
  if s.tracking && s.chain.hold.isNone then s.store.geometry else none

/-- Whether a lug is due to be found MISSED (R8). -/
def State.missedDue (s : State) (g : Geometry) : Bool :=
  !s.chain.lockOn && reached s.chain.count (windowPast g s.chain.c0)

/-- A lug found MISSED if one is due (R8). -/
def weighMissed (eye : Bool) (s : State) : State :=
  match s.judging with
  | none => s
  | some g => if s.missedDue g then missedLug g eye s else s

/-- A lug edge (R4 to R7): ignored, taken as a good lug, or EXTRA. -/
def judgeEdge (eye : Bool) (s : State) : State :=
  match s.judging with
  | none => s
  | some g =>
    if s.chain.count ≠ s.chain.highest then s
    else if s.chain.lockOn then
      lugAdvance s.chain.count true eye (s.onChain fun c => { c with lockOn := false })
    else if !reached s.chain.count (windowStart g s.chain.c0) then extraLug s
    else if reached s.chain.count (windowPast g s.chain.c0) then s
    else lugAdvance s.chain.count true eye s

/-! ### The chain encoder (R1 to R3, R9) -/

/-- The error condition's legal-transition run after a legal transition (R2). -/
def Chain.legalRun (c : Chain) : Chain := if c.encError then { c with encRun := c.encRun + 1 } else c

/-- The error condition clears when its run has reached 64 (R2). -/
def Chain.clearError (c : Chain) : Chain :=
  if c.encError && decide (64 ≤ c.encRun) then { c with encError := false, encRun := 0 } else c

/-- The count after a legal transition (R1). -/
def Chain.move (forward : Bool) (c : Chain) : Chain :=
  { c with count := if forward then c.count + 1 else c.count - 1 }

/-- The highest count follows a forward transition, but for a reversal hold (R3). -/
def Chain.followHighest (forward : Bool) (c : Chain) : Chain :=
  if forward && c.hold.isNone && later c.count c.highest then { c with highest := c.count } else c

/-- The reversal hold ends when the count again reaches the held highest count (R9). -/
def Chain.endHold (c : Chain) : Chain :=
  match c.hold with
  | some h => if reached c.count h then { c with hold := none } else c
  | none => c

/-- A REVERSAL (R9). -/
def reversal (s : State) : State :=
  cancelEncoder .chain (countFault .reversal
    (setSuspect .reversal (s.onChain fun c => { c with goodRun := 0, hold := some c.highest })))

/-- The reversal check after a change of count (R9). -/
def weighReversal (s : State) : State :=
  match s.judging with
  | none => s
  | some g => if g.reversalTol < fallenBelow s.chain.count s.chain.highest then reversal s else s

/-- A legal transition of the chain encoder with all that its change of count brings: the error run, the highest
count, the reversal check, the end of a hold, the schedule, and a lug found missed (R1 to R3, R8, R9, R104; log 1). -/
def chainTransition (forward eye : Bool) (s : State) : State :=
  let s1 := s.onChain fun c => (((c.move forward).legalRun).clearError).followHighest forward
  let s2 := (weighReversal s1).onChain Chain.endHold
  weighMissed eye (weighEntries .chain s2)

/-- An illegal transition of the chain encoder (R1, R2). -/
def chainIllegal (s : State) : State := haltingFault .encoder (s.onChain fun c => { c with encError := true, encRun := 0 })

/-! ### Lock-on and the line's moves (R4, R22, R25) -/

/-- Lock-on armed as the line enters STANDBY from IDLE (R4), with the suspect condition cleared (R22). -/
def armLockOn (s : State) : State :=
  clearSuspectNoticed (s.onChain fun c =>
    { c with highest := c.count, goodRun := 0, hold := none, lockOn := true })

/-- CLEAR_SUSPECT (R22). -/
def serveClearSuspect (s : State) : Served :=
  if s.line.state = .halt then ⟨s, .state, []⟩
  else if s.chain.suspect.isNone then ⟨s, .ok, []⟩
  else if s.chain.goodRun < s.store.geometry.elim 0 Geometry.resync then ⟨s, .notSynced, []⟩
  else ⟨clearSuspectNoticed s, .ok, []⟩

/-- PIECE_QUERY (R24). -/
def servePieceQuery (body : List Byte) (s : State) : Served :=
  match s.piece? (BitVec.ofNat 16 (u16At body 0)) with
  | none => ⟨s, .noData, []⟩
  | some p => ⟨s, .ok, p.putQuery s.chain.lug⟩

/-! ### Commands -/

/-- CHAIN_LEGAL_TRANSITION (R1). -/
def execChainLegalTransition (forward eye : Bool) (s : State) : Host.Outcome State Fault Refusal :=
  .next (chainTransition forward eye s)

/-- CHAIN_ILLEGAL_TRANSITION (R1). -/
def execChainIllegalTransition (s : State) : Host.Outcome State Fault Refusal := .next (chainIllegal s)

/-- ENCODER_ERROR_CLEARED (R2). A transition clears the condition as its run reaches 64 (log 1); this weighs it again. -/
def execEncoderErrorCleared (s : State) : Host.Outcome State Fault Refusal := .next (s.onChain Chain.clearError)

/-- REVERSAL_HOLD_END (R9). -/
def execReversalHoldEnd (s : State) : Host.Outcome State Fault Refusal := .next (s.onChain Chain.endHold)

/-- LUG_EDGE (R6). -/
def execLugEdge (eye : Bool) (s : State) : Host.Outcome State Fault Refusal := .next (judgeEdge eye s)

/-- LUG_MISSED (R8). -/
def execLugMissed (eye : Bool) (s : State) : Host.Outcome State Fault Refusal := .next (weighMissed eye s)

end Sys2Proof.Machine
end

