-- ==== Sys2Proof/Machine/LineControl.lean ====
section
/-! DEFINITION. Line control (chapter 10) and the requests that reach across the blocks: LINE_STATE, CLEAR_HALT, STATUS,
LINE_RESET, GEOMETRY_WRITE, IDENTIFY; host silence; and the full reset. -/

namespace Sys2Proof.Machine

/-! ### Host silence (R176) -/

/-- The supervisor timeout in force in milliseconds, or none where host silence is not set (R176). -/
def State.hostTimeoutMs (s : State) : Option Nat :=
  match s.store.geometry with
  | none => none
  | some g => if 1 ≤ g.hostTimeout ∧ g.hostTimeout ≤ 60 then some (g.hostTimeout * 1000) else none

/-- Host silence is set, and the governor told (R176, R156). -/
def setHostSilence (s : State) : State := weighHold (s.onLink fun l => { l with silent := true })

/-- The host-silence timer weighed against the supervisor timeout (R176). -/
def weighHost (s : State) : State :=
  match s.hostTimeoutMs with
  | none => s
  | some t => if t ≤ s.link.timer ∧ s.link.silent = false then setHostSilence s else s

/-- A valid frame of the supervisor port (R173, R176): the timer restarts and host silence clears. -/
def hostHeard (s : State) : State := weighHold (s.onLink fun l => { l with timer := 0, silent := false })

/-! ### LINE_STATE (R164) -/

/-- The line state changed, with the forced hold weighed (R156). -/
def setLine (st : LineState) (s : State) : State := weighHold (s.onLine fun l => { l with state := st })

/-- IDLE to STANDBY (R164, R4, R22, R45). -/
def enterStandby (s : State) : State := clearHeld (armLockOn (setLine .standby s))

/-- STANDBY to IDLE (R164, R181): lock-on disarmed, a reversal hold ended, and a pending activation taken at once. -/
def enterIdle (s : State) : State :=
  takePending (setLine .idle (s.onChain fun c => { c with lockOn := false, hold := none }))

/-- Whether the line may be left for IDLE (R164): both queues and the schedule empty. -/
def State.lineEmpty (s : State) : Bool :=
  s.chain.pieces.isEmpty && s.logs.queue.isEmpty && s.output.chain.isEmpty && s.output.log.isEmpty

/-- The move from IDLE to STANDBY weighed (R164). -/
def serveToStandby (s : State) : State × Status :=
  if s.store.geometry.isNone ∨ s.activeBank.isNone then (s, .notValid)
  else if s.line.estopIn ∨ s.chain.encError then (s, .state)
  else (enterStandby s, .ok)

/-- A target line state judged by the rows of R164 in order. -/
def judgeLineState (target : Option LineState) (s : State) : State × Status :=
  match target with
  | none => (s, .range)
  | some t =>
    if t = s.line.state then (s, .ok)
    else
      match s.line.state, t with
      | _, .halt => (s, .state)
      | .idle, .standby => serveToStandby s
      | .idle, _ => (s, .state)
      | .standby, .run => (setLine .run s, .ok)
      | .run, .standby => (setLine .standby s, .ok)
      | .standby, _ => if s.lineEmpty then (enterIdle s, .ok) else (s, .busy)
      | .run, _ => (s, .state)
      | .halt, _ => (s, .state)

/-- LINE_STATE (R164): the reply carries the line state after the request. -/
def serveLineState (body : List Byte) (s : State) : Served :=
  let r := judgeLineState (lineStateOfCode (byteAt body 0)) s
  ⟨r.1, r.2, put1 r.1.line.state.code⟩

/-! ### CLEAR_HALT (R167) -/

/-- Leaving HALT for STANDBY (R167). -/
def leaveHalt (s : State) : State :=
  setLine .standby (s.onLine fun l => { l with haltCause := none, faultLine := false })

/-- CLEAR_HALT (R167). -/
def serveClearHalt (s : State) : Served :=
  let content (t : State) : List Byte := put1 t.line.state.code ++ putFlag t.line.estopIn ++ putFlag t.chain.encError
  if s.line.state ≠ .halt ∨ s.line.estopIn ∨ s.chain.encError then ⟨s, .state, content s⟩
  else ⟨leaveHalt s, .ok, content (leaveHalt s)⟩

/-! ### STATUS (R169) -/

/-- Every event counter of every block at 0 with its flag clear (R169). -/
def clearCounters (s : State) : State :=
  { s with
    line := { s.line with counters := .zero }
    scan := { s.scan with late := .zero, duplicate := .zero, phantom := .zero }
    moisture := { s.moisture with skipped := .zero, clamps := s.moisture.clamps.map fun _ => .zero }
    link := { s.link with frameErrors := s.link.frameErrors.map fun _ => .zero, dropped := .zero }
    panels := { s.panels with
      p1 := { s.panels.p1 with dropped := .zero }
      p2 := { s.panels.p2 with dropped := .zero } } }

/-- STATUS (R169): bit 0 of byte 1 is the clear-after-read option, which acts with page 1. -/
def serveStatus (body : List Byte) (s : State) : Served :=
  let page := byteAt body 0
  if 4 < page then ⟨s, .range, []⟩
  else
    ⟨if page = 1 ∧ (body.getD 1 0).getLsbD 0 then clearCounters s else s, .ok, s.putStatusPage s.activeBank page⟩

/-! ### LINE_RESET (R170) -/

/-- A piece finished LOST (R25, R124, R92): its reservation released, its answer paid with a LAPSED, its finish. -/
def losePiece (s : State) (lug : LugNo) : State :=
  let s1 := ((s.piece? lug).bind Piece.reservedBin).elim s fun b => releaseBin b s
  finishPiece lug .lost (payLapsed lug .lost s1)

/-- Every piece finished LOST, oldest first, then every log UNMEASURED (R170 step 1). -/
def finishAll (s : State) : State :=
  finishAllLogs .reset ((s.chain.pieces.map Piece.lug).foldl losePiece s)

/-- The chain tracker, the solver, the moisture unit, the panel unit and the bank store at LINE_RESET (R170 step 3). -/
def resetBlocks (s : State) : State :=
  let s1 := s.onSolver fun _ => { queue := [], running := none }
  let s2 := s1.onChain fun c => { c with suspect := none, goodRun := 0, hold := none, lockOn := false }
  let s3 := (clearHeld s2).onMoisture fun m => { m with converter := none }
  let s4 := s3.onPanels fun p => { p with answers := [] }
  (abortSequence s4).onStore fun st => { st with pendingBank := none }

/-- Line control and the governor at LINE_RESET (R170 step 4, R162). -/
def resetLine (s : State) : State :=
  let s1 := s.onLine fun l => { l with state := .idle, haltCause := none, faultLine := false }
  weighHold (s1.onGovernor (Governor.lineReset (s1.activeBank.bind fun x => (s1.bank x).governorRow)))

/-- The effect of LINE_RESET, its four steps in order (R170). -/
def lineResetState (s : State) : State := resetLine (resetBlocks (cancelAll (finishAll s)))

/-- LINE_RESET (R170): the reply carries the number of pieces finished LOST and of logs finished UNMEASURED. -/
def serveLineReset (s : State) : Served :=
  ⟨lineResetState s, .ok, put1 s.chain.pieces.length ++ put1 s.logs.queue.length⟩

/-! ### GEOMETRY_WRITE and IDENTIFY (R178, R177) -/

/-- A geometry set taken (R178): the panel timers and host silence are weighed against the new timeouts (R76, R176),
P1 first, then P2, then host silence (log 33). -/
def takeGeometry (g : Geometry) (s : State) : State :=
  weighHost (weighPanelTimer .p2 (weighPanelTimer .p1 (s.onStore fun st => { st with geometry := some g })))

/-- GEOMETRY_WRITE (R178). -/
def serveGeometryWrite (body : List Byte) (s : State) : Served :=
  if s.line.state ≠ .idle then ⟨s, .state, []⟩
  else
    let g := Geometry.ofItems (geometryItems body)
    match g.firstBad with
    | some i => ⟨s, .range, put1 i⟩
    | none => ⟨takeGeometry g s, .ok, []⟩

/-- IDENTIFY (R177). -/
def serveIdentify (s : State) : Served :=
  ⟨s, .ok, put1 0x4B ++ put1 0x06 ++ put2 Config.firmwareLevel.toNat ++ put1 s.link.rate ++ put2 512 ++
    [8, 2, 13, 48, 4, 64, 48, 8]⟩

/-! ### Full reset -/

/-- The supervisor rate code of the two straps (00_scope.md section 8): both open 0, first closed 1, second closed 2,
both closed 3. -/
def rateOfStraps (firstStrap secondStrap : Bool) : Nat := (if firstStrap then 1 else 0) + (if secondStrap then 2 else 0)

/-- FULL_RESET (R26): every block at its reset values; the scan eye is an input, and the commands that wait are the
environment's (log 27). -/
def execFullReset (firstStrap secondStrap estopIn : Bool) (s : State) : Host.Outcome State Fault Refusal :=
  .next { State.afterReset (rateOfStraps firstStrap secondStrap) estopIn s.scan.eye with pending := s.pending }

end Sys2Proof.Machine
end

