-- ==== Sys2Proof/Machine/Link.lean ====
section
/-! DEFINITION. The supervisor link (chapter 11): the receivers of the ports, the request queue and the taking of
requests, the transmitter, and the passage of time. -/

namespace Sys2Proof.Machine

/-! ### Serving a request (R173) -/

/-- BIN_COMMAND by its body (R114): bin, action, value. -/
def serveBinBody (body : List Byte) (s : State) : Served :=
  serveBin (byteAt body 0) (binActionOfCode (byteAt body 1)) (u16At body 2) s

/-- A request judged by the block that owns it. -/
def serve (r : Request) (body : List Byte) (s : State) : Served :=
  match r with
  | .identify => serveIdentify s
  | .status => serveStatus body s
  | .lineState => serveLineState body s
  | .lineReset => serveLineReset s
  | .geometryWrite => serveGeometryWrite body s
  | .tableWrite => serveTableWrite body s
  | .bankActivate => serveBankActivate body s
  | .bankStatus => serveBankStatus s
  | .binCommand => serveBinBody body s
  | .pieceQuery => servePieceQuery body s
  | .lastProfile => serveLastProfile s
  | .clearSuspect => serveClearSuspect s
  | .clearHalt => serveClearHalt s
  | .tallyRead => serveTallyRead body s
  | .tallyClose => serveTallyClose s
  | .snapshotRead => serveSnapshotRead body s
  | .snapshotRelease => serveSnapshotRelease s

/-- A frame of the request queue judged in the order of R173: its kind, its length, then its owner's rule. -/
def judgeRequest (f : Frame) (s : State) : Served :=
  match Request.ofCode f.kind with
  | none => ⟨s, .unknownKind, []⟩
  | some r => if r.lengthOk f.body then serve r f.body s else ⟨s, .length, []⟩

/-- The reply to a frame (R174): its kind, its tag, and a body that begins with the status. -/
def Frame.reply (f : Frame) (st : Status) (content : List Byte) : Frame :=
  ⟨replyKind f.kind, f.tag, put1 st.code ++ content⟩

/-- A request taken (R173): judged whole, and its reply made. -/
def takeRequest (f : Frame) (s : State) : State :=
  let v := judgeRequest f (s.onLink fun l => { l with taken := true })
  makeReply ⟨f.reply v.status v.content, true⟩ v.state

/-- The oldest request when it waits to be taken (R173). -/
def State.waiting (s : State) : Option Frame := if s.link.taken then none else s.link.requests.head?

/-! ### Arrival of a request (R173) -/

/-- The greatest number of requests in the request queue (R173). -/
def requestMax : Nat := 4

/-- The greatest number of replies in the reply list (R173). -/
def replyMax : Nat := 8

/-- The replies made, and the one owed to an oldest request not yet taken (log 2). -/
def State.repliesHeld (s : State) : Nat := s.link.replies.length + (if s.waiting.isSome then 1 else 0)

/-- A frame taken on the supervisor port (R173): host silence clears, and the request joins the queue, is answered
BUSY, or is discarded and counted. -/
def receiveRequest (f : Frame) (s : State) : State :=
  let s1 := hostHeard s
  if s1.link.requests.length < requestMax then s1.onLink fun l => { l with requests := l.requests ++ [f] }
  else if s1.repliesHeld < replyMax then makeReply ⟨f.reply .busy [], false⟩ s1
  else countFrameError .supervisor s1

/-- A request's own command (log 2): the oldest request that waits is taken when it is this one; otherwise this one
arrives, and is taken at once when nothing stands before it. -/
def offerRequest (kind tag : Byte) (body : List Byte) (s : State) : State :=
  let f : Frame := ⟨kind, tag, body⟩
  if s.waiting = some f then takeRequest f s
  else
    let s1 := receiveRequest f s
    if s1.waiting = some f then takeRequest f s1 else s1

/-! ### The transmitter (R174) -/

/-- The kind of a LAST_PROFILE reply (11.5). -/
def lastProfileReply : Byte := 0x8B

/-- A reply has been sent (R173, R39): it leaves the reply list, and a request's own reply takes its request out of the
queue; a LAST_PROFILE reply frees or restores the READING buffer. -/
def replySent (r : Reply) (s : State) : State :=
  let s1 := s.onLink fun l => { l with replies := l.replies.drop 1, sending := none }
  if r.own then
    let s2 := s1.onLink fun l => { l with requests := l.requests.drop 1, taken := false }
    if r.frame.kind = lastProfileReply then s2.onScan fun x => { x with buffers := readingSent x.buffers } else s2
  else s1

/-- The transmitter finishes a frame, and its arbiter chooses the next (R174). -/
def transmitDone (s : State) : State :=
  match s.link.sending with
  | none => s
  | some (.notice _) => arbitrate (s.onLink fun l => { l with sending := none })
  | some (.reply r) => arbitrate (replySent r s)

/-! ### The receivers (R172) -/

/-- The greatest body length (R172). -/
def bodyMax : Nat := 512

/-- What a receiver makes of its bytes: each abandoned lead byte (none) or frame taken, in order, and the bytes it
keeps. -/
structure Settled where
  made : List (Option Frame)
  kept : List Byte
  deriving DecidableEq, Repr

/-- A frame abandoned: counted, before what its bytes make when weighed afresh (R172). -/
def Settled.abandon (r : Settled) : Settled := { r with made := none :: r.made }

/-- A frame taken before what follows it. -/
def Settled.take (f : Frame) (r : Settled) : Settled := { r with made := some f :: r.made }

/-- The bytes of a line from a receiver HUNTING on (R172); `fuel` is above the number of bytes. -/
def settle : Nat → List Byte → Settled
  | 0, bs => ⟨[], bs⟩
  | _ + 1, [] => ⟨[], []⟩
  | fuel + 1, b :: rest =>
    if b ≠ 0xC3 then settle fuel rest
    else if rest.length < 2 then ⟨[], b :: rest⟩
    else
      let n := u16At rest 0
      if bodyMax < n then (settle fuel rest).abandon
      else if rest.length < n + 6 then ⟨[], b :: rest⟩
      else if (crc16 (rest.take (n + 4))).toNat = u16At rest (n + 4) then
        (settle fuel (rest.drop (n + 6))).take
          ⟨rest.getD 2 0, rest.getD 3 0, (rest.drop 4).take n⟩
      else (settle fuel rest).abandon

/-- What is made of the bytes when the frame being received is abandoned for a gap, and each frame found behind its
lead byte in turn (R172, log 17). -/
def abandonAll : Nat → List Byte → List (Option Frame)
  | 0, _ => []
  | _ + 1, [] => []
  | fuel + 1, _ :: rest =>
    let r := settle (rest.length + 1) rest
    none :: (r.made ++ abandonAll fuel r.kept)

/-- The kinds of frame of the head ports and the log head port (11.5). -/
def kindSegment : Byte := 0x31
def kindLogStart : Byte := 0x38
def kindLogSection : Byte := 0x39
def kindLogEnd : Byte := 0x3A

/-- A frame taken on HL (R128): a kind other than the three, or a body of the wrong length (log 16), is counted. -/
def takeLogFrame (f : Frame) (s : State) : State :=
  if f.kind = kindLogStart ∧ f.body.length = 0 then startLog s
  else if f.kind = kindLogSection ∧ f.body.length = 8 then
    takeSection (u16At f.body 0) (u16At f.body 2) (s16At f.body 4) (s16At f.body 6) s
  else if f.kind = kindLogEnd ∧ f.body.length = 0 then endLog s
  else countFrameError .logHead s

/-- A frame taken, judged for its kind by the port's owner (R172: R31, R74, R128, R173). -/
def takeFrame (port : Port) (f : Frame) (s : State) : State :=
  match port with
  | .supervisor => receiveRequest f s
  | .panel p =>
    if f.kind = kindHello then panelHello p f.tag s
    else if f.kind = kindOverride then overrideBody p f.tag f.body s
    else countFrameError port s
  | .head h => if f.kind = kindSegment then judgeSegment h f.body s else countFrameError port s
  | .logHead => takeLogFrame f s

/-- What a receiver made: an abandoned frame is counted, a frame is taken (R172). -/
def takeMade (port : Port) (s : State) (m : Option Frame) : State :=
  match m with
  | none => countFrameError port s
  | some f => takeFrame port f s

/-- A receiver set. -/
def setReceiver (port : Port) (r : Receiver) (s : State) : State :=
  s.onLink fun l => { l with receivers := l.receivers.set (portIndex port) r }

/-- The receiver of a port. -/
def State.receiver (s : State) (port : Port) : Receiver := s.link.receivers.getD (portIndex port) ⟨[], 0⟩

/-- A byte taken by a port's receiver (R172). -/
def takeByte (port : Port) (b : Byte) (s : State) : State :=
  let bs := (s.receiver port).bytes ++ [b]
  let r := settle (bs.length + 1) bs
  r.made.foldl (takeMade port) (setReceiver port ⟨r.kept, 0⟩ s)

/-- More than 2 ms pass after a byte of a port's frame (R172). -/
def gapPort (port : Port) (s : State) : State :=
  let bs := (s.receiver port).bytes
  (abandonAll bs.length bs).foldl (takeMade port) (setReceiver port ⟨[], 0⟩ s)

/-! ### Time (log 3) -/

/-- The twelve ports in the order of R168. -/
def allPorts : List Port :=
  [.supervisor, .panel .p1, .panel .p2, .head 0, .head 1, .head 2, .head 3, .head 4, .head 5, .head 6, .head 7, .logHead]

/-- The milliseconds a receiver may wait between two bytes of a frame (R172). -/
def gapMax : Nat := 2

/-- One millisecond at a receiver (R172): nothing while it is HUNTING. -/
def tickReceiver (s : State) (port : Port) : State :=
  let r := s.receiver port
  if r.bytes.isEmpty then s
  else if gapMax < r.gap + 1 then gapPort port s
  else setReceiver port { r with gap := r.gap + 1 } s

/-- One millisecond at a panel's silence timer (R75), which stays at the panel timeout. -/
def tickPanel (p : PanelId) (s : State) : State :=
  weighPanelTimer p (onPort p (fun q => { q with timer := min (q.timer + 1) s.panelTimeoutMs }) s)

/-- The greatest reading of the host-silence timer in milliseconds (section 11.1; log 3 while no timeout is in force). -/
def State.hostTimerMax (s : State) : Nat := s.hostTimeoutMs.getD 60000

/-- One millisecond at the host-silence timer (R176). -/
def tickHost (s : State) : State := weighHost (s.onLink fun l => { l with timer := min (l.timer + 1) s.hostTimerMax })

/-- One millisecond passes: at P1's timer, P2's, the host-silence timer, then the receivers in turn (log 33). -/
def tick (s : State) : State := allPorts.foldl tickReceiver (tickHost (tickPanel .p2 (tickPanel .p1 s)))

/-- What the block does when no command waits: the oldest request that waits is taken, or a millisecond passes
(logs 2 and 3). -/
def idle (s : State) : State :=
  match s.waiting with
  | some f => takeRequest f s
  | none => tick s

/-! ### Commands of the ports and the transmitter -/

/-- FRAME_BYTE (R172). -/
def execFrameByte (port : Port) (byte : Byte) (s : State) : Host.Outcome State Fault Refusal :=
  .next (takeByte port byte s)

/-- INTER_BYTE_TIMEOUT (R172). -/
def execInterByteTimeout (port : Port) (s : State) : Host.Outcome State Fault Refusal := .next (gapPort port s)

/-- REQUEST_RECEIVED (R173). -/
def execRequestReceived (kind tag : Byte) (body : List Byte) (s : State) : Host.Outcome State Fault Refusal :=
  .next (receiveRequest ⟨kind, tag, body⟩ s)

/-- The host-silence timer reaches the supervisor timeout (R176, log 29). -/
def hostTimerReached (s : State) : State :=
  weighHost (s.onLink fun l => { l with timer := max l.timer (s.hostTimeoutMs.getD 0) })

/-- HOST_SILENCE_SET (R176). -/
def execHostSilenceSet (s : State) : Host.Outcome State Fault Refusal := .next (hostTimerReached s)

/-- TRANSMIT_COMPLETE (R174). -/
def execTransmitComplete (s : State) : Host.Outcome State Fault Refusal := .next (transmitDone s)

/-! ### Commands that are requests -/

/-- A request's command by its kind. -/
def request (r : Request) (tag : Byte) (body : List Byte) (s : State) : State := offerRequest r.code tag body s

/-- The body of a BIN_COMMAND (11.5): bin number, action code, value. -/
def binBody (bin action : Byte) (value : BitVec 16) : List Byte := [bin, action] ++ bytes16 value

/-- UNKNOWN_KIND (R173). -/
def execUnknownKind (kind tag : Byte) (body : List Byte) (s : State) : Host.Outcome State Fault Refusal :=
  .next (offerRequest kind tag body s)

/-- IDENTIFY (R177). -/
def execIdentify (tag : Byte) (body : List Byte) (s : State) : Host.Outcome State Fault Refusal :=
  .next (request .identify tag body s)

/-- STATUS (R169). -/
def execStatus (tag : Byte) (body : List Byte) (s : State) : Host.Outcome State Fault Refusal :=
  .next (request .status tag body s)

/-- LINE_STATE (R164). -/
def execLineState (tag : Byte) (body : List Byte) (s : State) : Host.Outcome State Fault Refusal :=
  .next (request .lineState tag body s)

/-- LINE_RESET (R170). -/
def execLineReset (tag : Byte) (body : List Byte) (s : State) : Host.Outcome State Fault Refusal :=
  .next (request .lineReset tag body s)

/-- GEOMETRY_WRITE (R178). -/
def execGeometryWrite (tag : Byte) (body : List Byte) (s : State) : Host.Outcome State Fault Refusal :=
  .next (request .geometryWrite tag body s)

/-- TABLE_WRITE (R180). -/
def execTableWrite (tag : Byte) (body : List Byte) (s : State) : Host.Outcome State Fault Refusal :=
  .next (request .tableWrite tag body s)

/-- BANK_ACTIVATE (R181). -/
def execBankActivate (tag : Byte) (body : List Byte) (s : State) : Host.Outcome State Fault Refusal :=
  .next (request .bankActivate tag body s)

/-- BANK_STATUS (R179). -/
def execBankStatus (tag : Byte) (body : List Byte) (s : State) : Host.Outcome State Fault Refusal :=
  .next (request .bankStatus tag body s)

/-- SET_CAPACITY (R115). -/
def execSetCapacity (tag bin : Byte) (value : BitVec 16) (s : State) : Host.Outcome State Fault Refusal :=
  .next (request .binCommand tag (binBody bin 0 value) s)

/-- OPEN (R116). -/
def execBinOpen (tag bin : Byte) (value : BitVec 16) (s : State) : Host.Outcome State Fault Refusal :=
  .next (request .binCommand tag (binBody bin 1 value) s)

/-- CLOSE (R116). -/
def execBinClose (tag bin : Byte) (value : BitVec 16) (s : State) : Host.Outcome State Fault Refusal :=
  .next (request .binCommand tag (binBody bin 2 value) s)

/-- EMPTIED (R117). -/
def execEmptied (tag bin : Byte) (value : BitVec 16) (s : State) : Host.Outcome State Fault Refusal :=
  .next (request .binCommand tag (binBody bin 3 value) s)

/-- OUT_OF_SERVICE (R118). -/
def execOutOfService (tag bin : Byte) (value : BitVec 16) (s : State) : Host.Outcome State Fault Refusal :=
  .next (request .binCommand tag (binBody bin 4 value) s)

/-- BIN_COMMAND (R114): a body of the wrong length, or with an action code that names none. -/
def execBinCommand (tag : Byte) (body : List Byte) (s : State) : Host.Outcome State Fault Refusal :=
  .next (request .binCommand tag body s)

/-- PIECE_QUERY (R24). -/
def execPieceQuery (tag : Byte) (body : List Byte) (s : State) : Host.Outcome State Fault Refusal :=
  .next (request .pieceQuery tag body s)

/-- LAST_PROFILE (R39). -/
def execLastProfile (tag : Byte) (body : List Byte) (s : State) : Host.Outcome State Fault Refusal :=
  .next (request .lastProfile tag body s)

/-- CLEAR_SUSPECT (R22). -/
def execClearSuspect (tag : Byte) (body : List Byte) (s : State) : Host.Outcome State Fault Refusal :=
  .next (request .clearSuspect tag body s)

/-- CLEAR_HALT (R167). -/
def execClearHalt (tag : Byte) (body : List Byte) (s : State) : Host.Outcome State Fault Refusal :=
  .next (request .clearHalt tag body s)

/-- TALLY_READ (R146). -/
def execTallyRead (tag : Byte) (body : List Byte) (s : State) : Host.Outcome State Fault Refusal :=
  .next (request .tallyRead tag body s)

/-- TALLY_CLOSE (R147). -/
def execTallyClose (tag : Byte) (body : List Byte) (s : State) : Host.Outcome State Fault Refusal :=
  .next (request .tallyClose tag body s)

/-- SNAPSHOT_READ (R150). -/
def execSnapshotRead (tag : Byte) (body : List Byte) (s : State) : Host.Outcome State Fault Refusal :=
  .next (request .snapshotRead tag body s)

/-- SNAPSHOT_RELEASE (R151). -/
def execSnapshotRelease (tag : Byte) (body : List Byte) (s : State) : Host.Outcome State Fault Refusal :=
  .next (request .snapshotRelease tag body s)

end Sys2Proof.Machine
end

