-- ==== Sys2Proof/Machine/Dispatch.lean ====
section
/-! DEFINITION. The meaning of every command: one arm for each constructor of Instr. -/

namespace Sys2Proof.Machine

/-- What a command does to everything but the queue of commands. -/
def exec (i : Instr) (s : State) : Host.Outcome State Fault Refusal :=
  match i with
  | .fullReset firstStrap secondStrap estopIn => Sys2Proof.Machine.execFullReset firstStrap secondStrap estopIn s
  | .chainLegalTransition forward eye => Sys2Proof.Machine.execChainLegalTransition forward eye s
  | .chainIllegalTransition => Sys2Proof.Machine.execChainIllegalTransition s
  | .encoderErrorCleared => Sys2Proof.Machine.execEncoderErrorCleared s
  | .reversalHoldEnd => Sys2Proof.Machine.execReversalHoldEnd s
  | .lugEdge eye => Sys2Proof.Machine.execLugEdge eye s
  | .lugMissed eye => Sys2Proof.Machine.execLugMissed eye s
  | .estop => Sys2Proof.Machine.execEstop s
  | .estopRelease => Sys2Proof.Machine.execEstopRelease s
  | .entryOn enc => Sys2Proof.Machine.execEntryOn enc s
  | .entryEnd enc => Sys2Proof.Machine.execEntryEnd enc s
  | .segment head body => Sys2Proof.Machine.execSegment head body s
  | .moistureConversionComplete raw => Sys2Proof.Machine.execMoistureConversionComplete raw s
  | .solveStart => Sys2Proof.Machine.execSolveStart s
  | .solveComplete => Sys2Proof.Machine.execSolveComplete s
  | .hello p tag => Sys2Proof.Machine.execHello p tag s
  | .panelTimeout p => Sys2Proof.Machine.execPanelTimeout p s
  | .gradeSet p tag lug value => Sys2Proof.Machine.execGradeSet p tag lug value s
  | .gradeDown p tag lug value => Sys2Proof.Machine.execGradeDown p tag lug value s
  | .lengthLimit p tag lug value => Sys2Proof.Machine.execLengthLimit p tag lug value s
  | .slash p tag lug value => Sys2Proof.Machine.execSlash p tag lug value s
  | .regrade p tag lug value => Sys2Proof.Machine.execRegrade p tag lug value s
  | .cancel p tag lug value => Sys2Proof.Machine.execCancel p tag lug value s
  | .panelFrameSent p => Sys2Proof.Machine.execPanelFrameSent p s
  | .logLegalTransition forward => Sys2Proof.Machine.execLogLegalTransition forward s
  | .logIllegalTransition => Sys2Proof.Machine.execLogIllegalTransition s
  | .kickPoint => Sys2Proof.Machine.execKickPoint s
  | .logStart => Sys2Proof.Machine.execLogStart s
  | .logSection dx dy cx cy => Sys2Proof.Machine.execLogSection dx dy cx cy s
  | .logEnd => Sys2Proof.Machine.execLogEnd s
  | .frameByte port byte => Sys2Proof.Machine.execFrameByte port byte s
  | .interByteTimeout port => Sys2Proof.Machine.execInterByteTimeout port s
  | .requestReceived kind tag body => Sys2Proof.Machine.execRequestReceived kind tag body s
  | .hostSilenceSet => Sys2Proof.Machine.execHostSilenceSet s
  | .transmitComplete => Sys2Proof.Machine.execTransmitComplete s
  | .unknownKind kind tag body => Sys2Proof.Machine.execUnknownKind kind tag body s
  | .identify tag body => Sys2Proof.Machine.execIdentify tag body s
  | .status tag body => Sys2Proof.Machine.execStatus tag body s
  | .lineState tag body => Sys2Proof.Machine.execLineState tag body s
  | .lineReset tag body => Sys2Proof.Machine.execLineReset tag body s
  | .geometryWrite tag body => Sys2Proof.Machine.execGeometryWrite tag body s
  | .tableWrite tag body => Sys2Proof.Machine.execTableWrite tag body s
  | .bankActivate tag body => Sys2Proof.Machine.execBankActivate tag body s
  | .bankStatus tag body => Sys2Proof.Machine.execBankStatus tag body s
  | .setCapacity tag bin value => Sys2Proof.Machine.execSetCapacity tag bin value s
  | .binOpen tag bin value => Sys2Proof.Machine.execBinOpen tag bin value s
  | .binClose tag bin value => Sys2Proof.Machine.execBinClose tag bin value s
  | .emptied tag bin value => Sys2Proof.Machine.execEmptied tag bin value s
  | .outOfService tag bin value => Sys2Proof.Machine.execOutOfService tag bin value s
  | .pieceQuery tag body => Sys2Proof.Machine.execPieceQuery tag body s
  | .lastProfile tag body => Sys2Proof.Machine.execLastProfile tag body s
  | .clearSuspect tag body => Sys2Proof.Machine.execClearSuspect tag body s
  | .clearHalt tag body => Sys2Proof.Machine.execClearHalt tag body s
  | .tallyRead tag body => Sys2Proof.Machine.execTallyRead tag body s
  | .tallyClose tag body => Sys2Proof.Machine.execTallyClose tag body s
  | .snapshotRead tag body => Sys2Proof.Machine.execSnapshotRead tag body s
  | .snapshotRelease tag body => Sys2Proof.Machine.execSnapshotRelease tag body s
  | .malformedOverride p tag body => Sys2Proof.Machine.execMalformedOverride p tag body s
  | .binCommand tag body => Sys2Proof.Machine.execBinCommand tag body s

end Sys2Proof.Machine
end

