-- ==== Sys2Proof/Safety.lean ====
section
/-! DEFINITION. The terms in which claims about the LT-6 are made: the laws its states keep, the request that stands to
be taken and the reply it leaves, the frames a panel port holds, the answers, solves, closes, finishes, figures, grades
and candidates that statements share or that a long rule asks for, and the commands that are requests or overrides. -/

namespace Sys2Proof.Machine

/-! ### Laws of the whole machine -/

/-- The law of R20: the lifetime admitted count equals the lifetime finished count plus the records in the piece queue.
-/
def LifetimeLaw (s : State) : Prop :=
  s.chain.admitted = s.chain.finished + BitVec.ofNat 64 s.chain.pieces.length

/-- The law of R105: each timed line is on while an entry names it and is ON, and off otherwise. -/
def LinesFollowEntries (o : Output) : Prop :=
  o.saws = (List.range 13).map (fun k => o.lineOn (.saw k)) ∧
    o.gates = (List.range 48).map (fun b => o.lineOn (.gate b)) ∧ o.kicker = o.lineOn .kicker

/-- No saw, gate or kicker line is on. -/
def Output.dark (o : Output) : Prop := (∀ b ∈ o.saws, b = false) ∧ (∀ b ∈ o.gates, b = false) ∧ o.kicker = false

/-- The laws of HALT and of the forced hold (R105, R109, R156, R166): the fault line is on in HALT and off elsewhere,
the schedule is empty in HALT, the lines follow the entries, the causes of forced hold are those in effect, and the
permit line is off while one is. The bank of an open sequence is LOADING and a pending bank VALID, so that no load
makes a bank inactive. -/
structure HaltLaw (s : State) : Prop where
  faultLine : s.line.faultLine = decide (s.line.state = .halt)
  schedule : s.line.state = .halt → s.output.chain = [] ∧ s.output.log = []
  lines : LinesFollowEntries s.output
  causes : s.governor.causes = s.holdCauses
  permit : s.governor.causes.any = true → s.governor.permit = false
  sequence : ∀ q, s.store.sequence = some q → (s.bank q.bank).state = .loading
  pending : ∀ x, s.store.pendingBank = some x → (s.bank x).state = .valid

/-- A bank that a piece or log in flight may carry (R179): ACTIVE, or VALID after being superseded. -/
def Bank.carried (b : Bank) : Prop := b.state = .active ∨ b.state = .valid

/-- The laws of the bank store (R179, R180, R181). -/
structure BankLaw (s : State) : Prop where
  oneActive : ¬(s.store.bankA.state = .active ∧ s.store.bankB.state = .active)
  sequence : ∀ x, (s.bank x).state = .loading ↔ ∃ q, s.store.sequence = some q ∧ q.bank = x
  pending : ∀ x, s.store.pendingBank = some x → (s.bank x).state = .valid
  pieces : ∀ p ∈ s.chain.pieces, (s.bank p.bank).carried
  logs : ∀ l ∈ s.logs.queue, (s.bank l.bank).carried
  running : s.line.state ≠ .idle → s.activeBank.isSome = true

/-- The laws behind the bound of the reply list (R173, R174): of the replies that wait at most one is a request's own,
it is there while the oldest request is taken, a reply stands behind it only while 4 requests wait, and the transmitter
sends the oldest reply. A reply owed to an oldest request not yet taken counts among the 8 (log 2). -/
structure ReplyLaw (l : Link) : Prop where
  bound : l.replies.length + (if l.taken = false ∧ l.requests ≠ [] then 1 else 0) ≤ 8
  sending : ∀ r, l.sending = some (.reply r) → l.replies.head? = some r
  taken : l.taken = true → l.requests ≠ [] ∧ ∃ (before after : List Reply) (r : Reply),
    l.replies = before ++ r :: after ∧ r.own = true ∧ (∀ x ∈ before ++ after, x.own = false) ∧
      (after ≠ [] → l.requests.length = 4)
  waiting : l.taken = false → (∀ x ∈ l.replies, x.own = false) ∧ (l.replies = [] ∨ 3 ≤ l.requests.length)

/-- The laws behind the bounds of the piece queue and the answer list (R13, R16, R88, R178): outside IDLE a geometry
set in range stands, with a drop offset for each of the 48 bins; lug numbers of records differ; every record stands
short of the run-out, and every one not yet committed short of the commit; each answer is owed for a record not yet
committed, one at most for each. -/
structure QueueLaw (s : State) : Prop where
  geometry : ∀ g, s.store.geometry = some g → g.firstBad = none ∧ g.drops.length = 48
  tracked : s.line.state ≠ .idle → s.store.geometry.isSome = true
  idle : s.line.state = .idle → s.chain.pieces = []
  distinct : (s.chain.pieces.map Piece.lug).Nodup
  standing : ∀ g, s.store.geometry = some g → ∀ p ∈ s.chain.pieces, (s.chain.lug - p.lug).toNat < g.runOut
  uncommitted : ∀ g, s.store.geometry = some g → ∀ p ∈ s.chain.pieces, p.stage = .scanning ∨ p.stage = .closed →
    (s.chain.lug - p.lug).toNat < g.commit
  answers : (s.panels.answers.map Answer.lug).Nodup
  owed : ∀ a ∈ s.panels.answers, ∃ p ∈ s.chain.pieces, p.lug = a.lug ∧ (p.stage = .scanning ∨ p.stage = .closed)

/-- The laws of the bins (R112, R118, R121, R122): there are 48; the count and the reserved number of a bin together
are at most its capacity, its full flag is set when they come to it, its reserved number is that of the committed
pieces bound for it, and a bin OUT_OF_SERVICE holds none. A piece bound for a bin has committed, is an unsuspect KEEP
piece and stands short of the bin's drop offset; one not yet committed has no destination, and one that has committed
stands at the commit or past it. -/
structure BinLaw (s : State) : Prop where
  number : s.bins.length = 48
  room : ∀ x ∈ s.bins, x.count + x.reserved ≤ x.capacity ∧ x.capacity ≤ 65535
  full : ∀ x ∈ s.bins, x.full = decide (x.capacity ≤ x.count + x.reserved)
  reserved : ∀ b x, s.bins[b]? = some x → x.reserved = s.chain.pieces.countP fun p => p.dest == some (.bin b)
  outOfService : ∀ x ∈ s.bins, x.state = .outOfService → x.reserved = 0
  bound : ∀ p ∈ s.chain.pieces, ∀ b, p.dest = some (.bin b) →
    (p.stage = .committed ∨ p.stage = .pastSaw) ∧ p.suspect = none ∧
      (∃ l r grade product value, p.decision = some (.keep l r grade product value)) ∧
      ∀ g, s.store.geometry = some g → (s.chain.lug - p.lug).toNat < g.drops.getD b 0
  uncommitted : ∀ p ∈ s.chain.pieces, p.stage = .scanning ∨ p.stage = .closed → p.dest = none
  committed : ∀ g, s.store.geometry = some g → ∀ p ∈ s.chain.pieces, p.stage = .committed ∨ p.stage = .pastSaw →
    g.commit ≤ (s.chain.lug - p.lug).toNat

/-- The bounds the spec sets on the lists the blocks keep (R16, R30, R61, R74, R88, R102, R130, R155, R173, R175) and
on the good-lug run (R10), with the laws that carry those of the reply list, the piece queue and the answer list, and
the laws of the bins. -/
structure CapacityLaw (s : State) : Prop where
  history : s.scan.history.length ≤ 128
  solver : s.solver.queue.length ≤ 8
  panel1 : s.panels.p1.queue.length ≤ 160
  panel2 : s.panels.p2.queue.length ≤ 160
  schedule : s.output.chain.length + s.output.log.length ≤ 48
  logQueue : s.logs.queue.length ≤ 8
  samples : ∀ r ∈ s.logs.queue, r.samples.length ≤ 256
  record : s.governor.record.length ≤ 2
  requests : s.link.requests.length ≤ 4
  replies : s.link.replies.length ≤ 8
  notices : s.link.notices.length ≤ 64
  goodRun : s.chain.goodRun ≤ 255
  pieces : s.chain.pieces.length ≤ 128
  answers : s.panels.answers.length ≤ 128
  replyLaw : ReplyLaw s.link
  queueLaw : QueueLaw s
  binLaw : BinLaw s

/-! ### Requests and replies (R173, R174) -/

/-- The request `f` is the oldest of the request queue and has not been taken. -/
def Waiting (s : State) (f : Frame) : Prop := s.link.taken = false ∧ s.link.requests.head? = some f

/-- The link after the oldest request has been taken and its reply `r` made: the reply joins the reply list, and a free
transmitter begins the oldest reply. -/
def Link.replied (l : Link) (r : Frame) : Link :=
  { l with
    taken := true
    replies := l.replies ++ [⟨r, true⟩]
    sending := match l.sending with
      | some x => some x
      | none => ((l.replies ++ [(⟨r, true⟩ : Reply)]).head?).map Sending.reply }

/-- The link after a notice has been made (R174, R175): it takes the sequence number and joins the notice queue, and a
free transmitter begins the oldest reply, or else the oldest notice, which leaves the queue; with 64 notices waiting it
is dropped and counted. -/
def Link.noticed (l : Link) (n : Notice) : Link :=
  if 64 ≤ l.notices.length then { l with seq := l.seq + 1, dropped := l.dropped.bump }
  else
    let joined := l.notices ++ [(⟨l.seq, n⟩ : QueuedNotice)]
    match l.sending, l.replies, joined with
    | none, r :: _, _ => { l with seq := l.seq + 1, notices := joined, sending := some (.reply r) }
    | none, [], q :: rest => { l with seq := l.seq + 1, notices := rest, sending := some (.notice q.frame) }
    | _, _, _ => { l with seq := l.seq + 1, notices := joined }

/-- The arbiter of a free transmitter (R174): the oldest reply, or else the oldest notice, which leaves the queue. -/
def Link.next (l : Link) : Link :=
  match l.replies, l.notices with
  | r :: _, _ => { l with sending := some (.reply r) }
  | [], q :: rest => { l with notices := rest, sending := some (.notice q.frame) }
  | [], [] => { l with sending := none }

/-- The governor of the second state is that of the first but for notice pressure, which a change of the notice level
may set or clear (R157). -/
def OnlyPressure (s t : State) : Prop := t.governor = { s.governor with pressure := t.governor.pressure }

/-- The request a command is, for the rows of the table that are requests; none for the others. -/
def requestFrame : Instr → Option Frame
  | .unknownKind kind tag body => some ⟨kind, tag, body⟩
  | .identify tag body => some ⟨0x01, tag, body⟩
  | .status tag body => some ⟨0x02, tag, body⟩
  | .lineState tag body => some ⟨0x03, tag, body⟩
  | .lineReset tag body => some ⟨0x04, tag, body⟩
  | .geometryWrite tag body => some ⟨0x05, tag, body⟩
  | .tableWrite tag body => some ⟨0x06, tag, body⟩
  | .bankActivate tag body => some ⟨0x07, tag, body⟩
  | .bankStatus tag body => some ⟨0x08, tag, body⟩
  | .setCapacity tag bin value => some ⟨0x09, tag, [bin, 0] ++ bytes16 value⟩
  | .binOpen tag bin value => some ⟨0x09, tag, [bin, 1] ++ bytes16 value⟩
  | .binClose tag bin value => some ⟨0x09, tag, [bin, 2] ++ bytes16 value⟩
  | .emptied tag bin value => some ⟨0x09, tag, [bin, 3] ++ bytes16 value⟩
  | .outOfService tag bin value => some ⟨0x09, tag, [bin, 4] ++ bytes16 value⟩
  | .binCommand tag body => some ⟨0x09, tag, body⟩
  | .pieceQuery tag body => some ⟨0x0A, tag, body⟩
  | .lastProfile tag body => some ⟨0x0B, tag, body⟩
  | .clearSuspect tag body => some ⟨0x0C, tag, body⟩
  | .clearHalt tag body => some ⟨0x0D, tag, body⟩
  | .tallyRead tag body => some ⟨0x0E, tag, body⟩
  | .tallyClose tag body => some ⟨0x0F, tag, body⟩
  | .snapshotRead tag body => some ⟨0x10, tag, body⟩
  | .snapshotRelease tag body => some ⟨0x11, tag, body⟩
  | .fullReset _ _ _ | .chainLegalTransition _ _ | .chainIllegalTransition | .encoderErrorCleared | .reversalHoldEnd
  | .lugEdge _ | .lugMissed _ | .estop | .estopRelease | .entryOn _ | .entryEnd _ | .segment _ _
  | .moistureConversionComplete _ | .solveStart | .solveComplete | .hello _ _ | .panelTimeout _ | .gradeSet _ _ _ _
  | .gradeDown _ _ _ _ | .lengthLimit _ _ _ _ | .slash _ _ _ _ | .regrade _ _ _ _ | .cancel _ _ _ _
  | .panelFrameSent _ | .logLegalTransition _ | .logIllegalTransition | .kickPoint | .logStart | .logSection _ _ _ _
  | .logEnd | .frameByte _ _ | .interByteTimeout _ | .requestReceived _ _ _ | .hostSilenceSet | .transmitComplete
  | .malformedOverride _ _ _ => none

/-- The governor's causes of forced hold are those in effect (R156), as they are in every state a run reaches. -/
def CausesWeighed (s : State) : Prop := s.governor.causes = s.holdCauses

/-- The governor after the causes of forced hold became `now` (R156): when a hold begins the permit line goes off and
the permit record is emptied. -/
def Governor.held (g : Governor) (now : HoldCauses) : Governor :=
  if now.any = true ∧ g.causes.any = false then { g with causes := now, permit := false, record := [] }
  else { g with causes := now }

/-- The link after bin `b` became `x'` at a lug number, with a BIN_EVENT when its full flag changed (R113). -/
def Link.binNoticed (l : Link) (b : Nat) (x x' : Bin) (cause : BinCause) (lug : LugNo) : Link :=
  if x'.full = x.full then l else l.noticed (.binEvent b x'.full cause x' lug)

/-- The link after bin `b` became `x'` at the lug number as it stands (R113). -/
def State.binLink (s : State) (b : Nat) (x x' : Bin) (cause : BinCause) : Link :=
  s.link.binNoticed b x x' cause s.chain.lug

/-- The state with a request arrived on an empty request queue (R173, R176). -/
def arrived (f : Frame) (s : State) : State := (hostHeard s).onLink fun l => { l with requests := [f] }

/-! ### Overrides and panel ports (R74, R80) -/

/-- The command of an OVERRIDE of a kind. -/
def overrideCommand (k : OverrideKind) (p : PanelId) (tag : Byte) (lug : LugNo) (value : Byte) : Instr :=
  match k with
  | .gradeSet => .gradeSet p tag lug value
  | .gradeDown => .gradeDown p tag lug value
  | .lengthLimit => .lengthLimit p tag lug value
  | .slash => .slash p tag lug value
  | .regrade => .regrade p tag lug value
  | .cancel => .cancel p tag lug value

/-- The values an override of a kind accepts (R80). -/
def OverrideKind.Accepts (k : OverrideKind) (value : Byte) : Prop :=
  match k with
  | .gradeSet => value.toNat ≤ 7
  | .lengthLimit => 2 ≤ value.toNat ∧ value.toNat ≤ 24 ∧ value.toNat % 2 = 0
  | .gradeDown | .slash | .regrade | .cancel => True

/-- The body of an OVERRIDE_REPLY (R81, 11.5): lug number, status code, revision. -/
def replyBody (lug : LugNo) (status revision : Byte) : List Byte :=
  [(lug >>> 8).setWidth 8, lug.setWidth 8, status, revision]

/-- A record after an override was accepted for it (R83, R85): its override, revision, OVERRIDDEN flag, and the
decision that SLASH sets. -/
def Piece.overridden (x : Piece) (p : PanelId) (k : OverrideKind) (value : Byte) : Piece :=
  { x with
    override := if k = .cancel then none
      else some ⟨k, if k = .gradeSet ∨ k = .lengthLimit then value.toNat else 0, p⟩
    revision := x.revision + 1
    flags := { x.flags with overridden := true }
    decision := if k = .slash then some .slash else x.decision }

/-- The frames a panel port has still to finish sending, in the order made: the one being sent, then its queue. -/
def PanelPort.frames (q : PanelPort) : List Frame := q.sending.toList ++ q.queue

/-- The other panel. -/
def otherPanel : PanelId → PanelId
  | .p1 => .p2
  | .p2 => .p1

/-- A frame made for a panel port, when it is kept or dropped (R74): with 160 frames waiting it is dropped and counted,
otherwise it stands behind the others, and a free port begins the oldest. Nothing else of the port changes but its
sequence number, raised by `spent`. -/
def PanelPort.Gained (q r : PanelPort) (spent : Byte) (f : Frame) : Prop :=
  r.present = q.present ∧ r.timer = q.timer ∧ r.seq = q.seq + spent ∧
    (q.queue.length < 160 → r.frames = q.frames ++ [f] ∧ r.sending = r.frames.head? ∧ r.dropped = q.dropped) ∧
    (160 ≤ q.queue.length → r.frames = q.frames ∧ r.sending = q.sending ∧ r.dropped = q.dropped.bump)

/-- The port of a panel after a valid frame of the panel (R75): PRESENT, with its silence timer at 0. -/
def PanelPort.heard (q : PanelPort) : PanelPort := { q with present := true, timer := 0 }

/-- The link after a valid frame of a panel (R75): a PANEL_EVENT when the panel was ABSENT. -/
def State.heardLink (s : State) (p : PanelId) : Link :=
  if (s.panels.port p).present then s.link else s.link.noticed (.panelEvent p true s.chain.lug)

/-- The panel unit when an answer entry may be paid (R88 to R92): while no entry for the lug is due nothing of it
changes; one that is due leaves the answer list, and its panel, when PRESENT, gets the message as a frame with the
port's sequence number. -/
structure AnswerPaid (due : Answer → Prop) (kind : Byte) (body : Answer → List Byte) (lug : LugNo) (s t : State) :
    Prop where
  quiet : (∀ a, s.answer? lug = some a → ¬ due a) → t.panels = s.panels
  paid : ∀ a, s.answer? lug = some a → due a →
    t.panels.answers = s.panels.answers.filter (fun b => b.lug != lug) ∧
    t.panels.port (otherPanel a.panel) = s.panels.port (otherPanel a.panel) ∧
    (if (s.panels.port a.panel).present then
      (s.panels.port a.panel).Gained (t.panels.port a.panel) 1 ⟨kind, (s.panels.port a.panel).seq, body a⟩
     else t.panels.port a.panel = s.panels.port a.panel)

/-- A LAPSED with a reason pays the answer owed for a piece of decision `d` (R90, R92). -/
def LapsedPaid (why : LapseReason) (d : Option Decision) : LugNo → State → State → Prop :=
  AnswerPaid (fun _ => True) 0x25 fun a => a.putLapsed why d

/-- A RESULT pays the answer owed for a piece at a revision, and shows the record `q` (R71, R89). -/
def ResultPaid (q : Piece) (revision : Byte) : LugNo → State → State → Prop :=
  AnswerPaid (fun a => a.revision = revision) 0x24 fun a => q.putResult a.tag

/-! ### The close of a profile (R36, R38, R62, R63) -/

/-- The solver started on the record `x`, which becomes `q` (R65, R44, R50): its solve state is RUNNING, its moisture
is filled, and the solve holds the inputs read. -/
def SolveBegun (x q : Piece) (bins : List Bin) (v : Option Solve) : Prop :=
  q = { x with
    solveState := .running, moisture := q.moisture
    flags := { x.flags with heldMoisture := q.flags.heldMoisture, staleMoisture := q.flags.staleMoisture } } ∧
  v = some { lug := x.lug, revision := x.revision, cells := x.profile.cells, moisture := q.moisture,
             override := x.override, bank := x.bank, bins }

/-- The request that the close of a profile makes (R62, R63): `w` is the record as closed, `q` as the request leaves
it. An EMPTY profile is decided at once; an entry already waiting stands; otherwise an entry joins, starts at once when
the solver is idle with nothing queued, or FAILS when 8 wait. -/
structure SolveAsked (w q : Piece) (s t : State) : Prop where
  emptyProfile : w.profile.status = some .empty →
    q = { w with
      sizeClass := none, solveState := .done
      decision := if w.override.map Override.kind = some .slash then some .slash else none } ∧
    t.solver = s.solver ∧ t.line = s.line ∧ ResultPaid q w.revision w.lug s t
  panels : w.profile.status ≠ some .empty → t.panels = s.panels
  waiting : w.profile.status ≠ some .empty → w.lug ∈ s.solver.queue → q = w ∧ t.solver = s.solver ∧ t.line = s.line
  joined : w.profile.status ≠ some .empty → w.lug ∉ s.solver.queue → s.solver.running ≠ none →
    s.solver.queue.length < 8 → q = { w with solveState := .queued } ∧
      t.solver = { s.solver with queue := s.solver.queue ++ [w.lug] } ∧ t.line = s.line
  begun : w.profile.status ≠ some .empty → s.solver.running = none → s.solver.queue = [] →
    SolveBegun w q s.bins t.solver.running ∧ t.solver.queue = [] ∧ t.line = s.line
  failed : w.profile.status ≠ some .empty → w.lug ∉ s.solver.queue → 8 ≤ s.solver.queue.length →
    q = { w with solveState := .failed } ∧ t.solver = s.solver ∧
      t.line = { s.line with counters := { s.line.counters with failed := s.line.counters.failed.bump } }

/-- A profile closed (R36, R38): `p` is the record before, `w` as closed, `q` after its solve request. A cell with no
value becomes UNKNOWN, the status is EMPTY, COMPLETE or PARTIAL, PARTIAL sets the flag, and the summary goes into a
FREE buffer, which becomes LATEST as the former LATEST becomes FREE. -/
structure ProfileClosed (cause : CloseCause) (p w q : Piece) (s t : State) : Prop where
  cells : w.profile.cells = p.profile.cells.map fun c => if c = .unreported then .unknown else c
  status : w.profile.status = some
    (if ∀ c ∈ w.profile.cells, c = .absent then .empty
     else if .unknown ∈ w.profile.cells then .partialCells else .complete)
  record : w = { p with
    stage := .closed, profile := { p.profile with cells := w.profile.cells, status := w.profile.status }
    flags := { p.flags with
      partialProfile := p.flags.partialProfile || decide (w.profile.status = some .partialCells) } }
  asked : SolveAsked w q s t
  buffer : (∃ b ∈ s.scan.buffers, b.role = .free) →
    ∃ (i : Nat) (b : ProfileBuffer) (m : Summary), s.scan.buffers[i]? = some b ∧ b.role = .free ∧
      t.scan.buffers[i]? = some ⟨.latest, some m⟩ ∧
      (∀ k, k ≠ i → t.scan.buffers[k]? = (s.scan.buffers[k]?).map fun x =>
        if x.role = .latest then { x with role := .free } else x) ∧
      m.lug = p.lug ∧ m.admitCount = p.admitCount ∧ m.bank = p.bank ∧ m.cause = cause ∧
      w.profile.status = some m.status ∧ m.suspect = p.suspect.isSome ∧ m.cells = w.profile.cells ∧
      ∀ h r, p.profile.reports[h]? = some r →
        m.reports[h]? = some (if ((s.bank p.bank).headRun h).isSome then some r else none)

/-! ### The suspect condition (R21) -/

/-- A piece record after the suspect condition was set with a cause: a record not suspect before is marked with the
cause and loses its bin for the run-out; one already suspect keeps its first cause. -/
def Piece.nowSuspect (cause : SuspectCause) (p : Piece) : Piece :=
  if p.suspect.isSome then p
  else { p with suspect := some cause, dest := if p.reservedBin.isSome then some .runOut else p.dest }

/-- The number of reservations in bin `b` that the pieces not yet suspect hold. -/
def State.boundFor (s : State) (b : Nat) : Nat :=
  s.chain.pieces.countP fun p => p.suspect.isNone && p.reservedBin == some b

/-- The suspect condition set with a cause, from the state before to the state after (R21): the condition, the records,
and the reservations released, each bin's full flag following. -/
structure SuspectSet (cause : SuspectCause) (s t : State) : Prop where
  condition : t.chain.suspect = some cause
  records : t.chain.pieces = s.chain.pieces.map (Piece.nowSuspect cause)
  bins : t.bins.length = s.bins.length
  untouched : ∀ b, s.boundFor b = 0 → t.bins[b]? = s.bins[b]?
  released : ∀ b x, s.bins[b]? = some x → 0 < s.boundFor b →
    t.bins[b]? = some { x with reserved := x.reserved - s.boundFor b
                               full := decide (x.capacity ≤ x.count + (x.reserved - s.boundFor b)) }

/-- The SUSPECT_SET notice (R21 step 4), where no reservation is released before it: made when the condition was clear,
with the cause, the line state and the lug number before, and the good-lug run at 0. -/
def SuspectNoticed (cause : SuspectCause) (s t : State) : Prop :=
  (∀ b, s.boundFor b = 0) → t.link =
    if s.chain.suspect.isSome then s.link
    else s.link.noticed (.lineEvent .suspectSet (some (.suspect cause)) s.line.state none s.chain.lug 0)

/-! ### Lugs (R4 to R9) -/

/-- The chain tracker judges a lug edge under geometry `g` (R4, R6, R9): tracking is active, no reversal hold is on,
and the chain stands at its highest count. -/
def EdgeJudged (s : State) (g : Geometry) : Prop :=
  s.line.state ≠ .idle ∧ s.chain.hold = none ∧ s.store.geometry = some g ∧ s.chain.count = s.chain.highest

/-- A judged edge is a good lug (R5, R6): lock-on is armed, or the count lies in the window c0 + P − tol to c0 + P +
tol. -/
def EdgeGood (s : State) (g : Geometry) : Prop :=
  EdgeJudged s g ∧
    (s.chain.lockOn = true ∨
      (reached s.chain.count (s.chain.c0 + BitVec.ofNat 32 g.pitch - BitVec.ofNat 32 g.windowTol) = true ∧
        reached s.chain.count (s.chain.c0 + BitVec.ofNat 32 g.pitch + BitVec.ofNat 32 (g.windowTol + 1)) = false))

/-- The chain tracker judges a good lug edge that brings the one piece `p` in the queue to the station at `offset`,
with no activation pending and the geometry in range, a drop offset for each of the 48 bins (R11, R13, R178). -/
structure AtStation (s : State) (g : Geometry) (p : Piece) (offset : Nat) : Prop where
  good : EdgeGood s g
  inRange : g.firstBad = none
  drops : g.drops.length = 48
  alone : s.chain.pieces = [p]
  position : (s.chain.lug + 1 - p.lug).toNat = offset
  settled : s.store.pendingBank = none

/-- The moisture unit after a lug advance that brought the piece `lug` of a bank to the moisture offset (R41, R43):
every age rises; a conversion set of the channels the bank enables begins when the converter is IDLE, and is SKIPPED
when it is not; with no channel enabled neither. -/
def Moisture.stationed (m : Moisture) (lug : LugNo) (bank : BankId) (channels : List Nat) : Moisture :=
  { m with
    ages := m.ages.map fun a => min 255 (a + 1)
    converter := if channels ≠ [] ∧ m.converter = none then some ⟨lug, bank, channels⟩ else m.converter
    skipped := if channels ≠ [] ∧ m.converter ≠ none then m.skipped.bump else m.skipped }

/-- The solve state a commit leaves (R69): settled by the decision held when an entry waited, and as it was when none
did. -/
def State.settledAt (s : State) (p : Piece) : SolveState :=
  if p.lug ∈ s.solver.queue then (if p.decision.isSome then .done else .failed) else p.solveState

/-- The solver without an entry for a piece (R69). -/
def Solver.without (v : Solver) (lug : LugNo) : Solver := { v with queue := v.queue.filter fun l => l != lug }

/-! ### Head reports (R29) -/

/-- The profile cell that the 32 bits of a cell entry spell (R29, 11.5): bit 31 the present flag, bits 30..28 the
defect class, 27..22 the wane depth, 21..12 the width and 11..2 the thickness. -/
def cellOfWord (w : BitVec 32) : Cell :=
  if w.toNat < 2 ^ 31 then .absent
  else if w.toNat / 2 ^ 28 % 8 = 7 then .unknown
  else .present (w.toNat / 2 ^ 2 % 2 ^ 10) (w.toNat / 2 ^ 12 % 2 ^ 10) (w.toNat / 2 ^ 22 % 2 ^ 6) (w.toNat / 2 ^ 28 % 8)

/-- The fields a SEGMENT's body spells (R29, 11.5): head number, lug number, status, cell count, and an entry of four
bytes for each cell. -/
structure SegmentFields.ReadFrom (f : SegmentFields) (body : List Byte) : Prop where
  head : f.head = (body.getD 0 0).toNat
  lug : f.lug = body.getD 1 0 ++ body.getD 2 0
  status : body.getD 3 0 = match f.status with | .noBoard => 0 | .board => 1 | .headFault => 2
  count : f.count = (body.getD 4 0).toNat
  length : body.length = 5 + 4 * f.count
  number : f.cells.length = f.count
  cells : ∀ i, i < f.count → f.cells[i]? = some (cellOfWord
    (body.getD (5 + 4 * i) 0 ++ body.getD (6 + 4 * i) 0 ++ body.getD (7 + 4 * i) 0 ++ body.getD (8 + 4 * i) 0))

/-! ### The result of a solve (R51 to R59) -/

/-- The size class number a mean earns among the rows of one kind (R51): the defined class of highest number whose
minimum is at or below the mean; none when no class is. -/
def ClassFound (row : Nat → Option SizeClassRow) (mean : Nat) (found : Option Nat) : Prop :=
  (∀ k, found = some k → k < 8 ∧ ∃ r, row k = some r ∧ r.minimum ≤ mean) ∧
  ∀ k r, k < 8 → row k = some r → r.minimum ≤ mean → ∃ j, found = some j ∧ k ≤ j

/-- The limits of a grade hold for a span, line by line (R52, R54); `minT` and `minW` are the minimum thickness and
width of the piece's classes. -/
structure GradeLimits.Holds (g : GradeLimits) (span : List Cell) (minT minW : Nat) (moist : Option Nat) : Prop where
  known : Cell.unknown ∉ span
  waneDepth : ∀ t w a d, Cell.present t w a d ∈ span → a ≤ g.waneDepth
  waneShare : (span.countP fun c => match c with | .present _ _ a _ => decide (0 < a) | _ => false) * 8 ≤
    g.waneShare * span.length
  defects : ∀ t w a d, Cell.present t w a d ∈ span → 1 ≤ d → d ≤ 6 → g.allow.getLsbD d = true
  defectRate : (span.countP fun c => match c with | .present _ _ _ d => decide (1 ≤ d ∧ d ≤ 6) | _ => false) * 8 ≤
    g.defectRate * span.length
  skip : (span.countP fun c => match c with | .present t w _ _ => decide (t < minT ∨ w < minW) | _ => false) ≤ g.skip
  moisture : ∀ m, moist = some m → m ≤ g.moisture

/-- A usable channel whose cells share one with cells 4a to 4b − 1 reads the value `m` (R55). -/
def ReadsSpan (b : Bank) (readings : List (Option Reading)) (left right m : Nat) : Prop :=
  ∃ (c : Nat) (ch : ChannelRow) (r : Reading), c < 4 ∧ b.channel c = some ch ∧ readings[c]? = some (some r) ∧
    r.value = m ∧ ∃ k, ch.first ≤ k ∧ k ≤ ch.last ∧ 4 * left ≤ k ∧ k < 4 * right

/-- A candidate trim of a solve with its grade, as the override leaves it (R53, R54, R56). -/
structure Solve.Offers (v : Solve) (b : Bank) (minT minW : Nat) (c : Candidate) : Prop where
  saws : c.left < c.right ∧ c.right ≤ 12
  length : b.gradeCommon.1 ≤ 2 * (c.right - c.left)
  wood : ∀ k, 4 * c.left ≤ k → k < 4 * c.right → v.cells[k]? ≠ some .absent
  limit : ∀ l panel, v.override = some ⟨.lengthLimit, l, panel⟩ → 2 * (c.right - c.left) ≤ l
  grade : ∀ earned, earned = gradeOf b ((v.cells.drop (4 * c.left)).take (4 * (c.right - c.left))) minT minW
      (spanMoisture b v.moisture c.left c.right) →
    c.grade = match v.override with
      | some ⟨.gradeSet, g, _⟩ => g
      | some ⟨.gradeDown, _, _⟩ => min 7 (earned + 1)
      | _ => earned

/-- A bin named is available to a solve with its near-full margin (R58). -/
def Solve.HasRoom (v : Solve) (margin : Nat) (named : Option Nat) : Prop :=
  ∃ i x, named = some i ∧ v.bins[i]? = some x ∧ x.state = .opened ∧ x.count + x.reserved + margin < x.capacity

/-- One of the two bins of a candidate's SORT entry is available to a solve (R58). -/
def Solve.Routes (v : Solve) (b : Bank) (margin : Nat) (c : Candidate) : Prop :=
  ∃ row, b.sort.rows[c.grade * 12 + (c.right - c.left - 1)]? = some row ∧
    (v.HasRoom margin row.primary ∨ v.HasRoom margin row.alternate)

/-- A candidate goes on to the choice (R58): with the bin-aware flag set, one with neither bin available is excluded,
unless that would leave no candidate. -/
def Solve.Stands (v : Solve) (b : Bank) (margin minT minW : Nat) (c : Candidate) : Prop :=
  v.Offers b minT minW c ∧
    (b.gradeCommon.2 = true → (∃ d, v.Offers b minT minW d ∧ v.Routes b margin d) → v.Routes b margin c)

/-- No candidate betters `c` by higher product, then greater length, then lower grade code, then smaller left saw
(R59). -/
def Unbettered (product : Candidate → Nat) (among : Candidate → Prop) (c : Candidate) : Prop :=
  ∀ d, among d → product d ≤ product c ∧ (product d = product c →
    d.length ≤ c.length ∧ (d.length = c.length → c.grade ≤ d.grade ∧ (c.grade = d.grade → c.left ≤ d.left)))

/-! ### The feed governor (R158 to R160) -/

/-- The end of the governor's phase (R159 step 4): a GAP becomes a FILL of W lugs; a FILL is sampled (R158) and G
adjusted (R160), and the next phase is a GAP of G lugs, or a FILL of W when G is 0. -/
def PhaseEnded (r : GovernorRow) (bins : List Bin) (g e : Governor) : Prop :=
  (g.phase = .gap → e = { g with phase := .fill, remaining := r.window }) ∧
  (g.phase = .fill → ∃ (pressed : Nat) (found : Bool) (target : Nat),
    pressed = bins.countP (fun b => decide (b.state = .opened ∧ b.capacity ≤ b.count + b.reserved + r.margin)) ∧
    (found = true ↔ r.binPressure ≤ pressed ∨ g.pressure = true) ∧
    target = (if found then min (g.g + r.up) r.gMax else max (g.g - r.down) r.gMin) ∧
    e = { g with
      sample := some ⟨pressed, g.pressure, found⟩, g := target
      phase := if 0 < target then .gap else .fill
      remaining := if 0 < target then target else r.window })

/-! ### Logs (R133 to R136, R140, R144) -/

/-- The departure of a sample from the chord between the samples `a` and `z` of different positions, in x or in y as it
is greater, the chord's division toward zero (R135). -/
def Sample.offChord (a z x : Sample) : Nat :=
  max (x.cx - (a.cx + ((z.cx - a.cx) * ((x.pos : Int) - a.pos)).tdiv ((z.pos : Int) - a.pos))).natAbs
    (x.cy - (a.cy + ((z.cy - a.cy) * ((x.pos : Int) - a.pos)).tdiv ((z.pos : Int) - a.pos))).natAbs

/-- The figures of a log of a length with the samples given (R133 to R136): the ends are those of the first and the
last sample, the volume follows the end-area rule, and the sweep is the greatest departure from the chord between the
centres of the first and the last. -/
structure MeasuredAs (length : Nat) (xs : List Sample) (f : Figures) : Prop where
  inches : f.length = length
  ends : ∀ a z, xs.head? = some a → xs.getLast? = some z →
    f.firstEnd = (a.dx + a.dy) / 2 ∧ f.lastEnd = (z.dx + z.dy) / 2 ∧ f.sed = min f.firstEnd f.lastEnd ∧
      f.led = max f.firstEnd f.lastEnd ∧ f.smallLast = decide (f.lastEnd < f.firstEnd) ∧
      f.diameterClass = some (if f.sed / 10 < 4 then 4 else if 40 < f.sed / 10 then 40 else f.sed / 10)
  volume : f.volume = (((xs.zip xs.tail).map fun (x, y) => (y.pos - x.pos) * (x.dx * x.dy + y.dx * y.dy)).sum * 3550 +
    781056) / 1562112
  sweep : ∀ a z, xs.head? = some a → xs.getLast? = some z → 3 ≤ xs.length → a.pos ≠ z.pos →
    (∀ x ∈ xs, Sample.offChord a z x ≤ f.sweep) ∧ ∃ x ∈ xs, Sample.offChord a z x = f.sweep
  straight : xs.length < 3 ∨ (∀ a z, xs.head? = some a → xs.getLast? = some z → a.pos = z.pos) → f.sweep = 0
  noSamples : xs = [] → f = { length, firstEnd := 0, lastEnd := 0, sed := 0, led := 0, smallLast := false,
                              diameterClass := none, volume := 0, sweep := 0 }

/-- A log of a length is GAPPED (R136): the position of its first sample, the difference between two consecutive ones,
or the length less the position of the last exceeds the sample spacing. One with no sample is not weighed. -/
def GappedBy (spacing length : Nat) (xs : List Sample) : Prop :=
  (∃ a, xs.head? = some a ∧ spacing < a.pos) ∨ (∃ x y, (x, y) ∈ xs.zip xs.tail ∧ spacing < y.pos - x.pos) ∨
    ∃ z, xs.getLast? = some z ∧ spacing < length - z.pos

/-- A finished log counted into the period (R144, R145): the entry count and its outcome's counter rise; a log
measured, with a diameter class and not UNMEASURED, adds itself and its volume to all logs of the class, and an
ACCEPTED one to the accepted logs too; nothing else is counted, and a counter or sum that stands at its greatest value
sets the saturated flag. -/
structure LogCounted (r : LogRecord) (o : LogOutcome) (p q : Period) : Prop where
  entries : q.entries = min (2 ^ 32 - 1) (p.entries + 1)
  outcomes : q.logOutcomes = p.logOutcomes.modify
    (match o with | .accepted => 0 | .rejected => 1 | .rejectMissed => 2 | .unmeasured => 3 | .passed => 4)
    fun n => min (2 ^ 32 - 1) (n + 1)
  measured : ∀ f d, o ≠ .unmeasured → r.figures = some f → f.diameterClass = some d →
    q.logCells = p.logCells.modify (d - 4) fun c =>
      { accepted := if o = .accepted then min (2 ^ 32 - 1) (c.accepted + 1) else c.accepted
        acceptedVol := if o = .accepted then min (2 ^ 48 - 1) (c.acceptedVol + f.volume) else c.acceptedVol
        all := min (2 ^ 32 - 1) (c.all + 1), allVol := min (2 ^ 48 - 1) (c.allVol + f.volume) }
  unmeasured : (o = .unmeasured ∨ ∀ f, r.figures = some f → f.diameterClass = none) → q.logCells = p.logCells
  rest : q = { p with entries := q.entries, logOutcomes := q.logOutcomes, logCells := q.logCells
                      saturated := q.saturated }
  kept : p.saturated = true → q.saturated = true
  saturated : p.saturated = false → (q.saturated = true ↔
    q.entries = 2 ^ 32 - 1 ∨ q.logOutcomes[match o with
      | .accepted => 0 | .rejected => 1 | .rejectMissed => 2 | .unmeasured => 3 | .passed => 4]? = some (2 ^ 32 - 1) ∨
    ∃ f d c, o ≠ .unmeasured ∧ r.figures = some f ∧ f.diameterClass = some d ∧ q.logCells[d - 4]? = some c ∧
      (c.accepted = 2 ^ 32 - 1 ∨ c.acceptedVol = 2 ^ 48 - 1 ∨ c.all = 2 ^ 32 - 1 ∨ c.allVol = 2 ^ 48 - 1))

/-- How a record whose kick point has been reached finishes (R140), given whether its log is the open one. -/
def LogRecord.FinishesAs (r : LogRecord) (isOpen : Bool) (o : LogOutcome) (cause : Option EndCause) : Prop :=
  match r.decision with
  | none => o = .unmeasured ∧ cause = some (if isOpen then .kickPoint else .superseded)
  | some .accept => o = .accepted ∧ cause = none
  | some (.reject _) => cause = none ∧
      ((r.kick = .scheduled ∧ o = .rejected) ∨ ((r.kick = .missed ∨ r.kick = .refused) ∧ o = .rejectMissed) ∨
       ((r.kick = .notRun ∨ r.kick = .cancelled) ∧ o = .passed))

/-! ### Runs of commands -/

/-- Commands run one after another, stopping at the first that answers no next state. -/
def execAll : List Instr → State → Host.Outcome State Fault Refusal
  | [], s => .next s
  | c :: cs, s =>
    match exec c s with
    | .next t => execAll cs t
    | .fault r => .fault r
    | .refused r => .refused r

/-- The command that a frame taken on a port is (R31, R74, R80, R128, R173), or none for a frame of a kind or length
its port does not accept. -/
def frameCommand (port : Port) (f : Frame) : Option Instr :=
  match port with
  | .supervisor => some (.requestReceived f.kind f.tag f.body)
  | .panel p =>
    if f.kind = 0x20 then some (.hello p f.tag)
    else if f.kind = 0x21 then
      match overrideKindOfCode (byteAt f.body 2), decide (f.body.length = 4) with
      | some k, true => some (overrideCommand k p f.tag (BitVec.ofNat 16 (u16At f.body 0)) (f.body.getD 3 0))
      | _, _ => some (.malformedOverride p f.tag f.body)
    else none
  | .head h => if f.kind = 0x31 then some (.segment h f.body) else none
  | .logHead =>
    if f.kind = 0x38 ∧ f.body.length = 0 then some .logStart
    else if f.kind = 0x39 ∧ f.body.length = 8 then
      some (.logSection (BitVec.ofNat 16 (u16At f.body 0)) (BitVec.ofNat 16 (u16At f.body 2))
        (BitVec.ofNat 16 (u16At f.body 4)) (BitVec.ofNat 16 (u16At f.body 6)))
    else if f.kind = 0x3A ∧ f.body.length = 0 then some .logEnd
    else none

end Sys2Proof.Machine
end

