-- ==== Sys2Proof/Certificates/Slice0/Obligations.lean ====
section
/-! DEFINITION. The statements for the provers, rule by rule of the spec. -/

open Sys2Proof Sys2Proof.Machine

/-! ### The step -/

/-- A step takes the command at the front of the queue and is exec of it on the state with the queue's rest. -/
def Obligations.StepTakesFrontCommand : Prop :=
  ∀ (c : Instr) (rest : List Instr) (s : State), s.pending = c :: rest → step s = exec c { s with pending := rest }

/-- With no command waiting the step is the idle step (logs 2 and 3, the model's choice): the oldest request that waits
is taken, as its own command would take it; when none waits a millisecond passes. Each panel's timer and the
host-silence timer rise by one and stay at their timeouts (30 s and 60 s while no geometry set is loaded), a PRESENT
panel whose timer comes to its timeout becomes ABSENT, host silence is set when its timer comes to the timeout in
force, and a receiver with bytes of a frame counts the gap. With both panels ABSENT and every receiver HUNTING nothing
else changes but the hold that host silence begins. -/
def Obligations.IdleStepTakesRequestOrTicks : Prop :=
  (∀ (s : State) (c : Instr) (f : Frame), s.pending = [] → requestFrame c = some f → Waiting s f →
    step s = exec c s) ∧
  (∀ (s : State) (panelMax hostMax : Nat) (silent : Bool), s.pending = [] →
    (s.link.taken = true ∨ s.link.requests = []) → CausesWeighed s → s.link.receivers.length = 12 →
    (∀ r ∈ s.link.receivers, r.bytes = [] ∨ r.gap < 2) →
    panelMax = (match s.store.geometry with | none => 30000 | some g => g.panelTimeout * 1000) →
    hostMax = (match s.store.geometry with
      | none => 60000
      | some g => if 1 ≤ g.hostTimeout ∧ g.hostTimeout ≤ 60 then g.hostTimeout * 1000 else 60000) →
    silent = (s.link.silent || (match s.store.geometry with
      | none => false
      | some g => decide (1 ≤ g.hostTimeout ∧ g.hostTimeout ≤ 60 ∧ hostMax ≤ s.link.timer + 1))) →
    ∃ t, step s = .next t ∧
      (∀ p, t.panels.port p = { s.panels.port p with
        timer := min ((s.panels.port p).timer + 1) panelMax
        present := (s.panels.port p).present && decide ((s.panels.port p).timer + 1 < panelMax) }) ∧
      t.panels.answers = s.panels.answers ∧
      t.link.timer = min (s.link.timer + 1) hostMax ∧ t.link.silent = silent ∧
      t.link.receivers = s.link.receivers.map (fun r => if r.bytes = [] then r else { r with gap := r.gap + 1 }) ∧
      t.link.requests = s.link.requests ∧ t.link.taken = s.link.taken ∧ t.link.replies = s.link.replies ∧
      t.link.frameErrors = s.link.frameErrors ∧
      t = { s with panels := t.panels, link := t.link, governor := t.governor } ∧
      (s.panels.p1.present = false → s.panels.p2.present = false →
        t.link = { s.link with timer := t.link.timer, silent := silent, receivers := t.link.receivers } ∧
        t.governor = s.governor.held { s.governor.causes with hostSilent := silent }))

/-- Every command completes, and leaves the commands that wait as they were. -/
def Obligations.CommandsKeepTheQueue : Prop :=
  ∀ (c : Instr) (s : State), ∃ t, exec c s = .next t ∧ t.pending = s.pending

/-! ### The laws of the machine and the resets -/

/-- R26, R46, R73, R92, R110, R125, R141, R153, R162, R171, R182: what a full reset leaves. The inputs stand as they
are (the straps give the rate code of section 8, the emergency-stop input is read and no fault counted, the scan eye is
an input, logs 4 and 5), the commands that wait are the environment's (log 27), and a frame that the supervisor
transmitter or a panel port is sending is cut off (log 41). -/
def Obligations.FullResetValues : Prop :=
  ∀ (first second estop : Bool) (s : State), ∃ t, exec (.fullReset first second estop) s = .next t ∧
    t.chain = { count := 0, highest := 0, encError := false, encRun := 0, lockOn := false, c0 := 0, hold := none,
                goodRun := 0, lug := 0, suspect := none, pieces := [], admitted := 0, finished := 0 } ∧
    t.scan = { eye := s.scan.eye, history := [], late := ⟨0, false⟩, duplicate := ⟨0, false⟩, phantom := ⟨0, false⟩,
               buffers := List.replicate 3 ⟨.free, none⟩, lugSent := List.replicate 8 none } ∧
    t.moisture = { converter := none, held := List.replicate 4 none, ages := List.replicate 4 0,
                   skipped := ⟨0, false⟩, clamps := List.replicate 4 ⟨0, false⟩ } ∧
    t.solver = { queue := [], running := none } ∧
    (∀ p, t.panels.port p = { present := false, timer := 0, queue := [], sending := none, seq := 0,
                              dropped := ⟨0, false⟩ }) ∧
    t.panels.answers = [] ∧
    t.output = { chain := [], log := [], saws := List.replicate 13 false, gates := List.replicate 48 false,
                 kicker := false } ∧
    t.bins = List.replicate 48 { state := .outOfService, capacity := 0, count := 0, reserved := 0, full := true,
                                 drops := 0 } ∧
    t.logs = { count := 0, highest := 0, number := 0, openLog := none, queue := [] } ∧
    t.tally = { period := Period.fresh 1, snapshot := none } ∧
    t.governor = { g := 0, phase := .fill, remaining := 0,
                   causes := { idle := true, halt := false, hostSilent := false, noBank := true },
                   pressure := false, sample := none, record := [], permit := false } ∧
    t.line = { state := .idle, haltCause := none, estopIn := estop, faultLine := false, counters := .zero } ∧
    t.link = { receivers := List.replicate 12 ⟨[], 0⟩, requests := [], taken := false, replies := [], notices := [],
               seq := 0, sending := none, timer := 0, silent := false,
               rate := (if first then 1 else 0) + (if second then 2 else 0),
               frameErrors := List.replicate 12 ⟨0, false⟩, dropped := ⟨0, false⟩ } ∧
    t.store = { geometry := none, bankA := Bank.reset, bankB := Bank.reset, sequence := none, pendingBank := none } ∧
    t.pending = s.pending

/-- The state after reset keeps the four laws that every step keeps, and so does the state every full reset leaves. -/
def Obligations.ResetMeetsTheLaws : Prop :=
  (LifetimeLaw State.reset ∧ HaltLaw State.reset ∧ BankLaw State.reset ∧ CapacityLaw State.reset) ∧
  ∀ (rate : Nat) (estop eye : Bool),
    LifetimeLaw (State.afterReset rate estop eye) ∧ HaltLaw (State.afterReset rate estop eye) ∧
      BankLaw (State.afterReset rate estop eye) ∧ CapacityLaw (State.afterReset rate estop eye)

/-- R20: the lifetime admitted count equals the lifetime finished count plus the number of records in the piece queue,
after every step from a state in which it does. The counts are 64 bits wide and wrap (log 20). -/
def Obligations.EveryStepKeepsLifetimeLaw : Prop :=
  ∀ s t : State, LifetimeLaw s → step s = .next t → LifetimeLaw t

/-- R105, R109, R156, R166: the fault line is on in HALT and off elsewhere, nothing is scheduled in HALT, the timed
lines follow the entries, and the permit line is off in a forced hold, after every step. -/
def Obligations.EveryStepKeepsHaltLaw : Prop :=
  ∀ s t : State, HaltLaw s → step s = .next t → HaltLaw t

/-- R179, R180, R181: at most one bank is ACTIVE, a bank is LOADING while a sequence is open on it and then alone, a
pending bank is VALID, and every piece and log in flight carries a bank that is ACTIVE or VALID, after every step. -/
def Obligations.EveryStepKeepsBankLaw : Prop :=
  ∀ s t : State, BankLaw s → step s = .next t → BankLaw t

/-- The bounds of the lists the blocks keep (R16, R30, R61, R74, R88, R102, R130, R155, R173, R175) and of the good-lug
run (R10), after every step, with the laws that carry those of the reply list, the piece queue and the answer list:
which replies may wait behind one another, and how far the records of the queue have come. R112, R118, R121: the laws
of the bins: count and reserved together within the capacity, the full flag as they give it, and the reserved number
that of the committed pieces bound for the bin, each an unsuspect KEEP piece short of the bin's drop offset. -/
def Obligations.EveryStepKeepsCapacityLaw : Prop :=
  ∀ s t : State, CapacityLaw s → step s = .next t → CapacityLaw t

/-! ### The chain encoder and the lug windows -/

/-- R1, R2, R3: a legal transition counts one up or down, modulo 2^32, whatever the line state; the highest count
follows a forward transition that passes it, but for a reversal hold; the encoder error condition clears when its
legal-transition run reaches 64. The log measurer, the LOG entries, the line state, the geometry set and the snapshot
are as they were. -/
def Obligations.ChainTransitionCounts : Prop :=
  ∀ (forward eye : Bool) (s : State), ∃ t, exec (.chainLegalTransition forward eye) s = .next t ∧
    t.chain.count = (if forward then s.chain.count + 1 else s.chain.count - 1) ∧
    t.chain.highest = (if forward = true ∧ s.chain.hold = none ∧ later (s.chain.count + 1) s.chain.highest = true then
      s.chain.count + 1 else s.chain.highest) ∧
    (s.chain.encError = false → t.chain.encError = false ∧ t.chain.encRun = s.chain.encRun) ∧
    (s.chain.encError = true → s.chain.encRun + 1 < 64 →
      t.chain.encError = true ∧ t.chain.encRun = s.chain.encRun + 1) ∧
    (s.chain.encError = true → 64 ≤ s.chain.encRun + 1 → t.chain.encError = false ∧ t.chain.encRun = 0) ∧
    t.logs = s.logs ∧ t.output.log = s.output.log ∧ t.line = { s.line with counters := t.line.counters } ∧
    t.store.geometry = s.store.geometry ∧ t.tally.snapshot = s.tally.snapshot ∧ t.pending = s.pending

/-- R4: in IDLE the chain encoder is counted (R1, R2, R3), and nothing else follows from it or from a lug edge; and R6,
R9: an edge below the highest count, or with the reversal hold on, is ignored. The premises on the hold, the schedule
and the lines hold in every IDLE state that a run reaches. -/
def Obligations.WhatTheTrackerIgnores : Prop :=
  (∀ (forward eye : Bool) (s : State), s.line.state = .idle → s.chain.hold = none → s.output.chain = [] →
    LinesFollowEntries s.output → s.chain.encError = false →
    exec (.chainLegalTransition forward eye) s = .next { s with
      chain := { s.chain with
        count := if forward then s.chain.count + 1 else s.chain.count - 1
        highest := if forward = true ∧ later (s.chain.count + 1) s.chain.highest = true then s.chain.count + 1
                   else s.chain.highest } }) ∧
  (∀ (eye : Bool) (s : State), s.line.state = .idle →
    exec (.lugEdge eye) s = .next s ∧ exec (.lugMissed eye) s = .next s) ∧
  (∀ (eye : Bool) (s : State), s.chain.hold.isSome = true →
    exec (.lugEdge eye) s = .next s ∧ exec (.lugMissed eye) s = .next s) ∧
  (∀ (eye : Bool) (s : State), s.chain.count ≠ s.chain.highest → exec (.lugEdge eye) s = .next s)

/-- R9, R21, R108: a reverse transition that takes the count more than the reversal tolerance below the highest count
is a REVERSAL: the good-lug run becomes 0, the suspect condition is set, with its notice, the fault is counted, the
hold goes on at the highest count, every chain entry is removed and no saw or gate stays on. No lug is judged MISSED,
and the LOG entries stand. -/
def Obligations.ReversalStopsTheChain : Prop :=
  ∀ (s : State) (g : Geometry) (eye : Bool), s.line.state ≠ .idle → s.chain.hold = none →
    s.store.geometry = some g → reached (s.chain.count - 1) s.chain.highest = false →
    g.reversalTol < (s.chain.highest - (s.chain.count - 1)).toNat →
    (∀ e ∈ s.output.log, e.line = .kicker) →
    ∃ t, exec (.chainLegalTransition false eye) s = .next t ∧ SuspectSet .reversal s t ∧ SuspectNoticed .reversal s t ∧
      t.chain.count = s.chain.count - 1 ∧ t.chain.highest = s.chain.highest ∧ t.chain.hold = some s.chain.highest ∧
      t.chain.goodRun = 0 ∧ t.chain.lug = s.chain.lug ∧ t.chain.c0 = s.chain.c0 ∧ t.chain.lockOn = s.chain.lockOn ∧
      t.output.chain = [] ∧ t.output.log = s.output.log ∧ t.output.saws = List.replicate 13 false ∧
      t.output.gates = List.replicate 48 false ∧
      t.line = { s.line with counters := { s.line.counters with reversal := s.line.counters.reversal.bump } } ∧
      OnlyPressure s t ∧
      t = { s with chain := t.chain, output := t.output, bins := t.bins, line := t.line, link := t.link,
                   governor := t.governor }

/-- R7: a judged edge that comes before the window's start is an EXTRA lug: no lug advance; c0, the window and the lug
number stand; the good-lug run becomes 0, the suspect condition is set with cause EXTRA, with its notice (R21), and the
fault is counted. After a good lug the count stands before the start of the next window, so that a further edge there
is EXTRA. -/
def Obligations.EarlyEdgeIsExtra : Prop :=
  (∀ (s : State) (g : Geometry) (eye : Bool), EdgeJudged s g → s.chain.lockOn = false →
    reached s.chain.count (s.chain.c0 + BitVec.ofNat 32 g.pitch - BitVec.ofNat 32 g.windowTol) = false →
    ∃ t, exec (.lugEdge eye) s = .next t ∧ SuspectSet .extra s t ∧ SuspectNoticed .extra s t ∧
      t.chain = { s.chain with goodRun := 0, suspect := t.chain.suspect, pieces := t.chain.pieces } ∧
      t.output.chain = s.output.chain.filter (fun e =>
        e.on || !((s.chain.pieces.filter fun p => p.suspect.isNone).map Piece.lug).contains e.owner) ∧
      t.output.log = s.output.log ∧
      t.line = { s.line with counters := { s.line.counters with extra := s.line.counters.extra.bump } } ∧
      OnlyPressure s t ∧
      t = { s with chain := t.chain, output := t.output, bins := t.bins, line := t.line, link := t.link,
                   governor := t.governor }) ∧
  (∀ (s : State) (g : Geometry) (eye : Bool), EdgeGood s g → g.firstBad = none →
    ∃ t, exec (.lugEdge eye) s = .next t ∧ EdgeJudged t g ∧ t.chain.lockOn = false ∧
      reached t.chain.count (t.chain.c0 + BitVec.ofNat 32 g.pitch - BitVec.ofNat 32 g.windowTol) = false)

/-- R5, R6, R11, R28, R43, R181: a good lug edge is a lug advance at the count latched: c0 takes it, the lug number and
the good-lug run rise, lock-on is disarmed, a pending activation is taken, the LUG message goes to the heads the active
bank maps (State keeps the number sent, log 18), and every channel's age rises. R41, R35, R78: the stations before the
commit. A piece at the moisture offset, one just admitted where that offset is 0, begins a conversion set or is
SKIPPED, one whose bank enables no channel neither; a piece still SCANNING at the close offset has its profile closed
there; and each PRESENT panel whose mark offset a piece has reached gets a MARK (log 9 for the port's queue, log 7 for
a solve that starts at once). -/
def Obligations.GoodLugAdvances : Prop :=
  (∀ (s : State) (g : Geometry) (eye : Bool), EdgeGood s g →
    ∃ t, exec (.lugEdge eye) s = .next t ∧
      t.chain.lug = s.chain.lug + 1 ∧ t.chain.c0 = s.chain.count ∧ t.chain.goodRun = min 255 (s.chain.goodRun + 1) ∧
      t.chain.lockOn = false ∧ t.chain.count = s.chain.count ∧ t.chain.highest = s.chain.highest ∧
      t.chain.hold = none ∧ t.chain.encError = s.chain.encError ∧ t.chain.encRun = s.chain.encRun ∧
      t.chain.suspect = s.chain.suspect ∧ t.scan.eye = eye ∧
      t.store.pendingBank = none ∧ (∀ x, s.store.pendingBank = some x → t.activeBank = some x) ∧
      (s.store.pendingBank = none → t.store = s.store) ∧
      (∀ x h, t.activeBank = some x → h < s.scan.lugSent.length →
        t.scan.lugSent[h]? =
          if ((t.bank x).headRun h).isSome then some (some (s.chain.lug + 1)) else s.scan.lugSent[h]?) ∧
      t.moisture.ages = s.moisture.ages.map (fun a => min 255 (a + 1)) ∧ t.moisture.held = s.moisture.held ∧
      t.logs = s.logs ∧ t.output.log = s.output.log ∧
      t.line = { s.line with counters := t.line.counters } ∧ t.store.geometry = s.store.geometry ∧
      t.tally.snapshot = s.tally.snapshot ∧ t.pending = s.pending) ∧
  (∀ (s : State) (g : Geometry) (p : Piece) (channels : List Nat), AtStation s g p g.moistureOffset →
    channels = ((List.range 4).filter fun c => ((s.bank p.bank).channel c).isSome) →
    ∃ t, exec (.lugEdge false) s = .next t ∧
      t.moisture = s.moisture.stationed p.lug p.bank channels ∧
      (g.moistureOffset < g.closeOffset → t.chain.pieces = [p] ∧ t.scan.buffers = s.scan.buffers ∧
        t = { s with chain := t.chain, scan := t.scan, moisture := t.moisture, governor := t.governor })) ∧
  (∀ (s : State) (g : Geometry) (x : BankId) (channels : List Nat), EdgeGood s g → g.firstBad = none →
    g.moistureOffset = 0 → s.chain.pieces = [] → s.store.pendingBank = none → s.activeBank = some x →
    channels = ((List.range 4).filter fun c => ((s.bank x).channel c).isSome) →
    ∃ t p, exec (.lugEdge true) s = .next t ∧ t.chain.pieces = [p] ∧ p.lug = s.chain.lug + 1 ∧ p.bank = x ∧
      p.stage = .scanning ∧ p.moisture = List.replicate 4 none ∧
      t.moisture = s.moisture.stationed (s.chain.lug + 1) x channels ∧
      t = { s with chain := t.chain, scan := t.scan, moisture := t.moisture, line := t.line,
                   governor := t.governor }) ∧
  (∀ (s : State) (g : Geometry) (p : Piece), AtStation s g p g.closeOffset →
    ∃ t, exec (.lugEdge false) s = .next t ∧
      (p.stage = .scanning → ∃ w q, t.chain.pieces = [q] ∧ ProfileClosed .closeOffset p w q s t) ∧
      (p.stage ≠ .scanning → t.chain.pieces = [p] ∧ t.scan.buffers = s.scan.buffers ∧ t.solver = s.solver ∧
        t.panels = s.panels ∧ t.line = s.line) ∧
      t = { s with chain := t.chain, scan := t.scan, moisture := t.moisture, solver := t.solver, panels := t.panels,
                   line := t.line, governor := t.governor }) ∧
  (∀ (s : State) (g : Geometry) (p : Piece) (offset : Nat), AtStation s g p offset →
    (offset = g.markP1 ∨ offset = g.markP2) →
    ∃ t, exec (.lugEdge false) s = .next t ∧ t.chain.pieces = [p] ∧
      (∀ x : PanelId,
        if (s.panels.port x).present = true ∧ offset = (match x with | .p1 => g.markP1 | .p2 => g.markP2) then
          (s.panels.port x).Gained (t.panels.port x) 1 ⟨0x23, (s.panels.port x).seq, p.putMark⟩
        else t.panels.port x = s.panels.port x) ∧
      t.panels.answers = s.panels.answers ∧ t.scan.buffers = s.scan.buffers ∧
      t = { s with chain := t.chain, scan := t.scan, moisture := t.moisture, panels := t.panels,
                   governor := t.governor })

/-- R8: with no edge in the window and the count past its end the lug is MISSED: the good-lug run becomes 0, the
suspect condition is set with cause MISSED, the fault is counted, and a synthesized advance is made at the nominal
count c0 + P. The transition that takes the count past the window's end finds the miss by itself (log 1). Every record
is then suspect, one admitted at this advance among them, and SUSPECT_SET is queued when the condition was clear (R21).
-/
def Obligations.MissedLugAdvances : Prop :=
  (∀ (s : State) (g : Geometry) (eye : Bool), s.line.state ≠ .idle → s.chain.hold = none →
    s.store.geometry = some g → s.chain.lockOn = false →
    reached s.chain.count (s.chain.c0 + BitVec.ofNat 32 g.pitch + BitVec.ofNat 32 (g.windowTol + 1)) = true →
    ∃ t, exec (.lugMissed eye) s = .next t ∧ t.chain.lug = s.chain.lug + 1 ∧
      t.chain.c0 = s.chain.c0 + BitVec.ofNat 32 g.pitch ∧ t.chain.goodRun = 0 ∧
      t.chain.suspect = some .missed ∧ (∀ p ∈ t.chain.pieces, p.suspect.isSome = true) ∧
      t.line.counters.missed = s.line.counters.missed.bump ∧ t.chain.count = s.chain.count ∧
      t.chain.highest = s.chain.highest ∧ t.chain.hold = none ∧ t.chain.lockOn = false ∧
      (s.chain.pieces = [] → s.store.pendingBank = none → g.firstBad = none → SuspectNoticed .missed s t) ∧
      t.logs = s.logs ∧ t.output.log = s.output.log ∧ t.line = { s.line with counters := t.line.counters } ∧
      t.store.geometry = s.store.geometry ∧ t.pending = s.pending) ∧
  (∀ (s : State) (g : Geometry) (eye : Bool), s.line.state ≠ .idle → s.chain.hold = none →
    s.store.geometry = some g → s.chain.lockOn = false → s.chain.count = s.chain.highest →
    s.chain.count + 1 = s.chain.c0 + BitVec.ofNat 32 g.pitch + BitVec.ofNat 32 (g.windowTol + 1) →
    ∃ t, exec (.chainLegalTransition true eye) s = .next t ∧ t.chain.count = s.chain.count + 1 ∧
      t.chain.lug = s.chain.lug + 1 ∧ t.chain.c0 = s.chain.c0 + BitVec.ofNat 32 g.pitch ∧
      t.chain.suspect = some .missed)

/-- R14, R15, R30, R161: at a good lug edge on an empty piece queue, with no activation pending and the station offsets
past the scan station, a blocked eye admits one piece, fresh and of the active bank, and counts FILL_DURING_HOLD unless
the permit was given for its lug; a clear eye admits none. The lug history gains the lug and keeps 128. -/
def Obligations.BlockedEyeAdmits : Prop :=
  ∀ (s : State) (g : Geometry) (x : BankId) (eye : Bool), EdgeGood s g → g.firstBad = none → 0 < g.moistureOffset →
    s.chain.pieces = [] → s.store.pendingBank = none → s.activeBank = some x →
    ∃ t, exec (.lugEdge eye) s = .next t ∧
      t.chain.pieces = (if eye then
        [{ lug := s.chain.lug + 1, admitCount := s.chain.count, bank := x, suspect := s.chain.suspect,
           stage := .scanning,
           profile := { cells := List.replicate 52 .unreported, reports := List.replicate 8 .notReported,
                        status := none },
           moisture := List.replicate 4 none, sizeClass := none, decision := none, solveState := .none, revision := 0,
           override := none, dest := none, outcome := none, flags := ⟨false, false, false, false, false⟩ }]
        else []) ∧
      t.chain.admitted = s.chain.admitted + (if eye then 1 else 0) ∧ t.chain.finished = s.chain.finished ∧
      t.scan.history = (s.scan.history ++ [(s.chain.lug + 1, eye)]).drop (s.scan.history.length + 1 - 128) ∧
      t.line.counters = (if eye = true ∧ (s.chain.lug + 1, true) ∉ s.governor.record then
        { s.line.counters with fillDuringHold := s.line.counters.fillDuringHold.bump } else s.line.counters) ∧
      t = { s with chain := t.chain, scan := t.scan, moisture := t.moisture, line := t.line, governor := t.governor }

/-! ### The commit, the saw line, the drop and the run-out -/

/-- R94, R95, R96, R97, R98, R99, R69, R90: the commits that reserve no bin, each piece bound for the run-out. A piece
that is suspect, or not in RUN, or holds no decision, takes the outcome SUSPECT, UNTRIMMED or UNSOLVED, in that order,
and nothing is scheduled. In RUN an unsuspect SLASH piece takes the saws k with 4k at or below its last cell that is
PRESENT or UNKNOWN and fixes no outcome, a KEEP piece with REGRADE takes its two saws and the outcome REGRADE, and a
KEEP piece neither of whose bins is available takes its two saws and the outcome RUN_OUT; where the schedule has no
room for their saws they go UNTRIMMED with SCHEDULE_FULL counted and nothing scheduled. At each the piece's entry
leaves the solver queue and its solve state is then settled, and an answer still owed for the piece is paid with a
LAPSED (log 9 for the port's queue). -/
def Obligations.CommitWithoutABin : Prop :=
  (∀ (s : State) (g : Geometry) (p : Piece) (o : PieceOutcome), AtStation s g p g.commit →
     (if p.suspect.isSome then o = .suspect
      else if s.line.state ≠ .run then o = .untrimmed
      else p.decision = none ∧ o = .unsolved) →
     ∃ t, exec (.lugEdge false) s = .next t ∧
       t.chain.pieces = [{ p with
         stage := .committed, dest := some .runOut, outcome := some o, solveState := s.settledAt p }] ∧
       t.solver = s.solver.without p.lug ∧
       LapsedPaid .committed p.decision p.lug s t ∧
       t.output = s.output ∧ t.bins = s.bins ∧ t.line = s.line ∧ t.link = s.link ∧ t.tally = s.tally ∧
       t.chain.finished = s.chain.finished) ∧
  (∀ (s : State) (g : Geometry) (p : Piece) (saws : List Nat) (o : Option PieceOutcome),
     AtStation s g p g.commit → p.suspect = none → s.line.state = .run → LinesFollowEntries s.output →
     ((p.decision = some .slash ∧ o = none ∧
         saws = (List.range 13).filter fun k =>
           (p.profile.cells.drop (4 * k)).any fun c => decide (c ≠ .absent ∧ c ≠ .unreported)) ∨
       (∃ l r grade product value, p.decision = some (.keep l r grade product value) ∧ saws = [l, r] ∧
         (p.override.map Override.kind = some .regrade ∧ o = some .regrade ∨
          p.override.map Override.kind ≠ some .regrade ∧ o = some .runOut ∧
            ∃ row, (s.bank p.bank).sort.rows[grade * 12 + (r - l - 1)]? = some row ∧
              ∀ b x, (row.primary = some b ∨ row.alternate = some b) → s.bins[b]? = some x →
                ¬(x.state = .opened ∧ x.count + x.reserved < x.capacity)))) →
     (s.output.chain.length + s.output.log.length + saws.length ≤ 48 →
       ∃ t, exec (.lugEdge false) s = .next t ∧
         t.chain.pieces = [{ p with
           stage := .committed, dest := some .runOut, outcome := o, solveState := s.settledAt p }] ∧
         t.solver = s.solver.without p.lug ∧
         LapsedPaid .committed p.decision p.lug s t ∧
         t.bins = s.bins ∧ t.output.log = s.output.log ∧ LinesFollowEntries t.output ∧
         t.output.chain.length = s.output.chain.length + saws.length ∧
         (let saw := s.chain.count + BitVec.ofNat 32 ((g.sawLine - g.commit) * g.pitch) - BitVec.ofNat 32 g.sawLead
          ∀ e : Entry, e ∈ t.output.chain ↔ e ∈ s.output.chain ∨
            ∃ k ∈ saws, e = ⟨.saw k, saw, saw + BitVec.ofNat 32 g.fireWidth, p.lug, .saw, false⟩) ∧
         t.line = s.line ∧ t.link = s.link ∧ t.tally = s.tally) ∧
     (saws ≠ [] → 48 < s.output.chain.length + s.output.log.length + saws.length →
       ∃ t, exec (.lugEdge false) s = .next t ∧
         t.chain.pieces = [{ p with
           stage := .committed, dest := some .runOut, outcome := some .untrimmed, solveState := s.settledAt p
           flags := { p.flags with scheduleFull := true } }] ∧
         t.solver = s.solver.without p.lug ∧
         LapsedPaid .committed p.decision p.lug s t ∧
         t.bins = s.bins ∧ t.output = s.output ∧ t.link = s.link ∧ t.tally = s.tally ∧
         t.line = { s.line with counters := { s.line.counters with
           scheduleFull := s.line.counters.scheduleFull.bump } }))

/-- R94, R95, R97, R99, R69, R90, R113, R120, R121: in RUN an unsuspect KEEP piece without REGRADE, whose primary bin
(or else whose alternate) is OPEN with room, reserves it and joins one entry for each of its saws and one for the gate,
at the counts of R99; with no room in the schedule for the three it goes UNTRIMMED with SCHEDULE_FULL counted, the
reservation taken and released again. The bin's full flag follows each time, with a BIN_EVENT of cause RESERVATION or
RELEASE when it changes. The piece's entry leaves the solver queue and its solve state is then settled, and an answer
still owed for it is paid with a LAPSED (log 9 for the port's queue). -/
def Obligations.CommitKeepsToABin : Prop :=
  ∀ (s : State) (g : Geometry) (p : Piece) (l r grade product value b : Nat) (row : SortRow) (x y z : Bin),
    AtStation s g p g.commit → p.suspect = none → s.line.state = .run →
    p.decision = some (.keep l r grade product value) → p.override.map Override.kind ≠ some .regrade →
    (s.bank p.bank).sort.rows[grade * 12 + (r - l - 1)]? = some row → b < 48 → s.bins[b]? = some x →
    x.state = .opened → x.count + x.reserved < x.capacity →
    (row.primary = some b ∨ row.alternate = some b ∧ ∀ a other, row.primary = some a → s.bins[a]? = some other →
      ¬(other.state = .opened ∧ other.count + other.reserved < other.capacity)) →
    y = { x with reserved := x.reserved + 1, full := decide (x.capacity ≤ x.count + x.reserved + 1) } →
    z = { x with full := decide (x.capacity ≤ x.count + x.reserved) } →
    (s.output.chain.length + s.output.log.length + 3 ≤ 48 →
      ∃ t, exec (.lugEdge false) s = .next t ∧
        t.chain.pieces = [{ p with stage := .committed, dest := some (.bin b), outcome := none
                                   solveState := s.settledAt p }] ∧
        t.solver = s.solver.without p.lug ∧ LapsedPaid .committed p.decision p.lug s t ∧
        t.bins = s.bins.set b y ∧ t.link = s.link.binNoticed b x y .reservation (s.chain.lug + 1) ∧
        t.line = s.line ∧ t.tally = s.tally ∧ t.chain.finished = s.chain.finished ∧
        t.output.log = s.output.log ∧ LinesFollowEntries t.output ∧
        t.output.chain.length = s.output.chain.length + 3 ∧
        (let c := s.chain.count
         let saw := c + BitVec.ofNat 32 ((g.sawLine - g.commit) * g.pitch) - BitVec.ofNat 32 g.sawLead
         let gate := c + BitVec.ofNat 32 ((g.drops.getD b 0 - g.commit) * g.pitch) - BitVec.ofNat 32 g.gateLead
         ∀ e : Entry, e ∈ t.output.chain ↔ e ∈ s.output.chain ∨
           e = ⟨.saw l, saw, saw + BitVec.ofNat 32 g.fireWidth, p.lug, .saw, false⟩ ∨
           e = ⟨.saw r, saw, saw + BitVec.ofNat 32 g.fireWidth, p.lug, .saw, false⟩ ∨
           e = ⟨.gate b, gate, gate + BitVec.ofNat 32 g.gateWidth, p.lug, .gate, false⟩)) ∧
    (48 < s.output.chain.length + s.output.log.length + 3 →
      ∃ t, exec (.lugEdge false) s = .next t ∧
        t.chain.pieces = [{ p with
          stage := .committed, dest := some .runOut, outcome := some .untrimmed, solveState := s.settledAt p
          flags := { p.flags with scheduleFull := true } }] ∧
        t.solver = s.solver.without p.lug ∧ LapsedPaid .committed p.decision p.lug s t ∧
        t.bins = s.bins.set b z ∧
        t.link = (s.link.binNoticed b x y .reservation (s.chain.lug + 1)).binNoticed b y z .release
          (s.chain.lug + 1) ∧
        t.output = s.output ∧ t.tally = s.tally ∧ t.chain.finished = s.chain.finished ∧
        t.line = { s.line with counters := { s.line.counters with
          scheduleFull := s.line.counters.scheduleFull.bump } })

/-- R18, R100, R122, R123, R143: where a piece finishes. At the saw line an unsuspect SLASH piece with no outcome fixed
finishes SLASH and any other becomes PAST_SAW; at its bin's drop offset a piece finishes SORTED, its bin trading the
reservation for a count and a drop; at the run-out every other piece finishes with the outcome its commit fixed,
SUSPECT for a suspect one. A finish counts the outcome, and at SORTED and RUN_OUT the piece and its volume in the cell
of its grade and length, makes a PIECE_DONE and cancels no entry. -/
def Obligations.WhereAPieceFinishes : Prop :=
  (∀ (s : State) (g : Geometry) (p : Piece), AtStation s g p g.sawLine → p.decision = some .slash →
    p.suspect = none → p.outcome = none →
    ∃ t, exec (.lugEdge false) s = .next t ∧ t.chain.pieces = [] ∧ t.chain.finished = s.chain.finished + 1 ∧
      t.link = s.link.noticed (.pieceDone { p with stage := .finished, outcome := some .slash }) ∧
      t.tally.period.entries = min (2 ^ 32 - 1) (s.tally.period.entries + 1) ∧
      t.tally.period.pieceOutcomes = s.tally.period.pieceOutcomes.modify 3 (fun n => min (2 ^ 32 - 1) (n + 1)) ∧
      t.tally.period.cells = s.tally.period.cells ∧ t.output = s.output ∧ t.bins = s.bins) ∧
  (∀ (s : State) (g : Geometry) (p : Piece), AtStation s g p g.sawLine → (∀ b, p.dest = some (.bin b) → b < 48) →
    ¬(p.decision = some .slash ∧ p.suspect = none ∧ p.outcome = none) →
    ∃ t, exec (.lugEdge false) s = .next t ∧ t.chain.pieces = [{ p with stage := .pastSaw }] ∧
      t.link = s.link ∧ t.tally = s.tally ∧ t.output = s.output ∧ t.bins = s.bins) ∧
  (∀ (s : State) (g : Geometry) (p : Piece) (b l r grade product value t w : Nat) (x : Bin) (tr wr : SizeClassRow),
    b < 48 → AtStation s g p (g.drops.getD b 0) → p.dest = some (.bin b) → s.bins[b]? = some x →
    p.decision = some (.keep l r grade product value) → p.sizeClass = some (.sized t w) →
    (s.bank p.bank).thickness t = some tr → (s.bank p.bank).width w = some wr →
    ∃ u, exec (.lugEdge false) s = .next u ∧ u.chain.pieces = [] ∧ u.chain.finished = s.chain.finished + 1 ∧
      u.bins = s.bins.set b { x with reserved := x.reserved - 1, count := x.count + 1
                                     drops := min (2 ^ 32 - 1) (x.drops + 1) } ∧
      u.link = s.link.noticed (.pieceDone { p with stage := .finished, outcome := some .sorted }) ∧
      u.tally.period.entries = min (2 ^ 32 - 1) (s.tally.period.entries + 1) ∧
      u.tally.period.pieceOutcomes = s.tally.period.pieceOutcomes.modify 0 (fun n => min (2 ^ 32 - 1) (n + 1)) ∧
      u.tally.period.cells = s.tally.period.cells.modify (grade * 12 + (r - l - 1)) (fun c =>
        ⟨min (2 ^ 32 - 1) (c.count + 1), min (2 ^ 48 - 1) (c.bf48 + tr.nominal * wr.nominal * (2 * (r - l)))⟩) ∧
      u.tally.period.binDrops = s.tally.period.binDrops.modify b (fun n => min (2 ^ 32 - 1) (n + 1)) ∧
      u.output = s.output) ∧
  (∀ (s : State) (g : Geometry) (p : Piece) (o : PieceOutcome), AtStation s g p g.runOut →
    (if p.suspect.isSome then o = .suspect else p.outcome = some o) →
    ∃ t, exec (.lugEdge false) s = .next t ∧ t.chain.pieces = [] ∧ t.chain.finished = s.chain.finished + 1 ∧
      t.link = s.link.noticed (.pieceDone { p with stage := .finished, outcome := some o }) ∧
      t.tally.period.entries = min (2 ^ 32 - 1) (s.tally.period.entries + 1) ∧
      t.tally.period.pieceOutcomes = s.tally.period.pieceOutcomes.modify
        (match o with
          | .sorted => 0 | .runOut => 1 | .regrade => 2 | .slash => 3 | .untrimmed => 4 | .unsolved => 5 | .suspect => 6
          | .lost => 7) (fun n => min (2 ^ 32 - 1) (n + 1)) ∧
      (o ≠ .sorted → o ≠ .runOut → t.tally.period.cells = s.tally.period.cells) ∧
      (∀ l r grade product value tc w tr wr, o = .runOut → p.decision = some (.keep l r grade product value) →
        p.sizeClass = some (.sized tc w) → (s.bank p.bank).thickness tc = some tr → (s.bank p.bank).width w = some wr →
        t.tally.period.cells = s.tally.period.cells.modify (grade * 12 + (r - l - 1)) (fun c =>
          ⟨min (2 ^ 32 - 1) (c.count + 1), min (2 ^ 48 - 1) (c.bf48 + tr.nominal * wr.nominal * (2 * (r - l)))⟩)) ∧
      (o ≠ .sorted → t.tally.period.binDrops = s.tally.period.binDrops) ∧
      t.output = s.output ∧ t.bins = s.bins)

/-- R155, R156, R158, R159, R160: the governor at a lug advance. In a forced hold nothing of it changes. Otherwise a
phase with no advance left ends before the decision; within a phase the permit follows the phase; the last advance of a
GAP begins a FILL of W lugs; the last of a FILL samples the pressure and moves the gap target up or down between its
limits, and the next phase is a GAP of that many lugs, or a FILL when the target is 0. The decision for the next lug is
recorded, the two latest kept. -/
def Obligations.GovernorSteps : Prop :=
  ∀ (s : State) (g : Geometry) (x : BankId) (r : GovernorRow), EdgeGood s g → s.chain.pieces = [] →
    s.store.pendingBank = none → s.activeBank = some x → (s.bank x).governor.rows.head? = some r →
    (s.governor.causes.any = true → ∃ t, exec (.lugEdge false) s = .next t ∧ t.governor = s.governor ∧
      t = { s with chain := t.chain, scan := t.scan, moisture := t.moisture }) ∧
    (∀ e : Governor, s.governor.causes.any = false → s.governor.remaining = 0 →
      PhaseEnded r s.bins s.governor e → 0 < e.remaining →
      exec (.lugEdge false) s = exec (.lugEdge false) { s with governor := e }) ∧
    (s.governor.causes.any = false → 0 < s.governor.remaining →
      ∃ t e, exec (.lugEdge false) s = .next t ∧
        e = { s.governor with
          permit := s.governor.phase == .fill
          record := (s.governor.record ++ [(s.chain.lug + 2, s.governor.phase == .fill)]).drop
            (s.governor.record.length + 1 - 2)
          remaining := s.governor.remaining - 1 } ∧
        (1 < s.governor.remaining → t.governor = e) ∧
        (s.governor.remaining = 1 → PhaseEnded r s.bins e t.governor) ∧
        t = { s with chain := t.chain, scan := t.scan, moisture := t.moisture, governor := t.governor })

/-- R2, R9, R104, R105: the four commands that weigh again what a transition has already weighed (log 1, the model's
choice). ENTRY_ON turns ON every WAITING entry of the encoder whose start count has been reached, but removes one whose
end count has been reached too; ENTRY_END removes every ON entry whose end count has been reached. The others stay in
their order, the other encoder's entries are not touched, and the lines follow. ENCODER_ERROR_CLEARED clears a
condition whose run has reached 64 and REVERSAL_HOLD_END ends a hold whose highest count has been reached; before that
neither changes anything. -/
def Obligations.EntriesAndConditionsEnd : Prop :=
  (∀ (enc : EncoderId) (s : State),
     (∃ t, exec (.entryOn enc) s = .next t ∧ t = { s with output := t.output } ∧ LinesFollowEntries t.output ∧
       t.output.entries enc = ((s.output.entries enc).filter fun e =>
           e.on || !reached (s.encoderCount enc) e.start || !reached (s.encoderCount enc) e.stop).map (fun e =>
         { e with on := e.on || reached (s.encoderCount enc) e.start }) ∧
       ∀ other, other ≠ enc → t.output.entries other = s.output.entries other) ∧
     (∃ t, exec (.entryEnd enc) s = .next t ∧ t = { s with output := t.output } ∧ LinesFollowEntries t.output ∧
       t.output.entries enc = (s.output.entries enc).filter (fun e => !(e.on && reached (s.encoderCount enc) e.stop)) ∧
       ∀ other, other ≠ enc → t.output.entries other = s.output.entries other)) ∧
  (∀ s : State, s.chain.encError = true → 64 ≤ s.chain.encRun →
    exec .encoderErrorCleared s = .next { s with chain := { s.chain with encError := false, encRun := 0 } }) ∧
  (∀ s : State, (s.chain.encError = false ∨ s.chain.encRun < 64) → exec .encoderErrorCleared s = .next s) ∧
  (∀ (s : State) (h : Count), s.chain.hold = some h → reached s.chain.count h = true →
    exec .reversalHoldEnd s = .next { s with chain := { s.chain with hold := none } }) ∧
  (∀ s : State, (∀ h, s.chain.hold = some h → reached s.chain.count h = false) →
    exec .reversalHoldEnd s = .next s)

/-! ### HALT and the emergency stop -/

/-- R165, R166: a halting fault in STANDBY or RUN takes the line into HALT: the cause is recorded and the fault
counted, every entry is removed and every timed line goes off, each log whose SCHEDULED kick is removed is CANCELLED,
the suspect condition is set, the fault line goes on, and the permit line goes off. The premise on the permit line is
the law of R156. -/
def Obligations.HaltingFaultEntersHalt : Prop :=
  ∀ (s : State) (cause : HaltCause) (c : Instr),
    (c = .estop ∧ cause = .estop ∧ s.line.estopIn = false ∨ c = .chainIllegalTransition ∧ cause = .encoder) →
    (s.line.state = .standby ∨ s.line.state = .run) →
    (s.governor.causes.any = true → s.governor.permit = false) →
    ∃ t, exec c s = .next t ∧ SuspectSet .halt s t ∧
      t.line = { state := .halt, haltCause := some cause,
                 estopIn := (match cause with | .estop => true | .encoder => s.line.estopIn), faultLine := true,
                 counters := (match cause with
                   | .estop => { s.line.counters with estop := s.line.counters.estop.bump }
                   | .encoder => { s.line.counters with encoder := s.line.counters.encoder.bump }) } ∧
      t.output.chain = [] ∧ t.output.log = [] ∧ t.output.dark ∧
      t.logs = { s.logs with queue := s.logs.queue.map fun l =>
        if l.kick = .scheduled ∧ l.number ∈ s.output.log.map Entry.owner then { l with kick := .cancelled } else l } ∧
      t.governor.causes.halt = true ∧ t.governor.permit = false ∧
      t.chain = { s.chain with
        suspect := some .halt, pieces := t.chain.pieces
        encError := (match cause with | .estop => s.chain.encError | .encoder => true)
        encRun := (match cause with | .estop => s.chain.encRun | .encoder => 0) } ∧
      (s.chain.pieces = [] → t.link =
        (let l := s.link.noticed (.lineEvent .haltEntered (some (.halting cause)) .halt (some s.line.state) s.chain.lug
          s.chain.goodRun)
         if s.chain.suspect.isSome then l
         else l.noticed (.lineEvent .suspectSet (some (.suspect .halt)) .halt none s.chain.lug s.chain.goodRun))) ∧
      t = { s with chain := t.chain, output := t.output, bins := t.bins, logs := t.logs, governor := t.governor,
                   line := t.line, link := t.link }

/-- R165, R1, R2: in IDLE and in HALT a halting fault is counted and a HALTING_FAULT queued, and the line state and the
halt cause stay; the illegal transition sets the encoder error condition with its run at 0. A release of the
emergency-stop input changes its last value alone, and an assertion of an input already asserted is no change and no
fault (log 28). -/
def Obligations.HaltingFaultElsewhere : Prop :=
  (∀ s : State, (s.line.state = .idle ∨ s.line.state = .halt) →
     (∃ t, exec .chainIllegalTransition s = .next t ∧ OnlyPressure s t ∧
       t = { s with
         chain := { s.chain with encError := true, encRun := 0 }
         line := { s.line with counters := { s.line.counters with encoder := s.line.counters.encoder.bump } }
         link := s.link.noticed (.lineEvent .haltingFault (some (.halting .encoder)) s.line.state none s.chain.lug
           s.chain.goodRun)
         governor := t.governor }) ∧
     (s.line.estopIn = false → ∃ t, exec .estop s = .next t ∧ OnlyPressure s t ∧
       t = { s with
         line := { s.line with estopIn := true
                               counters := { s.line.counters with estop := s.line.counters.estop.bump } }
         link := s.link.noticed (.lineEvent .haltingFault (some (.halting .estop)) s.line.state none s.chain.lug
           s.chain.goodRun)
         governor := t.governor })) ∧
  (∀ s : State, exec .estopRelease s = .next { s with line := { s.line with estopIn := false } }) ∧
  (∀ s : State, s.line.estopIn = true → exec .estop s = .next s)

/-! ### Head reports and moisture -/

/-- R31, R32, R33: the SEGMENT frames that write no profile, each counted in its own counter: a malformed body is a
frame error of the port; a lug not in the history, an unmapped head, a wrong head number and a wrong cell count are
FORMAT; a BOARD for an empty lug is a PHANTOM and any other report for it is ignored; a lug whose piece has closed or
gone is LATE; a second report is a DUPLICATE. -/
def Obligations.SegmentsTurnedAway : Prop :=
  ∀ (s : State) (h : Fin 8) (body : List Byte),
    (SegmentFields.ofBody body = none → exec (.segment h body) s = .next { s with
      link := { s.link with frameErrors := s.link.frameErrors.modify (3 + h.val) EventCounter.bump } }) ∧
    (∀ f, SegmentFields.ofBody body = some f →
      (s.scan.history.find? (fun e => e.1 == f.lug) = none →
        exec (.segment h body) s = .next { s with
          line := { s.line with counters := { s.line.counters with format := s.line.counters.format.bump } } }) ∧
      (s.scan.history.find? (fun e => e.1 == f.lug) = some (f.lug, false) →
        exec (.segment h body) s = .next (if f.status = .board then
          { s with scan := { s.scan with phantom := s.scan.phantom.bump } } else s)) ∧
      (s.scan.history.find? (fun e => e.1 == f.lug) = some (f.lug, true) →
        ((∀ p, s.piece? f.lug = some p → p.stage ≠ .scanning) →
          exec (.segment h body) s = .next { s with scan := { s.scan with late := s.scan.late.bump } }) ∧
        (∀ p, s.piece? f.lug = some p → p.stage = .scanning →
          ((∀ first last, (s.bank p.bank).headRun h.val = some (first, last) →
              f.head ≠ h.val ∨ f.count ≠ last - first + 1) →
            exec (.segment h body) s = .next { s with
              line := { s.line with counters := { s.line.counters with format := s.line.counters.format.bump } } }) ∧
          (∀ first last, (s.bank p.bank).headRun h.val = some (first, last) → f.head = h.val →
            f.count = last - first + 1 → p.profile.reports[h.val]? ≠ some .notReported →
            exec (.segment h body) s = .next { s with
              scan := { s.scan with duplicate := s.scan.duplicate.bump } }))))

/-- R29, R34, R35, R36, R38, R62, R63: a head's first report for a piece being scanned is read from the bytes of its
body, the bits of each cell entry as 11.5 lays them out, and written into the head's run: the cells sent for BOARD,
ABSENT for NO_BOARD, UNKNOWN for HEAD_FAULT; no other cell and no other record changes. While another mapped head has
not reported nothing else happens; the last report closes the profile as EMPTY, PARTIAL or COMPLETE, asks for its solve
and leaves its summary in a FREE last-profile buffer (log 7 for a solve that starts at once, log 9 for the RESULT that
an EMPTY one may pay). -/
def Obligations.HeadReportIsWritten : Prop :=
  ∀ (s : State) (h : Fin 8) (body : List Byte) (f : SegmentFields) (p : Piece) (first last : Nat),
    SegmentFields.ofBody body = some f → s.scan.history.find? (fun e => e.1 == f.lug) = some (f.lug, true) →
    s.piece? f.lug = some p → p.stage = .scanning → (s.bank p.bank).headRun h.val = some (first, last) →
    f.head = h.val → f.count = last - first + 1 → first ≤ last →
    p.profile.reports[h.val]? = some .notReported → p.profile.reports.length = 8 →
    f.ReadFrom body ∧ ∃ t q r, exec (.segment h body) s = .next t ∧ t.piece? f.lug = some q ∧
      r = { p with profile := { p.profile with
        cells := r.profile.cells
        reports := p.profile.reports.set h.val
          (match f.status with | .board => .board | .noBoard => .noBoard | .headFault => .headFault) } } ∧
      r.profile.cells.length = p.profile.cells.length ∧
      (∀ k, first ≤ k → k ≤ last → k < p.profile.cells.length → r.profile.cells[k]? = some
        (match f.status with
          | .board => f.cells.getD (k - first) .absent | .noBoard => .absent | .headFault => .unknown)) ∧
      (∀ k, ¬(first ≤ k ∧ k ≤ last) → r.profile.cells[k]? = p.profile.cells[k]?) ∧
      ((s.solver.running = none → s.solver.queue = []) → ∀ lug, lug ≠ f.lug → t.piece? lug = s.piece? lug) ∧
      ((∃ k, k ≠ h.val ∧ k < 8 ∧ ((s.bank p.bank).headRun k).isSome ∧
          p.profile.reports[k]? = some .notReported) →
        q = r ∧ t = { s with chain := { s.chain with pieces := t.chain.pieces } }) ∧
      ((∀ k, k ≠ h.val → k < 8 → ((s.bank p.bank).headRun k).isSome → p.profile.reports[k]? ≠ some .notReported) →
        (∃ w, ProfileClosed .allReported r w q s t) ∧
        t = { s with chain := { s.chain with pieces := t.chain.pieces }
                     scan := { s.scan with buffers := t.scan.buffers }
                     solver := t.solver, panels := t.panels, line := t.line })

/-- R42, R41: a conversion's result becomes the held reading of the channel it is for, offset + (gain × scaled) div 2^R
clamped to 0..600 with the clamp counted, its age 0; it is written into the owning piece unless that has committed; and
the next channel is converted, or the converter becomes IDLE. The bank's MOISTURE table is read as it stands; where a
load has taken the channel from it while the set ran, the value before the clamp is free (log 32, the model's choice).
-/
def Obligations.MoistureResultIsTaken : Prop :=
  ∀ (s : State) (raw : BitVec 12) (owner : LugNo) (x : BankId) (c : Nat) (rest : List Nat),
    s.moisture.converter = some ⟨owner, x, c :: rest⟩ →
    ∃ (t : State) (cal : Int) (v : Nat), exec (.moistureConversionComplete raw) s = .next t ∧
      (∀ (r : ChannelRow) (resolution stale : Nat), (s.bank x).moisture.loaded = true →
        (s.bank x).channel c = some r → (s.bank x).moistureCommon = (resolution, stale) →
        cal = r.offset + ((r.gain * (raw.toNat / 2 ^ (12 - resolution)) / 2 ^ resolution : Nat) : Int)) ∧
      (((s.bank x).moisture.loaded = false ∨ (s.bank x).channel c = none) →
        cal = Config.openCalibration c raw.toNat) ∧
      (v : Int) = min (max cal 0) 600 ∧
      t.moisture = { s.moisture with
        converter := if rest = [] then none else some ⟨owner, x, rest⟩
        held := s.moisture.held.set c (some v)
        ages := s.moisture.ages.set c 0
        clamps := if cal < 0 ∨ 600 < cal then s.moisture.clamps.modify c EventCounter.bump else s.moisture.clamps } ∧
      (∀ p, s.piece? owner = some p → (p.stage = .scanning ∨ p.stage = .closed) →
        t.piece? owner = some { p with moisture := p.moisture.set c (some ⟨v, false⟩) }) ∧
      (∀ p, s.piece? owner = some p → p.stage ≠ .scanning → p.stage ≠ .closed → t.piece? owner = some p) ∧
      (∀ lug, lug ≠ owner → t.piece? lug = s.piece? lug) ∧
      t = { s with moisture := t.moisture, chain := { s.chain with pieces := t.chain.pieces } }

/-! ### The trim solver -/

/-- R65, R50, R44, R61: with no solve in progress the oldest entry leaves the queue and its piece's solve starts. Each
enabled channel without its own reading takes a fresh held reading, or is absent; the solve holds the record's cells,
moisture, override and revision, its bank, and the bins as they stand. With a solve in progress or nothing queued
nothing starts. -/
def Obligations.SolveStarts : Prop :=
  (∀ (s : State) (lug : LugNo) (rest : List LugNo) (p : Piece), s.solver.running = none → s.solver.queue = lug :: rest →
    s.piece? lug = some p →
    ∃ t q, exec .solveStart s = .next t ∧ t.piece? lug = some q ∧
      q = { p with
        solveState := .running, moisture := q.moisture
        flags := { p.flags with heldMoisture := q.flags.heldMoisture, staleMoisture := q.flags.staleMoisture } } ∧
      (∀ c, c < 4 → q.moisture[c]? = some
        (if ((s.bank p.bank).channel c).isNone then none
         else match (p.moisture[c]?).join with
          | some ⟨v, false⟩ => some ⟨v, false⟩
          | _ => if s.moisture.ages.getD c 0 ≤ (s.bank p.bank).moistureCommon.2 then
              ((s.moisture.held[c]?).join).map fun v => ⟨v, true⟩
            else none)) ∧
      (q.flags.heldMoisture = true ↔ p.flags.heldMoisture = true ∨
        ∃ c v, c < 4 ∧ q.moisture[c]? = some (some ⟨v, true⟩)) ∧
      (q.flags.staleMoisture = true ↔ p.flags.staleMoisture = true ∨
        ∃ c, c < 4 ∧ q.moisture[c]? = some none ∧ ((s.bank p.bank).channel c).isSome = true ∧
          ((s.moisture.held[c]?).join).isSome = true) ∧
      t.solver = { queue := rest, running := some {
        lug, revision := p.revision, cells := p.profile.cells, moisture := q.moisture, override := p.override,
        bank := p.bank, bins := s.bins } } ∧
      (∀ other, other ≠ lug → t.piece? other = s.piece? other) ∧
      t = { s with chain := { s.chain with pieces := t.chain.pieces }, solver := t.solver }) ∧
  (∀ s : State, (s.solver.running ≠ none ∨ s.solver.queue = []) → exec .solveStart s = .next s)

/-- R67, R68, R71, R89, R72: at its completion a solve's result is written when its piece stands CLOSED at the revision
read, with a RESULT for the panel owed an answer at that revision; otherwise it is DISCARDED and counted, a committed
piece's solve state is settled, and an uncommitted piece is solved again from its record as it then stands, or is
FAILED when 8 entries wait. Then the oldest entry that waits is started at once (log 7), a waiting entry of the piece
itself standing for the solve again. With no solve in progress nothing completes (log 28). The RESULT joins its panel's
queue as log 9 says. -/
def Obligations.SolveCompletes : Prop :=
  (∀ (s : State) (v : Solve) (p : Piece), s.solver = { queue := [], running := some v } → s.piece? v.lug = some p →
    p.stage = .closed → p.revision = v.revision →
    ∃ t q, exec .solveComplete s = .next t ∧ t.piece? v.lug = some q ∧
      q = { p with sizeClass := (v.result (s.bank v.bank)).1, decision := (v.result (s.bank v.bank)).2,
                   solveState := .done } ∧
      t.solver = { queue := [], running := none } ∧ (∀ other, other ≠ v.lug → t.piece? other = s.piece? other) ∧
      ResultPaid q v.revision v.lug s t ∧
      t = { s with chain := { s.chain with pieces := t.chain.pieces }, solver := t.solver, panels := t.panels }) ∧
  (∀ (s : State) (v : Solve), s.solver = { queue := [], running := some v } → s.piece? v.lug = none →
    exec .solveComplete s = .next { s with
      solver := { queue := [], running := none }
      line := { s.line with counters := { s.line.counters with discarded := s.line.counters.discarded.bump } } }) ∧
  (∀ (s : State) (v : Solve) (p : Piece), s.solver = { queue := [], running := some v } → s.piece? v.lug = some p →
    (p.stage = .committed ∨ p.stage = .pastSaw) →
    ∃ t, exec .solveComplete s = .next t ∧
      t.piece? v.lug = some { p with solveState := if p.decision.isSome then .done else .failed } ∧
      t = { s with
        chain := { s.chain with pieces := t.chain.pieces }, solver := { queue := [], running := none }
        line := { s.line with counters := { s.line.counters with discarded := s.line.counters.discarded.bump } } }) ∧
  (∀ (s : State) (v : Solve) (p : Piece), s.solver = { queue := [], running := some v } → s.piece? v.lug = some p →
    p.stage = .closed → p.revision ≠ v.revision →
    ∃ t q w, exec .solveComplete s = .next t ∧ t.piece? v.lug = some q ∧ q.solveState = .running ∧
      q.decision = p.decision ∧ t.solver = { queue := [], running := some w } ∧ w.lug = v.lug ∧
      w.revision = p.revision ∧ w.override = p.override ∧ w.cells = p.profile.cells ∧
      t = { s with
        chain := { s.chain with pieces := t.chain.pieces }, solver := t.solver
        line := { s.line with counters := { s.line.counters with discarded := s.line.counters.discarded.bump } } }) ∧
  (∀ (s : State) (v : Solve) (lug : LugNo) (rest : List LugNo) (p : Piece) (again : Bool),
    s.solver = { queue := lug :: rest, running := some v } → s.piece? lug = some p →
    (again = true ↔ ∃ x, s.piece? v.lug = some x ∧ (x.stage = .scanning ∨ x.stage = .closed) ∧
      ¬(x.stage = .closed ∧ x.revision = v.revision) ∧ v.lug ∉ lug :: rest) →
    ∃ t q, exec .solveComplete s = .next t ∧ t.piece? lug = some q ∧ q.solveState = .running ∧
      q.revision = p.revision ∧
      t.solver.running = some { lug, revision := p.revision, cells := p.profile.cells, moisture := q.moisture,
                                override := p.override, bank := p.bank, bins := s.bins } ∧
      (again = false → t.solver.queue = rest) ∧
      (again = true → rest.length < 7 → t.solver.queue = rest ++ [v.lug]) ∧
      (again = true → 7 ≤ rest.length → t.solver.queue = rest ∧
        (∃ x, t.piece? v.lug = some x ∧ x.solveState = .failed) ∧
        t.line.counters.failed = s.line.counters.failed.bump) ∧
      t = { s with chain := { s.chain with pieces := t.chain.pieces }, solver := t.solver, panels := t.panels,
                   line := t.line }) ∧
  (∀ s : State, s.solver.running = none → exec .solveComplete s = .next s)

/-- R52, R54, R55, R59: the grade of a span is the first defined code whose limits all hold for it, or 7, CULL, when
none holds; the limits hold when every line of R54's table does; the span moisture is the highest value among the
usable channels that share a cell with the span, and none when there is no such channel. Among the remaining candidates
one is chosen that no other betters, by higher product, then greater length, then lower grade code, then smaller left
saw; the decision is SLASH when none remains or the product chosen is 0, and otherwise KEEP with the chosen saws,
grade, product and reported value. -/
def Obligations.GradeAndTrimAreChosen : Prop :=
  (∀ (b : Bank) (span : List Cell) (minT minW : Nat) (moist : Option Nat),
     gradeOf b span minT minW moist ≤ 7 ∧
     (∀ g l, g < gradeOf b span minT minW moist → b.gradeLimits g = some l → l.hold span minT minW moist = false) ∧
     (gradeOf b span minT minW moist < 7 →
       ∃ l, b.gradeLimits (gradeOf b span minT minW moist) = some l ∧ l.hold span minT minW moist = true)) ∧
  (∀ (l : GradeLimits) (span : List Cell) (minT minW : Nat) (moist : Option Nat),
     l.hold span minT minW moist = true ↔ l.Holds span minT minW moist) ∧
  (∀ (b : Bank) (readings : List (Option Reading)) (left right : Nat), left < right →
     (∀ c ch, b.channel c = some ch → ch.first ≤ ch.last) →
     (∀ m, spanMoisture b readings left right = some m ↔
       ReadsSpan b readings left right m ∧ ∀ n, ReadsSpan b readings left right n → n ≤ m) ∧
     (spanMoisture b readings left right = none ↔ ∀ n, ¬ ReadsSpan b readings left right n)) ∧
  (∀ (product : Candidate → Nat) (cs : List Candidate),
     (cs = [] → decideTrim product cs = .slash) ∧
     (cs ≠ [] → ∃ c ∈ cs, Unbettered product (· ∈ cs) c ∧
       decideTrim product cs = if product c = 0 then .slash
         else .keep c.left c.right c.grade (product c) ((product c + 240) / 480)))

/-- R51, R56, R57, R58, R59: the result of a solve. With no PRESENT cell the size class is absent and the decision is
absent, or SLASH under an override SLASH. Otherwise the means of thickness and width, the remainder dropped, each earn
the defined class of highest number whose minimum they meet; a mean that earns none makes the piece UNDERSIZE and
SLASH. A sized piece under an override SLASH is SLASH; otherwise the choice is made among the candidates with their
grades as the override leaves them, but for those that the bin-aware exclusion takes, and is SLASH where none stands or
the one that none betters is worth nothing. R53, R57, R59: every KEEP decision a solve gives has its left saw below its
right saw, a length of at least the bank's minimum product length and no ABSENT cell in its span; its product is Tq × W
× length × price at its grade, is not 0, and is reported rounded half up in hundredths. -/
def Obligations.KeepDecisionsAreProper : Prop :=
  (∀ (v : Solve) (b : Bank) (gr : GovernorRow) (sizes : List (Nat × Nat)) (slash : Prop) (ft fw : Option Nat),
    b.governor.rows.head? = some gr → sizes = v.cells.filterMap Cell.size? →
    (slash ↔ v.override.map Override.kind = some .slash) →
    (sizes = [] → (slash → v.result b = (none, some .slash)) ∧ (¬ slash → v.result b = (none, none))) ∧
    (sizes ≠ [] → ClassFound b.thickness ((sizes.map Prod.fst).sum / sizes.length) ft →
      ClassFound b.width ((sizes.map Prod.snd).sum / sizes.length) fw →
      (ft = none ∨ fw = none → v.result b = (some .undersize, some .slash)) ∧
      ∀ t w tr wr (product : Candidate → Nat) (stands : Candidate → Prop), ft = some t → fw = some w →
        b.thickness t = some tr → b.width w = some wr →
        product = (fun c => tr.nominal * wr.nominal * (2 * (c.right - c.left)) *
          b.price.rows.getD (((c.grade * 12 + (c.right - c.left - 1)) * 8 + t) * 8 + w) 0) →
        stands = v.Stands b gr.margin tr.minimum wr.minimum →
        (slash → v.result b = (some (.sized t w), some .slash)) ∧
        (¬ slash → (∀ c, ¬ stands c) → v.result b = (some (.sized t w), some .slash)) ∧
        (¬ slash → (∃ c, stands c) → ∃ c, stands c ∧ Unbettered product stands c ∧
          v.result b = (some (.sized t w), some (if product c = 0 then .slash
            else .keep c.left c.right c.grade (product c) ((product c + 240) / 480)))))) ∧
  (∀ (v : Solve) (b : Bank) (size : Option SizeClass) (l r grade product value : Nat),
    v.result b = (size, some (.keep l r grade product value)) →
    l < r ∧ r ≤ 12 ∧ b.gradeCommon.1 ≤ 2 * (r - l) ∧
    (∀ k, 4 * l ≤ k → k < 4 * r → v.cells[k]? ≠ some .absent) ∧
    0 < product ∧ value = (product + 240) / 480 ∧
    ∃ t w tr wr, size = some (.sized t w) ∧ b.thickness t = some tr ∧ b.width w = some wr ∧
      product = tr.nominal * wr.nominal * (2 * (r - l)) * b.priceOf grade (r - l - 1) t w)

/-! ### The grader panels -/

/-- R75, R77, R174: a HELLO is answered with its own tag, the line state, the lug number and the panel's mark offset, 0
while no geometry set is loaded. As any valid frame it restarts the silence timer, and makes an ABSENT panel PRESENT
with a PANEL_EVENT. How the answer joins the port's queue of 160 is log 9, and that its body does not repeat the tag is
log 34 (the model's). -/
def Obligations.HelloIsAnswered : Prop :=
  ∀ (s : State) (p : PanelId) (tag : Byte), ∃ t, exec (.hello p tag) s = .next t ∧
    (s.panels.port p).heard.Gained (t.panels.port p) 0
      ⟨0x20, tag, [(match s.line.state with | .idle => 0 | .standby => 1 | .run => 2 | .halt => 3),
        (s.chain.lug >>> 8).setWidth 8, s.chain.lug.setWidth 8,
        (match s.store.geometry, p with
          | none, _ => 0
          | some g, .p1 => BitVec.ofNat 8 g.markP1
          | some g, .p2 => BitVec.ofNat 8 g.markP2)]⟩ ∧
    t.panels.port (otherPanel p) = s.panels.port (otherPanel p) ∧ t.panels.answers = s.panels.answers ∧
    t.link = s.heardLink p ∧ OnlyPressure s t ∧
    t = { s with panels := t.panels, link := t.link, governor := t.governor }

/-- R75, R76, R74: a PRESENT panel whose silence timer reaches the panel timeout becomes ABSENT with a PANEL_EVENT, and
nothing else of it changes (log 29, the model's choice: the command asserts that the timer has reached it); when a port
finishes sending, its oldest waiting frame is sent next. -/
def Obligations.PanelTimeoutAndSending : Prop :=
  (∀ (s : State) (p : PanelId), (s.panels.port p).present = true → ∃ t, exec (.panelTimeout p) s = .next t ∧
    t.panels.port p = { s.panels.port p with
      present := false
      timer := max (s.panels.port p).timer
        (match s.store.geometry with | none => 30000 | some g => g.panelTimeout * 1000) } ∧
    t.panels.port (otherPanel p) = s.panels.port (otherPanel p) ∧ t.panels.answers = s.panels.answers ∧
    t.link = s.link.noticed (.panelEvent p false s.chain.lug) ∧ OnlyPressure s t ∧
    t = { s with panels := t.panels, link := t.link, governor := t.governor }) ∧
  (∀ (s : State) (p : PanelId), (s.panels.port p).present = false → ∃ t, exec (.panelTimeout p) s = .next t ∧
    (t.panels.port p).present = false ∧ t = { s with panels := t.panels }) ∧
  (∀ (s : State) (p : PanelId), ∃ t, exec (.panelFrameSent p) s = .next t ∧
    t.panels.port p = { s.panels.port p with
      sending := (s.panels.port p).queue.head?, queue := (s.panels.port p).queue.tail } ∧
    t.panels.port (otherPanel p) = s.panels.port (otherPanel p) ∧ t.panels.answers = s.panels.answers ∧
    t = { s with panels := t.panels })

/-- R80, R81, R82: an OVERRIDE is answered INVALID (0) for a value its kind does not accept, NO_PIECE (1) when no
record stands for its lug, TOO_LATE (2) after commit, BUSY (3) when it needs a re-solve and the queue is full without
it, in that order; a malformed OVERRIDE is answered INVALID. Apart from the presence of its panel the reply is all that
such an OVERRIDE brings. The model's own: how the reply joins the port's queue of 160 (log 9), that its body does not
repeat the tag (log 34), and the lug answered to a body of the wrong length, its bytes 0 and 1, or a free value where
it is shorter than two bytes (log 12). -/
def Obligations.OverridesTurnedAway : Prop :=
  ∀ (s : State) (c : Instr) (p : PanelId) (tag : Byte) (lug : LugNo) (status revision : Byte),
    ((∃ k value, c = overrideCommand k p tag lug value ∧
      (¬ k.Accepts value ∧ status = 0 ∧ revision = 0 ∨
       k.Accepts value ∧ s.piece? lug = none ∧ status = 1 ∧ revision = 0 ∨
       k.Accepts value ∧ (∃ x, s.piece? lug = some x ∧ (x.stage = .committed ∨ x.stage = .pastSaw) ∧ status = 2 ∧
         revision = x.revision) ∨
       k.Accepts value ∧ k ≠ .slash ∧ k ≠ .regrade ∧ (∃ x, s.piece? lug = some x ∧ x.stage = .closed ∧
         x.profile.status ≠ some .empty ∧ lug ∉ s.solver.queue ∧ 8 ≤ s.solver.queue.length ∧ status = 3 ∧
         revision = x.revision))) ∨
     (∃ body, c = .malformedOverride p tag body ∧
       (body.length ≠ 4 ∨ 5 < (body.getD 2 0).toNat) ∧ status = 0 ∧ revision = 0 ∧
       lug = if 2 ≤ body.length then body.getD 0 0 ++ body.getD 1 0 else Config.missingLug body)) →
    ∃ t, exec c s = .next t ∧
      (s.panels.port p).heard.Gained (t.panels.port p) 0 ⟨0x22, tag, replyBody lug status revision⟩ ∧
      t.panels.port (otherPanel p) = s.panels.port (otherPanel p) ∧ t.panels.answers = s.panels.answers ∧
      t.link = s.heardLink p ∧ OnlyPressure s t ∧
      t = { s with panels := t.panels, link := t.link, governor := t.governor }

/-- R83, R84, R85, R88: an OVERRIDE accepted for a piece being scanned sets its override, raises its revision and sets
OVERRIDDEN, and asks for no solve. SLASH sets the decision at once and is answered with a RESULT after the reply; the
other kinds leave an answer owed to the panel at the new revision. That a body does not repeat the frame's tag is log
34. -/
def Obligations.OverrideOfAScannedPiece : Prop :=
  ∀ (s : State) (k : OverrideKind) (p : PanelId) (tag value : Byte) (lug : LugNo) (x : Piece),
    k.Accepts value → s.piece? lug = some x → x.stage = .scanning → x.solveState = .none → s.answer? lug = none →
    (s.panels.port p).queue.length < 159 →
    ∃ t, exec (overrideCommand k p tag lug value) s = .next t ∧
      t.piece? lug = some (x.overridden p k value) ∧
      (∀ other, other ≠ lug → t.piece? other = s.piece? other) ∧
      (t.panels.port p).present = true ∧ (t.panels.port p).timer = 0 ∧
      (t.panels.port p).frames = (s.panels.port p).frames ++
        (⟨0x22, tag, replyBody lug 4 (x.revision + 1)⟩ ::
          if k = .slash then [⟨0x24, (s.panels.port p).seq, (x.overridden p k value).putResult tag⟩] else []) ∧
      (t.panels.port p).seq = (s.panels.port p).seq + (if k = .slash then 1 else 0) ∧
      t.panels.port (otherPanel p) = s.panels.port (otherPanel p) ∧
      t.panels.answers = s.panels.answers ++ (if k = .slash then [] else [⟨lug, x.revision + 1, p, tag⟩]) ∧
      t.link = s.heardLink p ∧ OnlyPressure s t ∧
      t = { s with chain := { s.chain with pieces := t.chain.pieces }, panels := t.panels, link := t.link,
                   governor := t.governor }

/-- R63, R64, R82, R84, R86, R87, R88: for a CLOSED piece whose profile is not EMPTY a GRADE_SET, GRADE_DOWN,
LENGTH_LIMIT or CANCEL asks for a fresh solve: with a solve in progress its entry joins the queue, or stands where one
waits already, and with an idle solver the solve starts at once (log 7). A SLASH or REGRADE asks for none. For an EMPTY
profile the four are decided at once, with no decision and a RESULT. The entry of the answer list is replaced, and the
other panel, when PRESENT, hears of it by a REPLACED. How frames join a port's queue of 160 is log 9, and that a body
does not repeat the frame's tag is log 34 (the model's). -/
def Obligations.OverrideOfAClosedPiece : Prop :=
  ∀ (s : State) (k : OverrideKind) (p : PanelId) (tag value : Byte) (lug : LugNo) (x : Piece),
    k.Accepts value → s.piece? lug = some x → x.stage = .closed →
    (x.profile.status = some .empty ∨ k = .slash ∨ k = .regrade ∨ lug ∈ s.solver.queue ∨
      s.solver.queue.length < 8 ∧ (s.solver.running = none → s.solver.queue = [])) →
    (s.panels.port p).queue.length < 159 →
    ∃ t, exec (overrideCommand k p tag lug value) s = .next t ∧
      (k ≠ .slash → k ≠ .regrade → x.profile.status ≠ some .empty →
        t.panels.answers = s.panels.answers.filter (fun a => a.lug != lug) ++ [⟨lug, x.revision + 1, p, tag⟩] ∧
        (lug ∈ s.solver.queue → t.piece? lug = some { x.overridden p k value with solveState := .queued } ∧
          t.solver = s.solver) ∧
        (lug ∉ s.solver.queue → s.solver.running ≠ none →
          t.piece? lug = some { x.overridden p k value with solveState := .queued } ∧
          t.solver = { s.solver with queue := s.solver.queue ++ [lug] }) ∧
        (lug ∉ s.solver.queue → s.solver.running = none → ∃ q, t.piece? lug = some q ∧
          SolveBegun (x.overridden p k value) q s.bins t.solver.running ∧ t.solver.queue = [])) ∧
      (k ≠ .slash → k ≠ .regrade → x.profile.status = some .empty →
        t.piece? lug = some { x.overridden p k value with sizeClass := none, decision := none, solveState := .done } ∧
        t.solver = s.solver ∧ t.panels.answers = s.panels.answers.filter (fun a => a.lug != lug)) ∧
      (k = .slash → t.piece? lug = some (x.overridden p k value) ∧ t.solver = s.solver ∧
        t.panels.answers = s.panels.answers.filter (fun a => a.lug != lug)) ∧
      (k = .regrade → t.piece? lug = some (x.overridden p k value) ∧ t.solver = s.solver ∧
        t.panels.answers = s.panels.answers.filter (fun a => a.lug != lug) ++
          (if x.solveState = .done ∨ x.solveState = .failed then [] else [⟨lug, x.revision + 1, p, tag⟩])) ∧
      (∀ other, other ≠ lug → t.piece? other = s.piece? other) ∧
      (∀ q, t.piece? lug = some q → (t.panels.port p).frames = (s.panels.port p).frames ++
        (⟨0x22, tag, replyBody lug 4 (x.revision + 1)⟩ ::
          if k = .slash ∨ k = .regrade ∧ (x.solveState = .done ∨ x.solveState = .failed) ∨
              k ≠ .regrade ∧ x.profile.status = some .empty then
            [⟨0x24, (s.panels.port p).seq, q.putResult tag⟩] else [])) ∧
      (∀ a, s.answer? lug = some a → a.panel = otherPanel p →
        if (s.panels.port (otherPanel p)).present then
          (s.panels.port (otherPanel p)).Gained (t.panels.port (otherPanel p)) 1
            ⟨0x26, (s.panels.port (otherPanel p)).seq, a.putReplaced k p⟩
        else t.panels.port (otherPanel p) = s.panels.port (otherPanel p)) ∧
      ((∀ a, s.answer? lug = some a → a.panel = p) →
        t.panels.port (otherPanel p) = s.panels.port (otherPanel p)) ∧
      t.link = s.heardLink p ∧ OnlyPressure s t ∧
      t = { s with chain := { s.chain with pieces := t.chain.pieces }, solver := t.solver, panels := t.panels,
                   link := t.link, governor := t.governor }

/-! ### The log measurer -/

/-- R126, R127, R104, R140, R144: a legal transition counts one up or down; while a log is in the queue the highest log
count follows a forward one that passes it. A reverse one that takes the count more than the reversal tolerance below
the highest log count is a LOG_ENCODER fault, as an illegal one is at any time, which leaves the count: it is counted,
every LOG entry is removed and the kicker goes off unless a chain entry names it, and every record in the queue is
finished UNMEASURED with end cause FAULT. With no such fault the LOG entries are taken at the new count, and a log
whose kick point that count has reached finishes (log 1). Neither touches the chain, the pieces, the bins or the line
state. -/
def Obligations.LogEncoderIsCounted : Prop :=
  (∀ (forward : Bool) (s : State) (c h : Count), c = (if forward then s.logs.count + 1 else s.logs.count - 1) →
    h = (if forward = true ∧ s.logs.queue ≠ [] ∧ later c s.logs.highest = true then c else s.logs.highest) →
    ∃ t, exec (.logLegalTransition forward) s = .next t ∧
    t.logs.count = c ∧ t.logs.highest = h ∧ t.logs.number = s.logs.number ∧
    t.output.chain = s.output.chain ∧ LinesFollowEntries t.output ∧
    ((s.logs.queue = [] ∨ reached c h = true ∨
        ∀ g, s.store.geometry = some g → (h - c).toNat ≤ g.reversalTol) →
      t.line = s.line ∧
      t.output.log = s.output.log.filterMap (fun e =>
        if e.on = true then (if reached c e.stop then none else some e)
        else if reached c e.start then (if reached c e.stop then none else some { e with on := true }) else some e) ∧
      ((∀ r ∈ s.logs.queue, reached c r.kickPoint = false) →
        t.logs = { s.logs with count := c, highest := h } ∧ t.link = s.link ∧ t.tally = s.tally) ∧
      (∀ r o cause, s.logs.queue = [r] → reached c r.kickPoint = true →
        r.FinishesAs (decide (s.logs.openLog = some r.number)) o cause →
        t.logs.queue = [] ∧ t.logs.openLog = (if s.logs.openLog = some r.number then none else s.logs.openLog) ∧
        t.link = s.link.noticed (.logDone { r with outcome := some o, endCause := cause }) ∧
        LogCounted r o s.tally.period t.tally.period ∧ t.tally.snapshot = s.tally.snapshot)) ∧
    (∀ g, s.logs.queue ≠ [] → s.store.geometry = some g → reached c h = false → g.reversalTol < (h - c).toNat →
      t.logs.queue = [] ∧ t.logs.openLog = none ∧ t.output.log = [] ∧
      t.line = { s.line with counters := { s.line.counters with logEncoder := s.line.counters.logEncoder.bump } } ∧
      ∀ r, s.logs.queue = [r] →
        t.link = s.link.noticed (.logDone { r with outcome := some .unmeasured, endCause := some .fault }) ∧
        LogCounted r .unmeasured s.tally.period t.tally.period ∧ t.tally.snapshot = s.tally.snapshot) ∧
    t = { s with logs := t.logs, output := t.output, tally := t.tally, line := t.line, link := t.link,
                 governor := t.governor }) ∧
  (∀ s : State, ∃ t, exec .logIllegalTransition s = .next t ∧
    t.logs.count = s.logs.count ∧ t.logs.highest = s.logs.highest ∧ t.logs.number = s.logs.number ∧
    t.logs.queue = [] ∧ (s.logs.queue ≠ [] → t.logs.openLog = none) ∧
    t.output.log = [] ∧ t.output.chain = s.output.chain ∧ LinesFollowEntries t.output ∧
    t.line = { s.line with counters := { s.line.counters with logEncoder := s.line.counters.logEncoder.bump } } ∧
    (∀ r, s.logs.queue = [r] →
      t.link = s.link.noticed (.logDone { r with outcome := some .unmeasured, endCause := some .fault }) ∧
      LogCounted r .unmeasured s.tally.period t.tally.period ∧ t.tally.snapshot = s.tally.snapshot) ∧
    (s.logs.queue = [] → t.link = s.link ∧ t.tally = s.tally ∧ t.logs = s.logs) ∧
    t = { s with logs := t.logs, output := t.output, tally := t.tally, line := t.line, link := t.link,
                 governor := t.governor })

/-- R140, R144, R145: a record whose kick point count has been reached is finished, with the outcome its stage, its
decision and its kick state give, and is counted: in the counter of its outcome, and, measured, with its volume among
all the logs of its diameter class and, ACCEPTED, among the accepted ones, each staying at its greatest value. One
whose kick point has not been reached stays. KICK_POINT weighs again what the transition has already weighed (log 1;
LogEncoderIsCounted says the same of the transition). -/
def Obligations.LogFinishesAtItsKickPoint : Prop :=
  (∀ (s : State) (r : LogRecord) (o : LogOutcome) (cause : Option EndCause), s.logs.queue = [r] →
    reached s.logs.count r.kickPoint = true →
    r.FinishesAs (decide (s.logs.openLog = some r.number)) o cause →
    ∃ t, exec .kickPoint s = .next t ∧
      t.logs = { s.logs with queue := []
                             openLog := if s.logs.openLog = some r.number then none else s.logs.openLog } ∧
      t.link = s.link.noticed (.logDone { r with outcome := some o, endCause := cause }) ∧
      LogCounted r o s.tally.period t.tally.period ∧ t.tally.snapshot = s.tally.snapshot ∧
      OnlyPressure s t ∧ t = { s with logs := t.logs, tally := t.tally, link := t.link, governor := t.governor }) ∧
  (∀ s : State, (∀ r ∈ s.logs.queue, reached s.logs.count r.kickPoint = false) → exec .kickPoint s = .next s)

/-- R129, R130, R127: a LOG_START ends the open log; in IDLE or with 8 records the log is UNTRACKED, and otherwise a
fresh OPEN record of the next log number and the active bank joins the queue, its kick point K × cpi counts beyond its
start. -/
def Obligations.LogStarts : Prop :=
  (∀ s : State, (s.line.state = .idle ∨ 8 ≤ s.logs.queue.length) →
    exec .logStart s = .next { s with
      logs := { s.logs with openLog := none }
      line := { s.line with counters := { s.line.counters with untracked := s.line.counters.untracked.bump } } }) ∧
  (∀ (s : State) (g : Geometry) (x : BankId), s.line.state ≠ .idle → s.logs.queue.length < 8 →
    s.store.geometry = some g → s.activeBank = some x →
    exec .logStart s = .next { s with
      logs := { s.logs with
        number := s.logs.number + 1
        openLog := some (s.logs.number + 1)
        highest := if s.logs.queue = [] then s.logs.count else s.logs.highest
        queue := s.logs.queue ++ [{
          number := s.logs.number + 1, bank := x, start := s.logs.count
          kickPoint := s.logs.count + BitVec.ofNat 32 (g.kickDistance * g.cpi), closed := false, samples := []
          figures := none, decision := none, kick := .none, flags := ⟨false, false, false, false, false⟩
          outcome := none, endCause := none }] } })

/-- R131: a LOG_SECTION with no open log is STRAY. For the open log its position is the distance from the start count
in inches, never below the last sample's; beyond 480 in or behind 256 samples the log is OVERLONG and no sample is
taken, and otherwise a sample is appended with each value clamped and CLAMPED set if one was. -/
def Obligations.LogSectionIsTaken : Prop :=
  (∀ (s : State) (dx dy cx cy : BitVec 16), s.logs.openLog = none →
    exec (.logSection dx dy cx cy) s = .next { s with
      line := { s.line with counters := { s.line.counters with stray := s.line.counters.stray.bump } } }) ∧
  (∀ (s : State) (dx dy cx cy : BitVec 16) (n : LogNo) (r : LogRecord) (g : Geometry) (pos : Nat),
    s.logs.openLog = some n → s.log? n = some r → s.store.geometry = some g →
    pos = max (if reached s.logs.count r.start then (s.logs.count - r.start).toNat / g.cpi else 0)
      (match r.samples.getLast? with | some x => x.pos | none => 0) →
    ∃ t, exec (.logSection dx dy cx cy) s = .next t ∧
      t.log? n = some (if 480 < pos ∨ 256 ≤ r.samples.length then
          { r with flags := { r.flags with overlong := true } }
        else { r with
          samples := r.samples ++ [⟨pos, min dx.toNat 600, min dy.toNat 600, min (max cx.toInt (-600)) 600,
            min (max cy.toInt (-600)) 600⟩]
          flags := { r.flags with
            clamped := r.flags.clamped ||
              decide (600 < dx.toNat ∨ 600 < dy.toNat ∨ 600 < cx.toInt.natAbs ∨ 600 < cy.toInt.natAbs) } }) ∧
      (∀ m, m ≠ n → t.log? m = s.log? m) ∧
      t = { s with logs := { s.logs with queue := t.logs.queue } })

/-- R132, R133, R134, R135, R136, R138, R139: a LOG_END with no open log is STRAY. It closes the open log with its
figures, worked out from its samples (the ends, the small end, the diameter class, the volume by the end-area rule and
the sweep from the chord), its flags GAPPED and NO_SAMPLES, and its decision, REJECT when any reason of R138 stands,
and settles the kick by the table of R139; a SCHEDULED kick joins one kicker entry a lead ahead of the kick point. -/
def Obligations.LogEnds : Prop :=
  (∀ s : State, s.logs.openLog = none → exec .logEnd s = .next { s with
    line := { s.line with counters := { s.line.counters with stray := s.line.counters.stray.bump } } }) ∧
  (∀ (s : State) (n : LogNo) (r : LogRecord) (g : Geometry) (lim : LogLimits) (start : Count),
    s.logs.openLog = some n → s.log? n = some r → s.store.geometry = some g →
    (s.bank r.bank).log.rows.head? = some lim →
    start = r.kickPoint - BitVec.ofNat 32 g.kickLead →
    ∃ t q f why, exec .logEnd s = .next t ∧ t.logs.openLog = none ∧ t.log? n = some q ∧
      MeasuredAs (if reached s.logs.count r.start then (s.logs.count - r.start).toNat / g.cpi else 0) r.samples f ∧
      why = { noSamples := r.samples.isEmpty, short := decide (f.length < lim.minLength),
              long := decide (lim.maxLength < f.length),
              smallEnd := !r.samples.isEmpty && decide (f.sed < lim.minSed),
              largeEnd := !r.samples.isEmpty && decide (lim.maxLed < f.led),
              sweep := !r.samples.isEmpty && decide (lim.maxSweep < f.sweep) } ∧
      q = { r with
        closed := true, figures := some f, kick := q.kick
        decision := some (if why = ⟨false, false, false, false, false, false⟩ then .accept else .reject why)
        flags := { r.flags with gapped := q.flags.gapped, noSamples := r.samples.isEmpty
                                scheduleFull := q.flags.scheduleFull } } ∧
      (q.flags.gapped = true ↔ GappedBy g.sampleSpacing f.length r.samples) ∧
      (why = ⟨false, false, false, false, false, false⟩ →
        q.kick = r.kick ∧ q.flags.scheduleFull = r.flags.scheduleFull ∧ t.output = s.output ∧ t.line = s.line) ∧
      (why ≠ ⟨false, false, false, false, false, false⟩ → s.line.state ≠ .run →
        q.kick = .notRun ∧ q.flags.scheduleFull = r.flags.scheduleFull ∧ t.output = s.output ∧ t.line = s.line) ∧
      (why ≠ ⟨false, false, false, false, false, false⟩ → s.line.state = .run →
        reached s.logs.count start = true →
        q.kick = .missed ∧ q.flags.scheduleFull = r.flags.scheduleFull ∧ t.output = s.output ∧ t.line = s.line) ∧
      (why ≠ ⟨false, false, false, false, false, false⟩ → s.line.state = .run →
        reached s.logs.count start = false → 48 < s.output.chain.length + s.output.log.length + 1 →
        q.kick = .refused ∧ q.flags.scheduleFull = true ∧ t.output = s.output ∧
        t.line = { s.line with counters := { s.line.counters with
          scheduleFull := s.line.counters.scheduleFull.bump } }) ∧
      (why ≠ ⟨false, false, false, false, false, false⟩ → s.line.state = .run →
        reached s.logs.count start = false → s.output.chain.length + s.output.log.length + 1 ≤ 48 →
        q.kick = .scheduled ∧ q.flags.scheduleFull = r.flags.scheduleFull ∧ t.line = s.line ∧
        t.output.chain = s.output.chain ∧ LinesFollowEntries t.output ∧
        t.output.log.length = s.output.log.length + 1 ∧
        ∀ e : Entry, e ∈ t.output.log ↔ e ∈ s.output.log ∨
          e = ⟨.kicker, start, start + BitVec.ofNat 32 g.kickWidth, r.number, .kick, false⟩) ∧
      (∀ m, m ≠ n → t.log? m = s.log? m) ∧
      t = { s with logs := { s.logs with queue := t.logs.queue, openLog := none }, output := t.output,
                   line := t.line })

/-! ### The supervisor link -/

/-- R172: while HUNTING a byte other than the lead byte is discarded, and the lead byte starts a frame. A body length
above 512, a wrong check, and a gap of more than 2 ms each abandon the frame: counted, with the receiver HUNTING again
when no lead byte stands among the bytes taken after its own. A gap while HUNTING is nothing. -/
def Obligations.ReceiversHuntAndAbandon : Prop :=
  ∀ (s : State) (port : Port), portIndex port < s.link.receivers.length →
    (∀ b, s.receiver port = ⟨[], 0⟩ → b ≠ 0xC3 → exec (.frameByte port b) s = .next s) ∧
    (s.receiver port = ⟨[], 0⟩ → exec (.frameByte port 0xC3) s = .next { s with
      link := { s.link with receivers := s.link.receivers.set (portIndex port) ⟨[0xC3], 0⟩ } }) ∧
    (∀ hi lo, s.receiver port = ⟨[], 0⟩ → 512 < hi.toNat * 256 + lo.toNat → hi ≠ 0xC3 → lo ≠ 0xC3 →
      execAll ([0xC3, hi, lo].map (Instr.frameByte port)) s = .next { s with
        link := { s.link with frameErrors := s.link.frameErrors.modify (portIndex port) EventCounter.bump } }) ∧
    (∀ (f : Frame) (check : BitVec 16), s.receiver port = ⟨[], 0⟩ → f.body.length ≤ 512 → check ≠ crc16 f.inner →
      0xC3 ∉ f.inner ++ bytes16 check →
      execAll ((0xC3 :: (f.inner ++ bytes16 check)).map (Instr.frameByte port)) s = .next { s with
        link := { s.link with frameErrors := s.link.frameErrors.modify (portIndex port) EventCounter.bump } }) ∧
    (∀ rest, (s.receiver port).bytes = 0xC3 :: rest → 0xC3 ∉ rest →
      exec (.interByteTimeout port) s = .next { s with
        link := { s.link with
          receivers := s.link.receivers.set (portIndex port) ⟨[], 0⟩
          frameErrors := s.link.frameErrors.modify (portIndex port) EventCounter.bump } }) ∧
    (s.receiver port = ⟨[], 0⟩ → exec (.interByteTimeout port) s = .next s)

/-- R172, R174, R31, R74, R128, R173: the bytes of a frame's own layout (lead byte, length, kind, tag, body, check),
given one by one to a receiver that is HUNTING, do exactly what the command of that frame does, on every port and for
every kind, tag and body of at most 512 bytes; a frame its port does not accept is a frame error of the port. That a
HELLO is taken with any body and a log frame of the wrong length is a frame error is the model's reading (logs 16 and
24). -/
def Obligations.BytesOfAFrameAreItsCommand : Prop :=
  ∀ (s : State) (port : Port) (f : Frame), portIndex port < s.link.receivers.length → s.receiver port = ⟨[], 0⟩ →
    f.body.length ≤ 512 →
    execAll (f.wire.map (Instr.frameByte port)) s =
      match frameCommand port f with
      | some c => exec c s
      | none => .next { s with
          link := { s.link with frameErrors := s.link.frameErrors.modify (portIndex port) EventCounter.bump } }

/-- R173, R176: a request on the supervisor port restarts the host-silence timer and clears host silence. With fewer
than 4 requests it joins the request queue; with 4, and fewer than 8 replies made or owed (log 2), it is answered BUSY;
beyond that it is discarded and counted as a frame error. -/
def Obligations.RequestsAreReceived : Prop :=
  ∀ (s : State) (kind tag : Byte) (body : List Byte), CausesWeighed s →
    (s.link.requests.length < 4 → exec (.requestReceived kind tag body) s = .next { s with
      link := { s.link with timer := 0, silent := false, requests := s.link.requests ++ [⟨kind, tag, body⟩] }
      governor := { s.governor with causes := { s.governor.causes with hostSilent := false } } }) ∧
    (4 ≤ s.link.requests.length → s.link.replies.length + (if s.link.taken then 0 else 1) < 8 →
      exec (.requestReceived kind tag body) s = .next { s with
        link := { s.link with
          timer := 0, silent := false
          replies := s.link.replies ++ [⟨⟨if 1 ≤ kind.toNat ∧ kind.toNat ≤ 17 then kind + 0x80 else 0xFF, tag, [2]⟩,
            false⟩]
          sending := match s.link.sending with
            | some x => some x
            | none => ((s.link.replies ++ [(⟨⟨if 1 ≤ kind.toNat ∧ kind.toNat ≤ 17 then kind + 0x80 else 0xFF, tag,
                [2]⟩, false⟩ : Reply)]).head?).map Sending.reply }
        governor := { s.governor with causes := { s.governor.causes with hostSilent := false } } }) ∧
    (4 ≤ s.link.requests.length → 8 ≤ s.link.replies.length + (if s.link.taken then 0 else 1) →
      exec (.requestReceived kind tag body) s = .next { s with
        link := { s.link with
          timer := 0, silent := false, frameErrors := s.link.frameErrors.modify 0 EventCounter.bump }
        governor := { s.governor with causes := { s.governor.causes with hostSilent := false } } })

/-- R173 (log 2, the model's choice): a request's own command on an empty request queue is the request's arrival and
then its taking; behind other requests it is the arrival alone, and waits its turn. -/
def Obligations.RequestsComeInTurn : Prop :=
  ∀ (s : State) (c : Instr) (f : Frame), requestFrame c = some f →
    (s.link.requests = [] → s.link.taken = false → exec c s = exec c (arrived f s) ∧ Waiting (arrived f s) f) ∧
    (s.link.requests ≠ [] → ¬ Waiting s f → exec c s = exec (.requestReceived f.kind f.tag f.body) s)

/-- R176, R156: when the host-silence timer reaches a supervisor timeout of 1 to 60 s, host silence is set and is a
cause of forced hold; with a timeout of 0, and while no geometry set is loaded, it is not set (log 29: the command
asserts that the timer has reached the timeout). -/
def Obligations.HostSilenceIsSet : Prop :=
  (∀ (s : State) (g : Geometry), CausesWeighed s → s.store.geometry = some g → 1 ≤ g.hostTimeout → g.hostTimeout ≤ 60 →
    exec .hostSilenceSet s = .next { s with
      link := { s.link with timer := max s.link.timer (g.hostTimeout * 1000), silent := true }
      governor := s.governor.held { s.governor.causes with hostSilent := true } }) ∧
  (∀ s : State, (∀ g, s.store.geometry = some g → g.hostTimeout = 0) → exec .hostSilenceSet s = .next s)

/-- R174, R173, R39: when the transmitter finishes a frame, a reply sent leaves the reply list, a request's own reply
takes its request out of the queue, and a LAST_PROFILE reply makes the READING buffer LATEST again or FREE; then the
oldest reply, or else the oldest notice, is begun. With nothing being sent a TRANSMIT_COMPLETE changes nothing (log 28,
the model's choice). -/
def Obligations.TransmitCompletes : Prop :=
  (∀ (s : State) (f : Frame), s.link.sending = some (.notice f) → ∃ t, exec .transmitComplete s = .next t ∧
    t.link = Link.next s.link ∧ OnlyPressure s t ∧ t = { s with link := t.link, governor := t.governor }) ∧
  (∀ (s : State) (r : Reply), s.link.sending = some (.reply r) → r.own = false →
    ∃ t, exec .transmitComplete s = .next t ∧
      t.link = Link.next { s.link with replies := s.link.replies.tail } ∧ OnlyPressure s t ∧
      t = { s with link := t.link, governor := t.governor }) ∧
  (∀ (s : State) (r : Reply), s.link.sending = some (.reply r) → r.own = true →
    ∃ t, exec .transmitComplete s = .next t ∧
      t.link = Link.next { s.link with replies := s.link.replies.tail, requests := s.link.requests.tail,
                                       taken := false } ∧
      (r.frame.kind ≠ 0x8B → t.scan = s.scan) ∧
      (r.frame.kind = 0x8B → t.scan = { s.scan with buffers := s.scan.buffers.map fun b =>
        if b.role = .reading then
          { b with role := if s.scan.buffers.any (fun x => x.role == .latest) then .free else .latest }
        else b }) ∧
      OnlyPressure s t ∧ t = { s with scan := t.scan, link := t.link, governor := t.governor }) ∧
  (∀ s : State, s.link.sending = none → exec .transmitComplete s = .next s)

/-- R173, R174, 11.5: a request of a kind outside 0x01 to 0x11 is answered UNKNOWN_KIND (9) with kind 0xFF, and one
whose body is not of the length its kind requires is answered LENGTH (10); nothing else changes. -/
def Obligations.UnknownKindsAndLengths : Prop :=
  (∀ (s : State) (kind tag : Byte) (body : List Byte), Waiting s ⟨kind, tag, body⟩ →
    (kind = 0 ∨ 17 < kind.toNat) →
    exec (.unknownKind kind tag body) s = .next { s with link := s.link.replied ⟨0xFF, tag, [9]⟩ }) ∧
  (∀ (s : State) (c : Instr) (kind tag : Byte) (body : List Byte), requestFrame c = some ⟨kind, tag, body⟩ →
    Waiting s ⟨kind, tag, body⟩ →
    ((∃ n, (kind, n) ∈ [((0x01 : Byte), 0), (0x02, 2), (0x03, 1), (0x04, 0), (0x05, 280), (0x07, 1), (0x08, 0),
        (0x09, 4), (0x0A, 2), (0x0B, 0), (0x0C, 0), (0x0D, 0), (0x0E, 1), (0x0F, 0), (0x10, 1), (0x11, 0)] ∧
        body.length ≠ n) ∨
     kind = 0x06 ∧ (body.length < 6 ∨ ∃ size, ((body.getD 1 0).toNat, size) ∈
        [(0, 3), (1, 4), (2, 8), (3, 2), (4, 2), (5, 7), (6, 10), (7, 9)] ∧
        body.length ≠ 6 + (body.getD 5 0).toNat * size)) →
    exec c s = .next { s with link := s.link.replied ⟨kind + 0x80, tag, [10]⟩ })

/-- R177: an IDENTIFY is answered OK in every line state with the family code, the model code, the firmware level, the
rate code, the largest body length and the sizes of the part; it changes nothing. -/
def Obligations.IdentifyReports : Prop :=
  ∀ (s : State) (tag : Byte), Waiting s ⟨0x01, tag, []⟩ → exec (.identify tag []) s = .next { s with
    link := s.link.replied ⟨0x81, tag, [0, 0x4B, 0x06, (Config.firmwareLevel >>> 8).setWidth 8,
      Config.firmwareLevel.setWidth 8, BitVec.ofNat 8 s.link.rate, 2, 0, 8, 2, 13, 48, 4, 64, 48, 8]⟩ }

/-- R169: a STATUS page 0 to 4 is answered OK with the page as the state stands, and a page above 4 RANGE (3), and
nothing changes; page 1 with the option set then clears every event counter of every block with its flag, and nothing
else. The bytes of the pages are laid out as logs 14, 37 and 38 say. -/
def Obligations.StatusReports : Prop :=
  ∀ (s : State) (tag page option : Byte), Waiting s ⟨0x02, tag, [page, option]⟩ →
    (4 < page.toNat → exec (.status tag [page, option]) s = .next { s with
      link := s.link.replied ⟨0x82, tag, [3]⟩ }) ∧
    (page.toNat ≤ 4 → (page ≠ 1 ∨ option.getLsbD 0 = false) → exec (.status tag [page, option]) s = .next { s with
      link := s.link.replied ⟨0x82, tag, 0 :: s.putStatusPage s.activeBank page.toNat⟩ }) ∧
    (page = 1 → option.getLsbD 0 = true → exec (.status tag [page, option]) s = .next { s with
      line := { s.line with counters := .zero }
      scan := { s.scan with late := ⟨0, false⟩, duplicate := ⟨0, false⟩, phantom := ⟨0, false⟩ }
      moisture := { s.moisture with skipped := ⟨0, false⟩, clamps := s.moisture.clamps.map fun _ => ⟨0, false⟩ }
      panels := { s.panels with
        p1 := { s.panels.p1 with dropped := ⟨0, false⟩ }
        p2 := { s.panels.p2 with dropped := ⟨0, false⟩ } }
      link := Link.replied
        { s.link with frameErrors := s.link.frameErrors.map fun _ => ⟨0, false⟩, dropped := ⟨0, false⟩ }
        ⟨0x82, tag, 0 :: s.counters.flatMap EventCounter.put⟩ })

/-- R24, R39, R146, R150, R179: the requests that read answer with what they read, or NO_DATA (8) or RANGE (3), and
change nothing but that LAST_PROFILE makes the LATEST buffer READING. The bytes of the replies are laid out as logs 14,
31 and 36 say. -/
def Obligations.ReadsChangeNothing : Prop :=
  (∀ (s : State) (tag : Byte), Waiting s ⟨0x08, tag, []⟩ → exec (.bankStatus tag []) s = .next { s with
    link := s.link.replied ⟨0x88, tag, 0 :: (s.putBank .a ++ s.putBank .b ++
      (match s.store.sequence with
        | none => [0, 0, 0, 0, 0]
        | some q => [1] ++ put1 q.bank.code ++ put1 q.kind.code ++ put2 q.next) ++
      [if s.store.geometry.isSome then 1 else 0])⟩ }) ∧
  (∀ (s : State) (tag hi lo : Byte), Waiting s ⟨0x0A, tag, [hi, lo]⟩ →
    exec (.pieceQuery tag [hi, lo]) s = .next { s with
      link := s.link.replied ⟨0x8A, tag, match s.piece? (hi ++ lo) with
        | none => [8]
        | some p => 0 :: p.putQuery s.chain.lug⟩ }) ∧
  (∀ (s : State) (tag : Byte), Waiting s ⟨0x0B, tag, []⟩ →
    ((∀ b ∈ s.scan.buffers, b.role ≠ .latest) → exec (.lastProfile tag []) s = .next { s with
      link := s.link.replied ⟨0x8B, tag, [8]⟩ }) ∧
    (∀ b m, s.scan.buffers.find? (fun x => x.role == .latest) = some b → b.summary = some m →
      exec (.lastProfile tag []) s = .next { s with
        scan := { s.scan with buffers := s.scan.buffers.map fun x =>
          if x.role = .latest then { x with role := .reading } else x }
        link := s.link.replied ⟨0x8B, tag, 0 :: m.put⟩ })) ∧
  (∀ (s : State) (tag page : Byte), Waiting s ⟨0x0E, tag, [page]⟩ → exec (.tallyRead tag [page]) s = .next { s with
    link := s.link.replied ⟨0x8E, tag,
      if 5 < page.toNat then 3 :: (put4 s.tally.period.number ++ put4 s.tally.period.entries)
      else [0, page] ++ put4 s.tally.period.number ++ put4 s.tally.period.entries ++
        s.tally.period.putPage page.toNat⟩ }) ∧
  (∀ (s : State) (tag page : Byte), Waiting s ⟨0x10, tag, [page]⟩ → exec (.snapshotRead tag [page]) s = .next { s with
    link := s.link.replied ⟨0x90, tag,
      match s.tally.snapshot with
      | none => [8]
      | some h =>
        if 5 < page.toNat then [3]
        else [0, page] ++ put4 h.period.number ++ put4 h.period.entries ++ h.period.putPage page.toNat ++
          (if page = 0 then
            put8 h.recovery.bf48 ++ put8 h.recovery.logvol ++ put4 h.recovery.value ++ h.recovery.putFlags
          else [])⟩ })

/-- R164, R4, R22, R45, R156: the LINE_STATE table. A request that is not taken, or that asks for the state it is in,
changes nothing; the moves between STANDBY and RUN change the line state alone; IDLE to STANDBY needs a geometry set,
an active bank, the emergency stop released and no encoder error, arms lock-on, clears the suspect condition and the
held readings; STANDBY to IDLE needs both queues and the schedule empty, and takes a pending activation at once (R181).
-/
def Obligations.LineStateIsJudged : Prop :=
  ∀ (s : State) (tag code : Byte) (frame : Byte → Byte → Frame), CausesWeighed s → Waiting s ⟨0x03, tag, [code]⟩ →
    frame = (fun status state => ⟨0x83, tag, [status, state]⟩) →
    (3 < code.toNat → exec (.lineState tag [code]) s = .next { s with
      link := s.link.replied (frame 3 (BitVec.ofNat 8 s.line.state.code)) }) ∧
    (code = BitVec.ofNat 8 s.line.state.code → exec (.lineState tag [code]) s = .next { s with
      link := s.link.replied (frame 0 code) }) ∧
    ((code = 3 ∧ s.line.state ≠ .halt ∨ s.line.state = .halt ∧ code.toNat < 3 ∨ s.line.state = .idle ∧ code = 2 ∨
        s.line.state = .run ∧ code = 0) → exec (.lineState tag [code]) s = .next { s with
      link := s.link.replied (frame 1 (BitVec.ofNat 8 s.line.state.code)) }) ∧
    (s.line.state = .idle → code = 1 → (s.store.geometry = none ∨ s.activeBank = none) →
      exec (.lineState tag [code]) s = .next { s with link := s.link.replied (frame 6 0) }) ∧
    (s.line.state = .idle → code = 1 → s.store.geometry ≠ none → s.activeBank ≠ none →
      (s.line.estopIn = true ∨ s.chain.encError = true) →
      exec (.lineState tag [code]) s = .next { s with link := s.link.replied (frame 1 0) }) ∧
    (s.line.state = .idle → code = 1 → s.store.geometry ≠ none → s.activeBank ≠ none → s.line.estopIn = false →
      s.chain.encError = false → ∃ t, exec (.lineState tag [code]) s = .next t ∧
        t = { s with
          line := { s.line with state := .standby }
          chain := { s.chain with highest := s.chain.count, goodRun := 0, hold := none, lockOn := true,
                                  suspect := none }
          moisture := { s.moisture with held := s.moisture.held.map fun _ => none
                                        ages := s.moisture.ages.map fun _ => 0 }
          governor := { s.governor with causes := { s.governor.causes with idle := false }
                                        pressure := t.governor.pressure }
          link := Link.replied (if s.chain.suspect.isSome then
              s.link.noticed (.lineEvent .suspectCleared none .standby none s.chain.lug 0) else s.link)
            (frame 0 1) }) ∧
    (s.line.state = .standby → code = 2 → exec (.lineState tag [code]) s = .next { s with
      line := { s.line with state := .run }, link := s.link.replied (frame 0 2) }) ∧
    (s.line.state = .run → code = 1 → exec (.lineState tag [code]) s = .next { s with
      line := { s.line with state := .standby }, link := s.link.replied (frame 0 1) }) ∧
    (s.line.state = .standby → code = 0 →
      (s.chain.pieces ≠ [] ∨ s.logs.queue ≠ [] ∨ s.output.chain ≠ [] ∨ s.output.log ≠ []) →
      exec (.lineState tag [code]) s = .next { s with link := s.link.replied (frame 2 1) }) ∧
    (s.line.state = .standby → code = 0 → s.chain.pieces = [] → s.logs.queue = [] → s.output.chain = [] →
      s.output.log = [] → s.store.pendingBank = none → exec (.lineState tag [code]) s = .next { s with
        line := { s.line with state := .idle }
        chain := { s.chain with lockOn := false, hold := none }
        governor := s.governor.held { s.governor.causes with idle := true }
        link := s.link.replied (frame 0 0) }) ∧
    (∀ x r, s.line.state = .standby → code = 0 → s.chain.pieces = [] → s.logs.queue = [] → s.output.chain = [] →
      s.output.log = [] → s.store.pendingBank = some x → (s.bank x).governor.rows.head? = some r →
      ∃ t, exec (.lineState tag [code]) s = .next t ∧ t.line = { s.line with state := .idle } ∧
        t.chain = { s.chain with lockOn := false, hold := none } ∧ t.activeBank = some x ∧
        t.bank x = { s.bank x with state := .active } ∧
        (∀ y, s.activeBank = some y → y ≠ x → t.bank y = { s.bank y with state := .valid }) ∧
        t.store = { s.store with bankA := t.store.bankA, bankB := t.store.bankB, pendingBank := none } ∧
        t.governor.g = min (max s.governor.g r.gMin) r.gMax ∧ t.governor.phase = s.governor.phase ∧
        t.governor.remaining = min s.governor.remaining
          (match s.governor.phase with | .gap => min (max s.governor.g r.gMin) r.gMax | .fill => r.window) ∧
        t.governor.causes = { s.governor.causes with idle := true, noBank := false } ∧
        (s.governor.causes.any = false → t.governor.permit = false ∧ t.governor.record = []) ∧
        t.link = (s.link.noticed (.bankEvent x s.activeBank s.chain.lug)).replied (frame 0 0) ∧
        t = { s with line := t.line, chain := t.chain, store := t.store, governor := t.governor, link := t.link })

/-- R167: a CLEAR_HALT outside HALT, with the emergency-stop input asserted or with the encoder error condition set is
answered STATE (1) and changes nothing; otherwise the line goes to STANDBY with no halt cause and the fault line off,
and the HALT cause of forced hold clears. The reply carries the line state after the request, the input and the
condition; lock-on, the good-lug run, the suspect condition and the schedule stay. -/
def Obligations.HaltIsCleared : Prop :=
  ∀ (s : State) (tag : Byte), CausesWeighed s → Waiting s ⟨0x0D, tag, []⟩ →
    ((s.line.state ≠ .halt ∨ s.line.estopIn = true ∨ s.chain.encError = true) →
      exec (.clearHalt tag []) s = .next { s with
        link := s.link.replied ⟨0x8D, tag, [1, BitVec.ofNat 8 s.line.state.code, if s.line.estopIn then 1 else 0,
          if s.chain.encError then 1 else 0]⟩ }) ∧
    (s.line.state = .halt → s.line.estopIn = false → s.chain.encError = false →
      exec (.clearHalt tag []) s = .next { s with
        line := { s.line with state := .standby, haltCause := none, faultLine := false }
        governor := { s.governor with causes := { s.governor.causes with halt := false } }
        link := s.link.replied ⟨0x8D, tag, [0, 1, 0, 0]⟩ })

/-- R22: a CLEAR_SUSPECT is answered STATE (1) in HALT, OK with nothing changed when the condition is clear, NOT_SYNCED
(7) while the good-lug run is below the resync count, and otherwise clears the condition with a SUSPECT_CLEARED notice;
every record keeps its mark. -/
def Obligations.SuspectIsCleared : Prop :=
  ∀ (s : State) (g : Geometry) (tag : Byte), Waiting s ⟨0x0C, tag, []⟩ → s.store.geometry = some g →
    (s.line.state = .halt → exec (.clearSuspect tag []) s = .next { s with
      link := s.link.replied ⟨0x8C, tag, [1]⟩ }) ∧
    (s.line.state ≠ .halt → s.chain.suspect = none → exec (.clearSuspect tag []) s = .next { s with
      link := s.link.replied ⟨0x8C, tag, [0]⟩ }) ∧
    (s.line.state ≠ .halt → s.chain.suspect ≠ none → s.chain.goodRun < g.resync →
      exec (.clearSuspect tag []) s = .next { s with link := s.link.replied ⟨0x8C, tag, [7]⟩ }) ∧
    (s.line.state ≠ .halt → s.chain.suspect ≠ none → g.resync ≤ s.chain.goodRun →
      ∃ t, exec (.clearSuspect tag []) s = .next t ∧ t = { s with
        chain := { s.chain with suspect := none }
        governor := { s.governor with pressure := t.governor.pressure }
        link := (s.link.noticed (.lineEvent .suspectCleared none s.line.state none s.chain.lug
          s.chain.goodRun)).replied ⟨0x8C, tag, [0]⟩ })

/-- R170, R25, R141, R124, R92, R73, R45, R162: what a LINE_RESET leaves, in whatever line state: every piece is
finished and counted LOST and every log UNMEASURED, every reservation the pieces held is released, an answer owed is
paid with a LAPSED of reason LOST (log 9 for the port's queue), the schedule is empty with every timed line off, and
the line stands in IDLE with the permit off; the counts, the lug number, the banks, the bins' states, capacities,
counts and drops, the snapshot, the fault counters and the frame errors are kept. The reply carries the numbers of
pieces and logs finished. -/
def Obligations.LineResetLeaves : Prop :=
  ∀ (s : State) (tag : Byte), Waiting s ⟨0x04, tag, []⟩ →
    (∀ q, s.store.sequence = some q → (s.bank q.bank).state = .loading) →
    ∃ t, exec (.lineReset tag []) s = .next t ∧
      t.chain = { s.chain with suspect := none, goodRun := 0, hold := none, lockOn := false, pieces := []
                               finished := s.chain.finished + BitVec.ofNat 64 s.chain.pieces.length } ∧
      t.logs = { s.logs with queue := [], openLog := none } ∧
      t.output.chain = [] ∧ t.output.log = [] ∧ t.output.dark ∧
      t.solver = { queue := [], running := none } ∧ t.panels.answers = [] ∧
      t.moisture = { s.moisture with
        converter := none, held := s.moisture.held.map fun _ => none, ages := s.moisture.ages.map fun _ => 0 } ∧
      t.scan = s.scan ∧ t.line = { s.line with state := .idle, haltCause := none, faultLine := false } ∧
      t.bins.length = s.bins.length ∧
      (∀ (b : Nat) (x : Bin), s.bins[b]? = some x →
        let n := s.chain.pieces.countP fun p => p.dest == some (.bin b)
        t.bins[b]? = some (if n = 0 then x else { x with
          reserved := x.reserved - n, full := decide (x.capacity ≤ x.count + (x.reserved - n)) })) ∧
      (∀ p, s.chain.pieces = [p] → (∀ a ∈ s.panels.answers, a.lug = p.lug) →
        LapsedPaid .lost p.decision p.lug s t) ∧
      (∀ x, (s.panels.port x).present = false ∨ s.panels.answers = [] → t.panels.port x = s.panels.port x) ∧
      t.store.geometry = s.store.geometry ∧ t.store.pendingBank = none ∧ t.store.sequence = none ∧
      t.activeBank = s.activeBank ∧ (s.store.sequence = none → t.store = { s.store with pendingBank := none }) ∧
      t.governor.causes = { idle := true, halt := false, hostSilent := s.link.silent,
                            noBank := s.activeBank.isNone } ∧
      t.governor.permit = false ∧ t.governor.record = [] ∧
      (∀ x r, s.activeBank = some x → (s.bank x).governor.rows.head? = some r →
        t.governor.g = r.gMin ∧ t.governor.phase = .fill ∧ t.governor.remaining = r.window) ∧
      t.tally.snapshot = s.tally.snapshot ∧ t.tally.period.number = s.tally.period.number ∧
      (s.chain.pieces ≠ [] → t.tally.period.pieceOutcomes = s.tally.period.pieceOutcomes.modify 7
        (fun n => min (2 ^ 32 - 1) (n + s.chain.pieces.length))) ∧
      (s.logs.queue ≠ [] → t.tally.period.logOutcomes = s.tally.period.logOutcomes.modify 3
        (fun n => min (2 ^ 32 - 1) (n + s.logs.queue.length))) ∧
      t.link.replies = s.link.replies ++ [⟨⟨0x84, tag, [0, BitVec.ofNat 8 s.chain.pieces.length,
        BitVec.ofNat 8 s.logs.queue.length]⟩, true⟩] ∧
      t.link.requests = s.link.requests ∧ t.link.taken = true ∧ t.link.frameErrors = s.link.frameErrors ∧
      t.pending = s.pending

/-- R178, R76, R176, R12: a GEOMETRY_WRITE is answered STATE (1) outside IDLE and RANGE (3) with the number of the
first item out of range, the set held before standing; otherwise its 70 items become the geometry set, and the panels'
silence timers and the host-silence timer are weighed against the new timeouts. -/
def Obligations.GeometryIsWritten : Prop :=
  ∀ (s : State) (tag : Byte) (body : List Byte) (g : Geometry), body.length = 280 → Waiting s ⟨0x05, tag, body⟩ →
    g = Geometry.ofItems ((List.range 70).map fun i => u32At body (4 * i)) →
    (s.line.state ≠ .idle → exec (.geometryWrite tag body) s = .next { s with
      link := s.link.replied ⟨0x85, tag, [1]⟩ }) ∧
    (∀ i, s.line.state = .idle → i < 70 → g.itemOk i = false → (∀ j, j < i → g.itemOk j = true) →
      exec (.geometryWrite tag body) s = .next { s with
        link := s.link.replied ⟨0x85, tag, [3, BitVec.ofNat 8 i]⟩ }) ∧
    (s.line.state = .idle → (∀ i, i < 70 → g.itemOk i = true) → ∃ t, exec (.geometryWrite tag body) s = .next t ∧
      t.store = { s.store with geometry := some g } ∧
      (∀ p, t.panels.port p = { s.panels.port p with
        present := (s.panels.port p).present && decide ((s.panels.port p).timer < g.panelTimeout * 1000) }) ∧
      t.panels.answers = s.panels.answers ∧
      t.link.silent = (s.link.silent || decide (1 ≤ g.hostTimeout ∧ g.hostTimeout * 1000 ≤ s.link.timer)) ∧
      t.link.replies = s.link.replies ++ [⟨⟨0x85, tag, [0]⟩, true⟩] ∧
      ((∀ p, (s.panels.port p).timer < 1000) → s.link.timer < 1000 →
        t = { s with store := { s.store with geometry := some g }, link := s.link.replied ⟨0x85, tag, [0]⟩ }) ∧
      t = { s with store := t.store, panels := t.panels, link := t.link, governor := t.governor })

/-- R180, R179: the TABLE_WRITE frames that are turned away, in the order of R180's table, change nothing; a frame
taken stores its entries behind those before, opens the sequence when FIRST, and at LAST weighs the kind and closes the
sequence. The reply carries the bank state, whether a sequence is open and its next offset, its bytes as logs 14 and 40
lay them out; the content of the reply to a code that names no bank or kind is left open (log 13). Of the flags byte
bits 0 and 1 are read and the other six are not (log 25). -/
def Obligations.TableWritesAreJudged : Prop :=
  ∀ (s : State) (tag bankCode kindCode flags hi lo count : Byte) (entries : List Byte) (body : List Byte),
    body = [bankCode, kindCode, flags, hi, lo, count] ++ entries → Waiting s ⟨0x06, tag, body⟩ →
    ((1 < bankCode.toNat ∨ 7 < kindCode.toNat) → (7 < kindCode.toNat ∨ Request.tableWrite.lengthOk body = true) →
      ∃ content, exec (.tableWrite tag body) s = .next { s with
        link := s.link.replied ⟨0x86, tag, 3 :: content⟩ }) ∧
    (∀ (x : BankId) (k : TableKind) (offset n : Nat), bankOfCode bankCode.toNat = some x →
      kindOfCode kindCode.toNat = some k → n = count.toNat → offset = hi.toNat * 256 + lo.toNat →
      entries.length = n * k.entrySize →
      (∀ status, ((n = 0 ∨ 128 < n) ∧ status = 3 ∨
          1 ≤ n ∧ n ≤ 128 ∧
            ((flags.getLsbD 0 = true ∧
               (s.store.sequence ≠ none ∧ status = 4 ∨
                s.store.sequence = none ∧
                  (((s.bank x).state = .active ∨ s.store.pendingBank = some x ∨
                      (∃ p ∈ s.chain.pieces, p.bank = x) ∨ (∃ l ∈ s.logs.queue, l.bank = x)) ∧ status = 5 ∨
                   (s.bank x).state ≠ .active ∧ s.store.pendingBank ≠ some x ∧
                     (∀ p ∈ s.chain.pieces, p.bank ≠ x) ∧ (∀ l ∈ s.logs.queue, l.bank ≠ x) ∧
                     (offset ≠ 0 ∧ status = 4 ∨ offset = 0 ∧ k.total < n ∧ status = 3)))) ∨
             (flags.getLsbD 0 = false ∧
               ((∀ q, s.store.sequence = some q → ¬(q.bank = x ∧ q.kind = k ∧ q.next = offset)) ∧ status = 4 ∨
                s.store.sequence = some ⟨x, k, offset⟩ ∧ k.total < offset + n ∧ status = 3)))) →
        exec (.tableWrite tag body) s = .next { s with
          link := s.link.replied ⟨0x86, tag, [status, BitVec.ofNat 8 (s.bank x).state.code,
            if s.store.sequence.isSome then 1 else 0] ++
            put2 (s.store.sequence.elim 0 LoadSequence.next) ++ [0, 0, 0]⟩ }) ∧
      (1 ≤ n → n ≤ 128 → offset + n ≤ k.total →
        (flags.getLsbD 0 = true ∧ offset = 0 ∧ s.store.sequence = none ∧ (s.bank x).state ≠ .active ∧
            s.store.pendingBank ≠ some x ∧ (∀ p ∈ s.chain.pieces, p.bank ≠ x) ∧ (∀ l ∈ s.logs.queue, l.bank ≠ x) ∨
          flags.getLsbD 0 = false ∧ s.store.sequence = some ⟨x, k, offset⟩) →
        ∃ (t : State) (b : Bank), exec (.tableWrite tag body) s = .next t ∧
          b = (if flags.getLsbD 0 then { (s.bank x).clearKind k with state := .loading } else s.bank x).store offset
            (chunks k.entrySize n entries) k ∧
          t = { s with store := t.store, link := t.link } ∧
          t.store.geometry = s.store.geometry ∧ t.store.pendingBank = s.store.pendingBank ∧
          (∀ y, y ≠ x → t.bank y = s.bank y) ∧
          (flags.getLsbD 1 = false → t.bank x = b ∧ t.store.sequence = some ⟨x, k, offset + n⟩ ∧
            t.link = s.link.replied ⟨0x86, tag, [0, BitVec.ofNat 8 b.state.code, 1] ++ put2 (offset + n) ++
              [0, 0, 0]⟩) ∧
          (flags.getLsbD 1 = true →
            t.bank x = { b.setLoaded (b.kindOk k) k with state := (t.bank x).state } ∧
            (t.bank x).state = (t.bank x).closedState ∧ t.store.sequence = none ∧
            t.link = s.link.replied ⟨0x86, tag, [if b.kindOk k then 0 else 3,
              BitVec.ofNat 8 (t.bank x).state.code, 0, 0, 0, 1, if (t.bank x).coverageOk then 1 else 0,
              if (t.bank x).sortCheckOk then 1 else 0]⟩)))

/-- R181, R160, R157: a BANK_ACTIVATE is answered RANGE (3) for a code that names no bank, NOT_VALID (6) for a bank not
VALID and BUSY (2) while another is pending; in IDLE the activation is taken at once: the bank becomes ACTIVE, the
former active bank VALID, G is clamped into the new range, the NO_BANK cause clears and a BANK_EVENT is queued; in any
other line state the bank becomes pending. The byte that says whether it was taken, and that a refusal carries none,
are as log 39 says. -/
def Obligations.BankIsActivated : Prop :=
  ∀ (s : State) (tag code : Byte), Waiting s ⟨0x07, tag, [code]⟩ →
    (1 < code.toNat → exec (.bankActivate tag [code]) s = .next { s with
      link := s.link.replied ⟨0x87, tag, [3]⟩ }) ∧
    (∀ x : BankId, code = BitVec.ofNat 8 x.code →
      ((s.bank x).state ≠ .valid → exec (.bankActivate tag [code]) s = .next { s with
        link := s.link.replied ⟨0x87, tag, [6]⟩ }) ∧
      ((s.bank x).state = .valid → s.store.pendingBank ≠ none → exec (.bankActivate tag [code]) s = .next { s with
        link := s.link.replied ⟨0x87, tag, [2]⟩ }) ∧
      ((s.bank x).state = .valid → s.store.pendingBank = none → s.line.state ≠ .idle →
        exec (.bankActivate tag [code]) s = .next { s with
          store := { s.store with pendingBank := some x }, link := s.link.replied ⟨0x87, tag, [0, 0]⟩ }) ∧
      (∀ r, (s.bank x).state = .valid → s.store.pendingBank = none → s.line.state = .idle →
        (s.bank x).governor.rows.head? = some r →
        ∃ t, exec (.bankActivate tag [code]) s = .next t ∧ t.activeBank = some x ∧
          t.bank x = { s.bank x with state := .active } ∧
          (∀ y, y ≠ x → t.bank y = if (s.bank y).state = .active then { s.bank y with state := .valid }
                                    else s.bank y) ∧
          t.governor.g = min (max s.governor.g r.gMin) r.gMax ∧ t.governor.causes.noBank = false ∧
          t.governor.phase = s.governor.phase ∧
          t.governor.remaining = min s.governor.remaining
            (match s.governor.phase with | .gap => min (max s.governor.g r.gMin) r.gMax | .fill => r.window) ∧
          t.store = { s.store with bankA := t.store.bankA, bankB := t.store.bankB } ∧
          t.link = (s.link.noticed (.bankEvent x s.activeBank s.chain.lug)).replied ⟨0x87, tag, [0, 1]⟩ ∧
          t = { s with store := t.store, governor := t.governor, link := t.link }))

/-- R114, R115, R116, R117, R113: SET_CAPACITY below count + reserved is answered RANGE (3) and otherwise sets the
capacity; OPEN and CLOSE set the bin's state alone; EMPTIED sets its count to 0. A change of the full flag brings a
BIN_EVENT. A bin number above the last is answered RANGE with the number alone, and an action code that names none
RANGE with the record. -/
def Obligations.BinCommandsAct : Prop :=
  ∀ (s : State) (tag bin : Byte) (value : BitVec 16),
    (s.bins.length ≤ bin.toNat → ∀ c action, (c, action) ∈ [(Instr.setCapacity tag bin value, (0 : Byte)),
        (.binOpen tag bin value, 1), (.binClose tag bin value, 2), (.emptied tag bin value, 3),
        (.outOfService tag bin value, 4)] → Waiting s ⟨0x09, tag, [bin, action] ++ bytes16 value⟩ →
      exec c s = .next { s with link := s.link.replied ⟨0x89, tag, [3, bin]⟩ }) ∧
    (∀ x, s.bins[bin.toNat]? = some x →
      (Waiting s ⟨0x09, tag, [bin, 0] ++ bytes16 value⟩ → value.toNat < x.count + x.reserved →
        exec (.setCapacity tag bin value) s = .next { s with
          link := s.link.replied ⟨0x89, tag, [3, bin] ++ x.put⟩ }) ∧
      (∀ y, Waiting s ⟨0x09, tag, [bin, 0] ++ bytes16 value⟩ → x.count + x.reserved ≤ value.toNat →
        y = { x with capacity := value.toNat, full := decide (value.toNat ≤ x.count + x.reserved) } →
        ∃ t, exec (.setCapacity tag bin value) s = .next t ∧ OnlyPressure s t ∧ t = { s with
          bins := s.bins.set bin.toNat y, governor := t.governor
          link := (s.binLink bin.toNat x y .setCapacity).replied ⟨0x89, tag, [0, bin] ++ y.put⟩ }) ∧
      (Waiting s ⟨0x09, tag, [bin, 1] ++ bytes16 value⟩ →
        exec (.binOpen tag bin value) s = .next { s with
          bins := s.bins.set bin.toNat { x with state := .opened }
          link := s.link.replied ⟨0x89, tag, [0, bin] ++ Bin.put { x with state := .opened }⟩ }) ∧
      (Waiting s ⟨0x09, tag, [bin, 2] ++ bytes16 value⟩ →
        exec (.binClose tag bin value) s = .next { s with
          bins := s.bins.set bin.toNat { x with state := .closed }
          link := s.link.replied ⟨0x89, tag, [0, bin] ++ Bin.put { x with state := .closed }⟩ }) ∧
      (∀ y, Waiting s ⟨0x09, tag, [bin, 3] ++ bytes16 value⟩ →
        y = { x with count := 0, full := decide (x.capacity ≤ x.reserved) } →
        ∃ t, exec (.emptied tag bin value) s = .next t ∧ OnlyPressure s t ∧ t = { s with
          bins := s.bins.set bin.toNat y, governor := t.governor
          link := (s.binLink bin.toNat x y .emptied).replied ⟨0x89, tag, [0, bin] ++ y.put⟩ }) ∧
      (∀ action, Waiting s ⟨0x09, tag, [bin, action] ++ bytes16 value⟩ → 4 < action.toNat →
        exec (.binCommand tag ([bin, action] ++ bytes16 value)) s = .next { s with
          link := s.link.replied ⟨0x89, tag, [3, bin] ++ x.put⟩ }))

/-- R118, R113: OUT_OF_SERVICE reroutes every piece bound for the bin to the run-out with outcome RUN_OUT, gives up its
reservation and its WAITING gate entry, then takes the bin out of service and weighs its full flag once. The premise
that no two records share a lug number is R16's. -/
def Obligations.BinGoesOutOfService : Prop :=
  ∀ (s : State) (tag bin : Byte) (value : BitVec 16) (x y : Bin) (bound : List LugNo),
    Waiting s ⟨0x09, tag, [bin, 4] ++ bytes16 value⟩ → s.bins[bin.toNat]? = some x →
    (s.chain.pieces.map Piece.lug).Nodup →
    bound = (s.chain.pieces.filter fun p => p.dest == some (.bin bin.toNat)).map Piece.lug →
    y = { x with
      state := .outOfService, reserved := x.reserved - bound.length
      full := decide (x.capacity ≤ x.count + (x.reserved - bound.length)) } →
    ∃ t, exec (.outOfService tag bin value) s = .next t ∧ OnlyPressure s t ∧
      t.chain = { s.chain with
        pieces := s.chain.pieces.map (fun p =>
          if p.dest = some (.bin bin.toNat) then { p with dest := some .runOut, outcome := some .runOut } else p) } ∧
      t.bins = s.bins.set bin.toNat y ∧
      t.output.chain = s.output.chain.filter (fun e => e.on || !bound.contains e.owner || e.kind != .gate) ∧
      t.output.log = s.output.log ∧
      t.link = (s.binLink bin.toNat x y .outOfService).replied ⟨0x89, tag, [0, bin] ++ y.put⟩ ∧
      t = { s with chain := t.chain, bins := t.bins, output := t.output, link := t.link, governor := t.governor }

/-- R147, R148, R149, R151: a TALLY_CLOSE with a snapshot HELD is answered BUSY (2) with its period number, and nothing
changes; otherwise the period is copied whole into the snapshot with its recovery, the next period opens at zero,
numbered one higher, and a TALLY_CLOSED is queued. A SNAPSHOT_RELEASE frees the snapshot HELD, with OK and its period
number; with none held it is refused with NO_DATA (8) and nothing changes. -/
def Obligations.SnapshotIsMadeAndReleased : Prop :=
  (∀ (s : State) (tag : Byte), Waiting s ⟨0x0F, tag, []⟩ →
     (∀ h, s.tally.snapshot = some h → exec (.tallyClose tag []) s = .next { s with
       link := s.link.replied ⟨0x8F, tag, 2 :: put4 h.period.number⟩ }) ∧
     (∀ (p : Period) (out vol exact next : Nat) (r : Recovery), s.tally = ⟨p, none⟩ →
       out = (p.cells.map TallyCell.bf48).sum → vol = (p.logCells.map LogCell.acceptedVol).sum →
       exact = (if vol = 0 then 0 else (out * 1000000 + 48 * vol / 2) / (48 * vol)) →
       r = ⟨out, vol, min exact (2 ^ 32 - 1), vol = 0, 2 ^ 32 - 1 < exact, p.saturated⟩ →
       next = (if p.number = 2 ^ 32 - 1 then 1 else p.number + 1) →
       ∃ t, exec (.tallyClose tag []) s = .next t ∧ OnlyPressure s t ∧ t = { s with
         tally := { snapshot := some ⟨p, r⟩
                    period := { number := next, entries := 0, cells := List.replicate 96 ⟨0, 0⟩
                                pieceOutcomes := List.replicate 8 0, binDrops := List.replicate 48 0
                                logCells := List.replicate 37 ⟨0, 0, 0, 0⟩, logOutcomes := List.replicate 5 0
                                saturated := false } }
         governor := t.governor
         link := (s.link.noticed (.tallyClosed p.number next p.entries r)).replied ⟨0x8F, tag,
           0 :: (put4 p.number ++ put4 next ++ put4 p.entries ++ put4 r.value ++ r.putFlags)⟩ })) ∧
  (∀ (s : State) (tag : Byte), Waiting s ⟨0x11, tag, []⟩ →
     (∀ h, s.tally.snapshot = some h → exec (.snapshotRelease tag []) s = .next { s with
       tally := { s.tally with snapshot := none }
       link := s.link.replied ⟨0x91, tag, 0 :: put4 h.period.number⟩ }) ∧
     (s.tally.snapshot = none → exec (.snapshotRelease tag []) s = .next { s with
       link := s.link.replied ⟨0x91, tag, [8]⟩ }))
end

