-- ==== Sys2Proof/Laws/State.lean ====
section
/-! SUPPORT. What each change of one block of State leaves of every block: one lemma per field per update. -/

namespace Sys2Proof.Machine

/-! ### The chain block changed -/

section

variable (s : State) (f : Chain → Chain)

@[simp] theorem State.onChain_chain : (s.onChain f).chain = f s.chain := rfl
@[simp] theorem State.onChain_scan : (s.onChain f).scan = s.scan := rfl
@[simp] theorem State.onChain_moisture : (s.onChain f).moisture = s.moisture := rfl
@[simp] theorem State.onChain_solver : (s.onChain f).solver = s.solver := rfl
@[simp] theorem State.onChain_panels : (s.onChain f).panels = s.panels := rfl
@[simp] theorem State.onChain_output : (s.onChain f).output = s.output := rfl
@[simp] theorem State.onChain_bins : (s.onChain f).bins = s.bins := rfl
@[simp] theorem State.onChain_logs : (s.onChain f).logs = s.logs := rfl
@[simp] theorem State.onChain_tally : (s.onChain f).tally = s.tally := rfl
@[simp] theorem State.onChain_governor : (s.onChain f).governor = s.governor := rfl
@[simp] theorem State.onChain_line : (s.onChain f).line = s.line := rfl
@[simp] theorem State.onChain_link : (s.onChain f).link = s.link := rfl
@[simp] theorem State.onChain_store : (s.onChain f).store = s.store := rfl
@[simp] theorem State.onChain_pending : (s.onChain f).pending = s.pending := rfl

end

/-! ### The scan block changed -/

section

variable (s : State) (f : Scan → Scan)

@[simp] theorem State.onScan_chain : (s.onScan f).chain = s.chain := rfl
@[simp] theorem State.onScan_scan : (s.onScan f).scan = f s.scan := rfl
@[simp] theorem State.onScan_moisture : (s.onScan f).moisture = s.moisture := rfl
@[simp] theorem State.onScan_solver : (s.onScan f).solver = s.solver := rfl
@[simp] theorem State.onScan_panels : (s.onScan f).panels = s.panels := rfl
@[simp] theorem State.onScan_output : (s.onScan f).output = s.output := rfl
@[simp] theorem State.onScan_bins : (s.onScan f).bins = s.bins := rfl
@[simp] theorem State.onScan_logs : (s.onScan f).logs = s.logs := rfl
@[simp] theorem State.onScan_tally : (s.onScan f).tally = s.tally := rfl
@[simp] theorem State.onScan_governor : (s.onScan f).governor = s.governor := rfl
@[simp] theorem State.onScan_line : (s.onScan f).line = s.line := rfl
@[simp] theorem State.onScan_link : (s.onScan f).link = s.link := rfl
@[simp] theorem State.onScan_store : (s.onScan f).store = s.store := rfl
@[simp] theorem State.onScan_pending : (s.onScan f).pending = s.pending := rfl

end

/-! ### The moisture block changed -/

section

variable (s : State) (f : Moisture → Moisture)

@[simp] theorem State.onMoisture_chain : (s.onMoisture f).chain = s.chain := rfl
@[simp] theorem State.onMoisture_scan : (s.onMoisture f).scan = s.scan := rfl
@[simp] theorem State.onMoisture_moisture : (s.onMoisture f).moisture = f s.moisture := rfl
@[simp] theorem State.onMoisture_solver : (s.onMoisture f).solver = s.solver := rfl
@[simp] theorem State.onMoisture_panels : (s.onMoisture f).panels = s.panels := rfl
@[simp] theorem State.onMoisture_output : (s.onMoisture f).output = s.output := rfl
@[simp] theorem State.onMoisture_bins : (s.onMoisture f).bins = s.bins := rfl
@[simp] theorem State.onMoisture_logs : (s.onMoisture f).logs = s.logs := rfl
@[simp] theorem State.onMoisture_tally : (s.onMoisture f).tally = s.tally := rfl
@[simp] theorem State.onMoisture_governor : (s.onMoisture f).governor = s.governor := rfl
@[simp] theorem State.onMoisture_line : (s.onMoisture f).line = s.line := rfl
@[simp] theorem State.onMoisture_link : (s.onMoisture f).link = s.link := rfl
@[simp] theorem State.onMoisture_store : (s.onMoisture f).store = s.store := rfl
@[simp] theorem State.onMoisture_pending : (s.onMoisture f).pending = s.pending := rfl

end

/-! ### The solver block changed -/

section

variable (s : State) (f : Solver → Solver)

@[simp] theorem State.onSolver_chain : (s.onSolver f).chain = s.chain := rfl
@[simp] theorem State.onSolver_scan : (s.onSolver f).scan = s.scan := rfl
@[simp] theorem State.onSolver_moisture : (s.onSolver f).moisture = s.moisture := rfl
@[simp] theorem State.onSolver_solver : (s.onSolver f).solver = f s.solver := rfl
@[simp] theorem State.onSolver_panels : (s.onSolver f).panels = s.panels := rfl
@[simp] theorem State.onSolver_output : (s.onSolver f).output = s.output := rfl
@[simp] theorem State.onSolver_bins : (s.onSolver f).bins = s.bins := rfl
@[simp] theorem State.onSolver_logs : (s.onSolver f).logs = s.logs := rfl
@[simp] theorem State.onSolver_tally : (s.onSolver f).tally = s.tally := rfl
@[simp] theorem State.onSolver_governor : (s.onSolver f).governor = s.governor := rfl
@[simp] theorem State.onSolver_line : (s.onSolver f).line = s.line := rfl
@[simp] theorem State.onSolver_link : (s.onSolver f).link = s.link := rfl
@[simp] theorem State.onSolver_store : (s.onSolver f).store = s.store := rfl
@[simp] theorem State.onSolver_pending : (s.onSolver f).pending = s.pending := rfl

end

/-! ### The panels block changed -/

section

variable (s : State) (f : Panels → Panels)

@[simp] theorem State.onPanels_chain : (s.onPanels f).chain = s.chain := rfl
@[simp] theorem State.onPanels_scan : (s.onPanels f).scan = s.scan := rfl
@[simp] theorem State.onPanels_moisture : (s.onPanels f).moisture = s.moisture := rfl
@[simp] theorem State.onPanels_solver : (s.onPanels f).solver = s.solver := rfl
@[simp] theorem State.onPanels_panels : (s.onPanels f).panels = f s.panels := rfl
@[simp] theorem State.onPanels_output : (s.onPanels f).output = s.output := rfl
@[simp] theorem State.onPanels_bins : (s.onPanels f).bins = s.bins := rfl
@[simp] theorem State.onPanels_logs : (s.onPanels f).logs = s.logs := rfl
@[simp] theorem State.onPanels_tally : (s.onPanels f).tally = s.tally := rfl
@[simp] theorem State.onPanels_governor : (s.onPanels f).governor = s.governor := rfl
@[simp] theorem State.onPanels_line : (s.onPanels f).line = s.line := rfl
@[simp] theorem State.onPanels_link : (s.onPanels f).link = s.link := rfl
@[simp] theorem State.onPanels_store : (s.onPanels f).store = s.store := rfl
@[simp] theorem State.onPanels_pending : (s.onPanels f).pending = s.pending := rfl

end

/-! ### The output block changed -/

section

variable (s : State) (f : Output → Output)

@[simp] theorem State.onOutput_chain : (s.onOutput f).chain = s.chain := rfl
@[simp] theorem State.onOutput_scan : (s.onOutput f).scan = s.scan := rfl
@[simp] theorem State.onOutput_moisture : (s.onOutput f).moisture = s.moisture := rfl
@[simp] theorem State.onOutput_solver : (s.onOutput f).solver = s.solver := rfl
@[simp] theorem State.onOutput_panels : (s.onOutput f).panels = s.panels := rfl
@[simp] theorem State.onOutput_output : (s.onOutput f).output = f s.output := rfl
@[simp] theorem State.onOutput_bins : (s.onOutput f).bins = s.bins := rfl
@[simp] theorem State.onOutput_logs : (s.onOutput f).logs = s.logs := rfl
@[simp] theorem State.onOutput_tally : (s.onOutput f).tally = s.tally := rfl
@[simp] theorem State.onOutput_governor : (s.onOutput f).governor = s.governor := rfl
@[simp] theorem State.onOutput_line : (s.onOutput f).line = s.line := rfl
@[simp] theorem State.onOutput_link : (s.onOutput f).link = s.link := rfl
@[simp] theorem State.onOutput_store : (s.onOutput f).store = s.store := rfl
@[simp] theorem State.onOutput_pending : (s.onOutput f).pending = s.pending := rfl

end

/-! ### The bins block changed -/

section

variable (s : State) (f : List Bin → List Bin)

@[simp] theorem State.onBins_chain : (s.onBins f).chain = s.chain := rfl
@[simp] theorem State.onBins_scan : (s.onBins f).scan = s.scan := rfl
@[simp] theorem State.onBins_moisture : (s.onBins f).moisture = s.moisture := rfl
@[simp] theorem State.onBins_solver : (s.onBins f).solver = s.solver := rfl
@[simp] theorem State.onBins_panels : (s.onBins f).panels = s.panels := rfl
@[simp] theorem State.onBins_output : (s.onBins f).output = s.output := rfl
@[simp] theorem State.onBins_bins : (s.onBins f).bins = f s.bins := rfl
@[simp] theorem State.onBins_logs : (s.onBins f).logs = s.logs := rfl
@[simp] theorem State.onBins_tally : (s.onBins f).tally = s.tally := rfl
@[simp] theorem State.onBins_governor : (s.onBins f).governor = s.governor := rfl
@[simp] theorem State.onBins_line : (s.onBins f).line = s.line := rfl
@[simp] theorem State.onBins_link : (s.onBins f).link = s.link := rfl
@[simp] theorem State.onBins_store : (s.onBins f).store = s.store := rfl
@[simp] theorem State.onBins_pending : (s.onBins f).pending = s.pending := rfl

end

/-! ### The logs block changed -/

section

variable (s : State) (f : Logs → Logs)

@[simp] theorem State.onLogs_chain : (s.onLogs f).chain = s.chain := rfl
@[simp] theorem State.onLogs_scan : (s.onLogs f).scan = s.scan := rfl
@[simp] theorem State.onLogs_moisture : (s.onLogs f).moisture = s.moisture := rfl
@[simp] theorem State.onLogs_solver : (s.onLogs f).solver = s.solver := rfl
@[simp] theorem State.onLogs_panels : (s.onLogs f).panels = s.panels := rfl
@[simp] theorem State.onLogs_output : (s.onLogs f).output = s.output := rfl
@[simp] theorem State.onLogs_bins : (s.onLogs f).bins = s.bins := rfl
@[simp] theorem State.onLogs_logs : (s.onLogs f).logs = f s.logs := rfl
@[simp] theorem State.onLogs_tally : (s.onLogs f).tally = s.tally := rfl
@[simp] theorem State.onLogs_governor : (s.onLogs f).governor = s.governor := rfl
@[simp] theorem State.onLogs_line : (s.onLogs f).line = s.line := rfl
@[simp] theorem State.onLogs_link : (s.onLogs f).link = s.link := rfl
@[simp] theorem State.onLogs_store : (s.onLogs f).store = s.store := rfl
@[simp] theorem State.onLogs_pending : (s.onLogs f).pending = s.pending := rfl

end

/-! ### The tally block changed -/

section

variable (s : State) (f : Tally → Tally)

@[simp] theorem State.onTally_chain : (s.onTally f).chain = s.chain := rfl
@[simp] theorem State.onTally_scan : (s.onTally f).scan = s.scan := rfl
@[simp] theorem State.onTally_moisture : (s.onTally f).moisture = s.moisture := rfl
@[simp] theorem State.onTally_solver : (s.onTally f).solver = s.solver := rfl
@[simp] theorem State.onTally_panels : (s.onTally f).panels = s.panels := rfl
@[simp] theorem State.onTally_output : (s.onTally f).output = s.output := rfl
@[simp] theorem State.onTally_bins : (s.onTally f).bins = s.bins := rfl
@[simp] theorem State.onTally_logs : (s.onTally f).logs = s.logs := rfl
@[simp] theorem State.onTally_tally : (s.onTally f).tally = f s.tally := rfl
@[simp] theorem State.onTally_governor : (s.onTally f).governor = s.governor := rfl
@[simp] theorem State.onTally_line : (s.onTally f).line = s.line := rfl
@[simp] theorem State.onTally_link : (s.onTally f).link = s.link := rfl
@[simp] theorem State.onTally_store : (s.onTally f).store = s.store := rfl
@[simp] theorem State.onTally_pending : (s.onTally f).pending = s.pending := rfl

end

/-! ### The governor block changed -/

section

variable (s : State) (f : Governor → Governor)

@[simp] theorem State.onGovernor_chain : (s.onGovernor f).chain = s.chain := rfl
@[simp] theorem State.onGovernor_scan : (s.onGovernor f).scan = s.scan := rfl
@[simp] theorem State.onGovernor_moisture : (s.onGovernor f).moisture = s.moisture := rfl
@[simp] theorem State.onGovernor_solver : (s.onGovernor f).solver = s.solver := rfl
@[simp] theorem State.onGovernor_panels : (s.onGovernor f).panels = s.panels := rfl
@[simp] theorem State.onGovernor_output : (s.onGovernor f).output = s.output := rfl
@[simp] theorem State.onGovernor_bins : (s.onGovernor f).bins = s.bins := rfl
@[simp] theorem State.onGovernor_logs : (s.onGovernor f).logs = s.logs := rfl
@[simp] theorem State.onGovernor_tally : (s.onGovernor f).tally = s.tally := rfl
@[simp] theorem State.onGovernor_governor : (s.onGovernor f).governor = f s.governor := rfl
@[simp] theorem State.onGovernor_line : (s.onGovernor f).line = s.line := rfl
@[simp] theorem State.onGovernor_link : (s.onGovernor f).link = s.link := rfl
@[simp] theorem State.onGovernor_store : (s.onGovernor f).store = s.store := rfl
@[simp] theorem State.onGovernor_pending : (s.onGovernor f).pending = s.pending := rfl

end

/-! ### The line block changed -/

section

variable (s : State) (f : Line → Line)

@[simp] theorem State.onLine_chain : (s.onLine f).chain = s.chain := rfl
@[simp] theorem State.onLine_scan : (s.onLine f).scan = s.scan := rfl
@[simp] theorem State.onLine_moisture : (s.onLine f).moisture = s.moisture := rfl
@[simp] theorem State.onLine_solver : (s.onLine f).solver = s.solver := rfl
@[simp] theorem State.onLine_panels : (s.onLine f).panels = s.panels := rfl
@[simp] theorem State.onLine_output : (s.onLine f).output = s.output := rfl
@[simp] theorem State.onLine_bins : (s.onLine f).bins = s.bins := rfl
@[simp] theorem State.onLine_logs : (s.onLine f).logs = s.logs := rfl
@[simp] theorem State.onLine_tally : (s.onLine f).tally = s.tally := rfl
@[simp] theorem State.onLine_governor : (s.onLine f).governor = s.governor := rfl
@[simp] theorem State.onLine_line : (s.onLine f).line = f s.line := rfl
@[simp] theorem State.onLine_link : (s.onLine f).link = s.link := rfl
@[simp] theorem State.onLine_store : (s.onLine f).store = s.store := rfl
@[simp] theorem State.onLine_pending : (s.onLine f).pending = s.pending := rfl

end

/-! ### The link block changed -/

section

variable (s : State) (f : Link → Link)

@[simp] theorem State.onLink_chain : (s.onLink f).chain = s.chain := rfl
@[simp] theorem State.onLink_scan : (s.onLink f).scan = s.scan := rfl
@[simp] theorem State.onLink_moisture : (s.onLink f).moisture = s.moisture := rfl
@[simp] theorem State.onLink_solver : (s.onLink f).solver = s.solver := rfl
@[simp] theorem State.onLink_panels : (s.onLink f).panels = s.panels := rfl
@[simp] theorem State.onLink_output : (s.onLink f).output = s.output := rfl
@[simp] theorem State.onLink_bins : (s.onLink f).bins = s.bins := rfl
@[simp] theorem State.onLink_logs : (s.onLink f).logs = s.logs := rfl
@[simp] theorem State.onLink_tally : (s.onLink f).tally = s.tally := rfl
@[simp] theorem State.onLink_governor : (s.onLink f).governor = s.governor := rfl
@[simp] theorem State.onLink_line : (s.onLink f).line = s.line := rfl
@[simp] theorem State.onLink_link : (s.onLink f).link = f s.link := rfl
@[simp] theorem State.onLink_store : (s.onLink f).store = s.store := rfl
@[simp] theorem State.onLink_pending : (s.onLink f).pending = s.pending := rfl

end

/-! ### The store block changed -/

section

variable (s : State) (f : Store → Store)

@[simp] theorem State.onStore_chain : (s.onStore f).chain = s.chain := rfl
@[simp] theorem State.onStore_scan : (s.onStore f).scan = s.scan := rfl
@[simp] theorem State.onStore_moisture : (s.onStore f).moisture = s.moisture := rfl
@[simp] theorem State.onStore_solver : (s.onStore f).solver = s.solver := rfl
@[simp] theorem State.onStore_panels : (s.onStore f).panels = s.panels := rfl
@[simp] theorem State.onStore_output : (s.onStore f).output = s.output := rfl
@[simp] theorem State.onStore_bins : (s.onStore f).bins = s.bins := rfl
@[simp] theorem State.onStore_logs : (s.onStore f).logs = s.logs := rfl
@[simp] theorem State.onStore_tally : (s.onStore f).tally = s.tally := rfl
@[simp] theorem State.onStore_governor : (s.onStore f).governor = s.governor := rfl
@[simp] theorem State.onStore_line : (s.onStore f).line = s.line := rfl
@[simp] theorem State.onStore_link : (s.onStore f).link = s.link := rfl
@[simp] theorem State.onStore_store : (s.onStore f).store = f s.store := rfl
@[simp] theorem State.onStore_pending : (s.onStore f).pending = s.pending := rfl

end

end Sys2Proof.Machine
end

