-- ==== Sys2Proof/Laws/Shared.lean ====
section
/-! SUPPORT. Frames: what each operation of the shared operations (Ops) leaves unchanged. -/

namespace Sys2Proof.Machine

/-- A view of the state that each step of a fold keeps is kept by the fold. -/
theorem foldl_keeps {α β γ : Type} (P : γ → β) (f : γ → α → γ) (h : ∀ t a, P (f t a) = P t) (l : List α) (s : γ) :
    P (l.foldl f s) = P s := by
  induction l generalizing s with
  | nil => rfl
  | cons a l ih => rw [List.foldl_cons, ih, h]

variable (s : State)

@[simp] theorem countFault_frame (x : LineFault) :
    (countFault x s).chain = s.chain ∧ (countFault x s).scan = s.scan ∧
    (countFault x s).moisture = s.moisture ∧ (countFault x s).solver = s.solver ∧
    (countFault x s).panels = s.panels ∧ (countFault x s).output = s.output ∧ (countFault x s).bins = s.bins ∧
    (countFault x s).logs = s.logs ∧ (countFault x s).tally = s.tally ∧
    (countFault x s).governor = s.governor ∧ (countFault x s).link = s.link ∧
    (countFault x s).store = s.store ∧ (countFault x s).pending = s.pending := by
  simp [countFault]

@[simp] theorem countFrameError_frame (p : Port) :
    (countFrameError p s).chain = s.chain ∧ (countFrameError p s).scan = s.scan ∧
    (countFrameError p s).moisture = s.moisture ∧ (countFrameError p s).solver = s.solver ∧
    (countFrameError p s).panels = s.panels ∧ (countFrameError p s).output = s.output ∧
    (countFrameError p s).bins = s.bins ∧ (countFrameError p s).logs = s.logs ∧
    (countFrameError p s).tally = s.tally ∧ (countFrameError p s).governor = s.governor ∧
    (countFrameError p s).line = s.line ∧ (countFrameError p s).store = s.store ∧
    (countFrameError p s).pending = s.pending := by
  simp [countFrameError]

@[simp] theorem weighHold_frame :
    (weighHold s).chain = s.chain ∧ (weighHold s).scan = s.scan ∧ (weighHold s).moisture = s.moisture ∧
    (weighHold s).solver = s.solver ∧ (weighHold s).panels = s.panels ∧ (weighHold s).output = s.output ∧
    (weighHold s).bins = s.bins ∧ (weighHold s).logs = s.logs ∧ (weighHold s).tally = s.tally ∧
    (weighHold s).line = s.line ∧ (weighHold s).link = s.link ∧ (weighHold s).store = s.store ∧
    (weighHold s).pending = s.pending := by
  unfold weighHold; dsimp only; split <;> simp

@[simp] theorem weighPressure_frame (n : Nat) :
    (weighPressure n s).chain = s.chain ∧ (weighPressure n s).scan = s.scan ∧
    (weighPressure n s).moisture = s.moisture ∧ (weighPressure n s).solver = s.solver ∧
    (weighPressure n s).panels = s.panels ∧ (weighPressure n s).output = s.output ∧
    (weighPressure n s).bins = s.bins ∧ (weighPressure n s).logs = s.logs ∧
    (weighPressure n s).tally = s.tally ∧ (weighPressure n s).line = s.line ∧
    (weighPressure n s).link = s.link ∧ (weighPressure n s).store = s.store ∧
    (weighPressure n s).pending = s.pending := by
  unfold weighPressure; repeat' split
  all_goals simp

@[simp] theorem arbitrate_frame :
    (arbitrate s).chain = s.chain ∧ (arbitrate s).scan = s.scan ∧ (arbitrate s).moisture = s.moisture ∧
    (arbitrate s).solver = s.solver ∧ (arbitrate s).panels = s.panels ∧ (arbitrate s).output = s.output ∧
    (arbitrate s).bins = s.bins ∧ (arbitrate s).logs = s.logs ∧ (arbitrate s).tally = s.tally ∧
    (arbitrate s).line = s.line ∧ (arbitrate s).store = s.store ∧ (arbitrate s).pending = s.pending := by
  unfold arbitrate; repeat' split
  all_goals simp

@[simp] theorem queueNotice_frame (n : Notice) :
    (queueNotice n s).chain = s.chain ∧ (queueNotice n s).scan = s.scan ∧
    (queueNotice n s).moisture = s.moisture ∧ (queueNotice n s).solver = s.solver ∧
    (queueNotice n s).panels = s.panels ∧ (queueNotice n s).output = s.output ∧
    (queueNotice n s).bins = s.bins ∧ (queueNotice n s).logs = s.logs ∧ (queueNotice n s).tally = s.tally ∧
    (queueNotice n s).line = s.line ∧ (queueNotice n s).store = s.store ∧ (queueNotice n s).pending = s.pending := by
  unfold queueNotice; split <;> simp

@[simp] theorem lineEvent_frame (k : LineEventKind) (c : Option EventCause) (l : Option LineState) :
    (lineEvent k c l s).chain = s.chain ∧ (lineEvent k c l s).scan = s.scan ∧
    (lineEvent k c l s).moisture = s.moisture ∧ (lineEvent k c l s).solver = s.solver ∧
    (lineEvent k c l s).panels = s.panels ∧ (lineEvent k c l s).output = s.output ∧
    (lineEvent k c l s).bins = s.bins ∧ (lineEvent k c l s).logs = s.logs ∧
    (lineEvent k c l s).tally = s.tally ∧ (lineEvent k c l s).line = s.line ∧
    (lineEvent k c l s).store = s.store ∧ (lineEvent k c l s).pending = s.pending := by
  simp [lineEvent]

@[simp] theorem makeReply_frame (r : Reply) :
    (makeReply r s).chain = s.chain ∧ (makeReply r s).scan = s.scan ∧ (makeReply r s).moisture = s.moisture ∧
    (makeReply r s).solver = s.solver ∧ (makeReply r s).panels = s.panels ∧ (makeReply r s).output = s.output ∧
    (makeReply r s).bins = s.bins ∧ (makeReply r s).logs = s.logs ∧ (makeReply r s).tally = s.tally ∧
    (makeReply r s).line = s.line ∧ (makeReply r s).store = s.store ∧ (makeReply r s).pending = s.pending := by
  simp [makeReply]

@[simp] theorem onPort_frame (p : PanelId) (f : PanelPort → PanelPort) :
    (onPort p f s).chain = s.chain ∧ (onPort p f s).scan = s.scan ∧ (onPort p f s).moisture = s.moisture ∧
    (onPort p f s).solver = s.solver ∧ (onPort p f s).output = s.output ∧ (onPort p f s).bins = s.bins ∧
    (onPort p f s).logs = s.logs ∧ (onPort p f s).tally = s.tally ∧ (onPort p f s).governor = s.governor ∧
    (onPort p f s).line = s.line ∧ (onPort p f s).link = s.link ∧ (onPort p f s).store = s.store ∧
    (onPort p f s).pending = s.pending := by
  simp [onPort]

@[simp] theorem answerPanel_frame (p : PanelId) (k tag : Byte) (b : List Byte) :
    (answerPanel p k tag b s).chain = s.chain ∧ (answerPanel p k tag b s).scan = s.scan ∧
    (answerPanel p k tag b s).moisture = s.moisture ∧ (answerPanel p k tag b s).solver = s.solver ∧
    (answerPanel p k tag b s).output = s.output ∧ (answerPanel p k tag b s).bins = s.bins ∧
    (answerPanel p k tag b s).logs = s.logs ∧ (answerPanel p k tag b s).tally = s.tally ∧
    (answerPanel p k tag b s).governor = s.governor ∧ (answerPanel p k tag b s).line = s.line ∧
    (answerPanel p k tag b s).link = s.link ∧ (answerPanel p k tag b s).store = s.store ∧
    (answerPanel p k tag b s).pending = s.pending := by
  simp [answerPanel]

@[simp] theorem tellPanel_frame (p : PanelId) (k : Byte) (b : List Byte) :
    (tellPanel p k b s).chain = s.chain ∧ (tellPanel p k b s).scan = s.scan ∧
    (tellPanel p k b s).moisture = s.moisture ∧ (tellPanel p k b s).solver = s.solver ∧
    (tellPanel p k b s).output = s.output ∧ (tellPanel p k b s).bins = s.bins ∧
    (tellPanel p k b s).logs = s.logs ∧ (tellPanel p k b s).tally = s.tally ∧
    (tellPanel p k b s).governor = s.governor ∧ (tellPanel p k b s).line = s.line ∧
    (tellPanel p k b s).link = s.link ∧ (tellPanel p k b s).store = s.store ∧
    (tellPanel p k b s).pending = s.pending := by
  simp [tellPanel]

@[simp] theorem weighEntries_frame (e : EncoderId) :
    (weighEntries e s).chain = s.chain ∧ (weighEntries e s).scan = s.scan ∧
    (weighEntries e s).moisture = s.moisture ∧ (weighEntries e s).solver = s.solver ∧
    (weighEntries e s).panels = s.panels ∧ (weighEntries e s).bins = s.bins ∧
    (weighEntries e s).logs = s.logs ∧ (weighEntries e s).tally = s.tally ∧
    (weighEntries e s).governor = s.governor ∧ (weighEntries e s).line = s.line ∧
    (weighEntries e s).link = s.link ∧ (weighEntries e s).store = s.store ∧
    (weighEntries e s).pending = s.pending := by
  simp [weighEntries]

/-- A request that is taken changes the schedule alone (R103). -/
theorem addEntries_frame {s t : State} {e : EncoderId} {es : List Entry} (h : addEntries e es s = some t) :
    t.chain = s.chain ∧ t.scan = s.scan ∧ t.moisture = s.moisture ∧ t.solver = s.solver ∧ t.panels = s.panels ∧
    t.bins = s.bins ∧ t.logs = s.logs ∧ t.tally = s.tally ∧ t.governor = s.governor ∧ t.line = s.line ∧
    t.link = s.link ∧ t.store = s.store ∧ t.pending = s.pending := by
  unfold addEntries at h
  split at h
  · cases h
  · cases h; simp

@[simp] theorem cancelOwner_frame (lug : LugNo) :
    (cancelOwner lug s).chain = s.chain ∧ (cancelOwner lug s).scan = s.scan ∧
    (cancelOwner lug s).moisture = s.moisture ∧ (cancelOwner lug s).solver = s.solver ∧
    (cancelOwner lug s).panels = s.panels ∧ (cancelOwner lug s).bins = s.bins ∧
    (cancelOwner lug s).logs = s.logs ∧ (cancelOwner lug s).tally = s.tally ∧
    (cancelOwner lug s).governor = s.governor ∧ (cancelOwner lug s).line = s.line ∧
    (cancelOwner lug s).link = s.link ∧ (cancelOwner lug s).store = s.store ∧
    (cancelOwner lug s).pending = s.pending := by
  simp [cancelOwner]

@[simp] theorem cancelOwnerGate_frame (lug : LugNo) :
    (cancelOwnerGate lug s).chain = s.chain ∧ (cancelOwnerGate lug s).scan = s.scan ∧
    (cancelOwnerGate lug s).moisture = s.moisture ∧ (cancelOwnerGate lug s).solver = s.solver ∧
    (cancelOwnerGate lug s).panels = s.panels ∧ (cancelOwnerGate lug s).bins = s.bins ∧
    (cancelOwnerGate lug s).logs = s.logs ∧ (cancelOwnerGate lug s).tally = s.tally ∧
    (cancelOwnerGate lug s).governor = s.governor ∧ (cancelOwnerGate lug s).line = s.line ∧
    (cancelOwnerGate lug s).link = s.link ∧ (cancelOwnerGate lug s).store = s.store ∧
    (cancelOwnerGate lug s).pending = s.pending := by
  simp [cancelOwnerGate]

@[simp] theorem cancelEncoder_frame (e : EncoderId) :
    (cancelEncoder e s).chain = s.chain ∧ (cancelEncoder e s).scan = s.scan ∧
    (cancelEncoder e s).moisture = s.moisture ∧ (cancelEncoder e s).solver = s.solver ∧
    (cancelEncoder e s).panels = s.panels ∧ (cancelEncoder e s).bins = s.bins ∧
    (cancelEncoder e s).logs = s.logs ∧ (cancelEncoder e s).tally = s.tally ∧
    (cancelEncoder e s).governor = s.governor ∧ (cancelEncoder e s).line = s.line ∧
    (cancelEncoder e s).link = s.link ∧ (cancelEncoder e s).store = s.store ∧
    (cancelEncoder e s).pending = s.pending := by
  simp [cancelEncoder]

@[simp] theorem cancelAll_frame :
    (cancelAll s).chain = s.chain ∧ (cancelAll s).scan = s.scan ∧ (cancelAll s).moisture = s.moisture ∧
    (cancelAll s).solver = s.solver ∧ (cancelAll s).panels = s.panels ∧ (cancelAll s).bins = s.bins ∧
    (cancelAll s).tally = s.tally ∧ (cancelAll s).governor = s.governor ∧ (cancelAll s).line = s.line ∧
    (cancelAll s).link = s.link ∧ (cancelAll s).store = s.store ∧ (cancelAll s).pending = s.pending := by
  simp [cancelAll]

@[simp] theorem weighBin_frame (i : Nat) (c : BinCause) :
    (weighBin i c s).chain = s.chain ∧ (weighBin i c s).scan = s.scan ∧
    (weighBin i c s).moisture = s.moisture ∧ (weighBin i c s).solver = s.solver ∧
    (weighBin i c s).panels = s.panels ∧ (weighBin i c s).output = s.output ∧ (weighBin i c s).logs = s.logs ∧
    (weighBin i c s).tally = s.tally ∧ (weighBin i c s).line = s.line ∧ (weighBin i c s).store = s.store ∧
    (weighBin i c s).pending = s.pending := by
  unfold weighBin; repeat' split
  all_goals simp

@[simp] theorem changeBin_frame (i : Nat) (f : Bin → Bin) (c : BinCause) :
    (changeBin i f c s).chain = s.chain ∧ (changeBin i f c s).scan = s.scan ∧
    (changeBin i f c s).moisture = s.moisture ∧ (changeBin i f c s).solver = s.solver ∧
    (changeBin i f c s).panels = s.panels ∧ (changeBin i f c s).output = s.output ∧
    (changeBin i f c s).logs = s.logs ∧ (changeBin i f c s).tally = s.tally ∧
    (changeBin i f c s).line = s.line ∧ (changeBin i f c s).store = s.store ∧
    (changeBin i f c s).pending = s.pending := by
  simp [changeBin]

@[simp] theorem reserveBin_frame (i : Nat) :
    (reserveBin i s).chain = s.chain ∧ (reserveBin i s).scan = s.scan ∧
    (reserveBin i s).moisture = s.moisture ∧ (reserveBin i s).solver = s.solver ∧
    (reserveBin i s).panels = s.panels ∧ (reserveBin i s).output = s.output ∧ (reserveBin i s).logs = s.logs ∧
    (reserveBin i s).tally = s.tally ∧ (reserveBin i s).line = s.line ∧ (reserveBin i s).store = s.store ∧
    (reserveBin i s).pending = s.pending := by
  simp [reserveBin]

@[simp] theorem releaseBin_frame (i : Nat) :
    (releaseBin i s).chain = s.chain ∧ (releaseBin i s).scan = s.scan ∧
    (releaseBin i s).moisture = s.moisture ∧ (releaseBin i s).solver = s.solver ∧
    (releaseBin i s).panels = s.panels ∧ (releaseBin i s).output = s.output ∧ (releaseBin i s).logs = s.logs ∧
    (releaseBin i s).tally = s.tally ∧ (releaseBin i s).line = s.line ∧ (releaseBin i s).store = s.store ∧
    (releaseBin i s).pending = s.pending := by
  simp [releaseBin]

@[simp] theorem changePiece_frame (lug : LugNo) (f : Piece → Piece) :
    (changePiece lug f s).scan = s.scan ∧ (changePiece lug f s).moisture = s.moisture ∧
    (changePiece lug f s).solver = s.solver ∧ (changePiece lug f s).panels = s.panels ∧
    (changePiece lug f s).output = s.output ∧ (changePiece lug f s).bins = s.bins ∧
    (changePiece lug f s).logs = s.logs ∧ (changePiece lug f s).tally = s.tally ∧
    (changePiece lug f s).governor = s.governor ∧ (changePiece lug f s).line = s.line ∧
    (changePiece lug f s).link = s.link ∧ (changePiece lug f s).store = s.store ∧
    (changePiece lug f s).pending = s.pending := by
  simp [changePiece]

@[simp] theorem setSuspect_frame (c : SuspectCause) :
    (setSuspect c s).scan = s.scan ∧ (setSuspect c s).moisture = s.moisture ∧
    (setSuspect c s).solver = s.solver ∧ (setSuspect c s).panels = s.panels ∧ (setSuspect c s).logs = s.logs ∧
    (setSuspect c s).tally = s.tally ∧ (setSuspect c s).line = s.line ∧ (setSuspect c s).store = s.store ∧
    (setSuspect c s).pending = s.pending := by
  unfold setSuspect; dsimp only; split <;> simp [foldl_keeps State.scan, foldl_keeps State.moisture, foldl_keeps State.solver, foldl_keeps State.panels, foldl_keeps State.logs, foldl_keeps State.tally, foldl_keeps State.line, foldl_keeps State.store, foldl_keeps State.pending]

@[simp] theorem clearSuspectNoticed_frame :
    (clearSuspectNoticed s).scan = s.scan ∧ (clearSuspectNoticed s).moisture = s.moisture ∧
    (clearSuspectNoticed s).solver = s.solver ∧ (clearSuspectNoticed s).panels = s.panels ∧
    (clearSuspectNoticed s).output = s.output ∧ (clearSuspectNoticed s).bins = s.bins ∧
    (clearSuspectNoticed s).logs = s.logs ∧ (clearSuspectNoticed s).tally = s.tally ∧
    (clearSuspectNoticed s).line = s.line ∧ (clearSuspectNoticed s).store = s.store ∧
    (clearSuspectNoticed s).pending = s.pending := by
  unfold clearSuspectNoticed; split <;> simp

@[simp] theorem tallyPiece_frame (p : Piece) (o : PieceOutcome) :
    (tallyPiece p o s).chain = s.chain ∧ (tallyPiece p o s).scan = s.scan ∧
    (tallyPiece p o s).moisture = s.moisture ∧ (tallyPiece p o s).solver = s.solver ∧
    (tallyPiece p o s).panels = s.panels ∧ (tallyPiece p o s).output = s.output ∧
    (tallyPiece p o s).bins = s.bins ∧ (tallyPiece p o s).logs = s.logs ∧
    (tallyPiece p o s).governor = s.governor ∧ (tallyPiece p o s).line = s.line ∧
    (tallyPiece p o s).link = s.link ∧ (tallyPiece p o s).store = s.store ∧
    (tallyPiece p o s).pending = s.pending := by
  simp [tallyPiece]

@[simp] theorem finishPiece_frame (lug : LugNo) (o : PieceOutcome) :
    (finishPiece lug o s).scan = s.scan ∧ (finishPiece lug o s).moisture = s.moisture ∧
    (finishPiece lug o s).solver = s.solver ∧ (finishPiece lug o s).panels = s.panels ∧
    (finishPiece lug o s).output = s.output ∧ (finishPiece lug o s).bins = s.bins ∧
    (finishPiece lug o s).logs = s.logs ∧ (finishPiece lug o s).line = s.line ∧
    (finishPiece lug o s).store = s.store ∧ (finishPiece lug o s).pending = s.pending := by
  unfold finishPiece; split <;> simp

end Sys2Proof.Machine
end

