-- ==== Sys2Proof/Laws/Panels.lean ====
section
/-! SUPPORT. Frames: what each operation of the answer list, the trim solver and the panel unit (Answers, Solver, Panel) leaves unchanged. -/

namespace Sys2Proof.Machine

variable (s : State)

@[simp] theorem dropAnswer_frame (lug : LugNo) :
    (dropAnswer lug s).chain = s.chain ∧ (dropAnswer lug s).scan = s.scan ∧
    (dropAnswer lug s).moisture = s.moisture ∧ (dropAnswer lug s).solver = s.solver ∧
    (dropAnswer lug s).output = s.output ∧ (dropAnswer lug s).bins = s.bins ∧
    (dropAnswer lug s).logs = s.logs ∧ (dropAnswer lug s).tally = s.tally ∧
    (dropAnswer lug s).governor = s.governor ∧ (dropAnswer lug s).line = s.line ∧
    (dropAnswer lug s).link = s.link ∧ (dropAnswer lug s).store = s.store ∧
    (dropAnswer lug s).pending = s.pending := by
  simp [dropAnswer]

@[simp] theorem sendResult_frame (p : PanelId) (tag : Byte) (lug : LugNo) :
    (sendResult p tag lug s).chain = s.chain ∧ (sendResult p tag lug s).scan = s.scan ∧
    (sendResult p tag lug s).moisture = s.moisture ∧ (sendResult p tag lug s).solver = s.solver ∧
    (sendResult p tag lug s).output = s.output ∧ (sendResult p tag lug s).bins = s.bins ∧
    (sendResult p tag lug s).logs = s.logs ∧ (sendResult p tag lug s).tally = s.tally ∧
    (sendResult p tag lug s).governor = s.governor ∧ (sendResult p tag lug s).line = s.line ∧
    (sendResult p tag lug s).link = s.link ∧ (sendResult p tag lug s).store = s.store ∧
    (sendResult p tag lug s).pending = s.pending := by
  unfold sendResult; split <;> simp

@[simp] theorem reportResult_frame (lug : LugNo) (r : Byte) :
    (reportResult lug r s).chain = s.chain ∧ (reportResult lug r s).scan = s.scan ∧
    (reportResult lug r s).moisture = s.moisture ∧ (reportResult lug r s).solver = s.solver ∧
    (reportResult lug r s).output = s.output ∧ (reportResult lug r s).bins = s.bins ∧
    (reportResult lug r s).logs = s.logs ∧ (reportResult lug r s).tally = s.tally ∧
    (reportResult lug r s).governor = s.governor ∧ (reportResult lug r s).line = s.line ∧
    (reportResult lug r s).link = s.link ∧ (reportResult lug r s).store = s.store ∧
    (reportResult lug r s).pending = s.pending := by
  unfold reportResult; repeat' split
  all_goals simp

@[simp] theorem payLapsed_frame (lug : LugNo) (w : LapseReason) :
    (payLapsed lug w s).chain = s.chain ∧ (payLapsed lug w s).scan = s.scan ∧
    (payLapsed lug w s).moisture = s.moisture ∧ (payLapsed lug w s).solver = s.solver ∧
    (payLapsed lug w s).output = s.output ∧ (payLapsed lug w s).bins = s.bins ∧
    (payLapsed lug w s).logs = s.logs ∧ (payLapsed lug w s).tally = s.tally ∧
    (payLapsed lug w s).governor = s.governor ∧ (payLapsed lug w s).line = s.line ∧
    (payLapsed lug w s).link = s.link ∧ (payLapsed lug w s).store = s.store ∧
    (payLapsed lug w s).pending = s.pending := by
  unfold payLapsed; split <;> simp

@[simp] theorem updateAnswers_frame (p : PanelId) (tag : Byte) (lug : LugNo) (k : OverrideKind) (r : Byte) (o : Bool) :
    (updateAnswers p tag lug k r o s).chain = s.chain ∧ (updateAnswers p tag lug k r o s).scan = s.scan ∧
    (updateAnswers p tag lug k r o s).moisture = s.moisture ∧
    (updateAnswers p tag lug k r o s).solver = s.solver ∧ (updateAnswers p tag lug k r o s).output = s.output ∧
    (updateAnswers p tag lug k r o s).bins = s.bins ∧ (updateAnswers p tag lug k r o s).logs = s.logs ∧
    (updateAnswers p tag lug k r o s).tally = s.tally ∧
    (updateAnswers p tag lug k r o s).governor = s.governor ∧ (updateAnswers p tag lug k r o s).line = s.line ∧
    (updateAnswers p tag lug k r o s).link = s.link ∧ (updateAnswers p tag lug k r o s).store = s.store ∧
    (updateAnswers p tag lug k r o s).pending = s.pending := by
  unfold updateAnswers; dsimp only; repeat' split
  all_goals simp

@[simp] theorem setPresence_frame (p : PanelId) (b : Bool) :
    (setPresence p b s).chain = s.chain ∧ (setPresence p b s).scan = s.scan ∧
    (setPresence p b s).moisture = s.moisture ∧ (setPresence p b s).solver = s.solver ∧
    (setPresence p b s).output = s.output ∧ (setPresence p b s).bins = s.bins ∧
    (setPresence p b s).logs = s.logs ∧ (setPresence p b s).tally = s.tally ∧
    (setPresence p b s).line = s.line ∧ (setPresence p b s).store = s.store ∧
    (setPresence p b s).pending = s.pending := by
  simp [setPresence]

@[simp] theorem panelHeard_frame (p : PanelId) :
    (panelHeard p s).chain = s.chain ∧ (panelHeard p s).scan = s.scan ∧
    (panelHeard p s).moisture = s.moisture ∧ (panelHeard p s).solver = s.solver ∧
    (panelHeard p s).output = s.output ∧ (panelHeard p s).bins = s.bins ∧ (panelHeard p s).logs = s.logs ∧
    (panelHeard p s).tally = s.tally ∧ (panelHeard p s).line = s.line ∧ (panelHeard p s).store = s.store ∧
    (panelHeard p s).pending = s.pending := by
  unfold panelHeard; dsimp only; split <;> simp

@[simp] theorem weighPanelTimer_frame (p : PanelId) :
    (weighPanelTimer p s).chain = s.chain ∧ (weighPanelTimer p s).scan = s.scan ∧
    (weighPanelTimer p s).moisture = s.moisture ∧ (weighPanelTimer p s).solver = s.solver ∧
    (weighPanelTimer p s).output = s.output ∧ (weighPanelTimer p s).bins = s.bins ∧
    (weighPanelTimer p s).logs = s.logs ∧ (weighPanelTimer p s).tally = s.tally ∧
    (weighPanelTimer p s).line = s.line ∧ (weighPanelTimer p s).store = s.store ∧
    (weighPanelTimer p s).pending = s.pending := by
  unfold weighPanelTimer; split <;> simp

@[simp] theorem setSolveState_frame (lug : LugNo) (st : SolveState) :
    (setSolveState lug st s).scan = s.scan ∧ (setSolveState lug st s).moisture = s.moisture ∧
    (setSolveState lug st s).solver = s.solver ∧ (setSolveState lug st s).panels = s.panels ∧
    (setSolveState lug st s).output = s.output ∧ (setSolveState lug st s).bins = s.bins ∧
    (setSolveState lug st s).logs = s.logs ∧ (setSolveState lug st s).tally = s.tally ∧
    (setSolveState lug st s).governor = s.governor ∧ (setSolveState lug st s).line = s.line ∧
    (setSolveState lug st s).link = s.link ∧ (setSolveState lug st s).store = s.store ∧
    (setSolveState lug st s).pending = s.pending := by
  simp [setSolveState]

@[simp] theorem startSolve_frame :
    (startSolve s).scan = s.scan ∧ (startSolve s).moisture = s.moisture ∧ (startSolve s).panels = s.panels ∧
    (startSolve s).output = s.output ∧ (startSolve s).bins = s.bins ∧ (startSolve s).logs = s.logs ∧
    (startSolve s).tally = s.tally ∧ (startSolve s).governor = s.governor ∧ (startSolve s).line = s.line ∧
    (startSolve s).link = s.link ∧ (startSolve s).store = s.store ∧ (startSolve s).pending = s.pending := by
  unfold startSolve; dsimp only; repeat' split
  all_goals simp

@[simp] theorem joinSolver_frame (lug : LugNo) :
    (joinSolver lug s).scan = s.scan ∧ (joinSolver lug s).moisture = s.moisture ∧
    (joinSolver lug s).panels = s.panels ∧ (joinSolver lug s).output = s.output ∧
    (joinSolver lug s).bins = s.bins ∧ (joinSolver lug s).logs = s.logs ∧ (joinSolver lug s).tally = s.tally ∧
    (joinSolver lug s).governor = s.governor ∧ (joinSolver lug s).line = s.line ∧
    (joinSolver lug s).link = s.link ∧ (joinSolver lug s).store = s.store ∧
    (joinSolver lug s).pending = s.pending := by
  simp [joinSolver]

@[simp] theorem completeEmpty_frame (lug : LugNo) :
    (completeEmpty lug s).scan = s.scan ∧ (completeEmpty lug s).moisture = s.moisture ∧
    (completeEmpty lug s).solver = s.solver ∧ (completeEmpty lug s).output = s.output ∧
    (completeEmpty lug s).bins = s.bins ∧ (completeEmpty lug s).logs = s.logs ∧
    (completeEmpty lug s).tally = s.tally ∧ (completeEmpty lug s).governor = s.governor ∧
    (completeEmpty lug s).line = s.line ∧ (completeEmpty lug s).link = s.link ∧
    (completeEmpty lug s).store = s.store ∧ (completeEmpty lug s).pending = s.pending := by
  unfold completeEmpty; split <;> simp

@[simp] theorem requestAtClose_frame (lug : LugNo) :
    (requestAtClose lug s).scan = s.scan ∧ (requestAtClose lug s).moisture = s.moisture ∧
    (requestAtClose lug s).output = s.output ∧ (requestAtClose lug s).bins = s.bins ∧
    (requestAtClose lug s).logs = s.logs ∧ (requestAtClose lug s).tally = s.tally ∧
    (requestAtClose lug s).governor = s.governor ∧ (requestAtClose lug s).link = s.link ∧
    (requestAtClose lug s).store = s.store ∧ (requestAtClose lug s).pending = s.pending := by
  unfold requestAtClose; repeat' split
  all_goals simp

@[simp] theorem requestForOverride_frame (lug : LugNo) :
    (requestForOverride lug s).scan = s.scan ∧ (requestForOverride lug s).moisture = s.moisture ∧
    (requestForOverride lug s).output = s.output ∧ (requestForOverride lug s).bins = s.bins ∧
    (requestForOverride lug s).logs = s.logs ∧ (requestForOverride lug s).tally = s.tally ∧
    (requestForOverride lug s).governor = s.governor ∧ (requestForOverride lug s).line = s.line ∧
    (requestForOverride lug s).link = s.link ∧ (requestForOverride lug s).store = s.store ∧
    (requestForOverride lug s).pending = s.pending := by
  unfold requestForOverride; repeat' split
  all_goals simp

@[simp] theorem settleDiscard_frame (lug : LugNo) :
    (settleDiscard lug s).scan = s.scan ∧ (settleDiscard lug s).moisture = s.moisture ∧
    (settleDiscard lug s).panels = s.panels ∧ (settleDiscard lug s).output = s.output ∧
    (settleDiscard lug s).bins = s.bins ∧ (settleDiscard lug s).logs = s.logs ∧
    (settleDiscard lug s).tally = s.tally ∧ (settleDiscard lug s).governor = s.governor ∧
    (settleDiscard lug s).link = s.link ∧ (settleDiscard lug s).store = s.store ∧
    (settleDiscard lug s).pending = s.pending := by
  unfold settleDiscard; repeat' split
  all_goals simp

@[simp] theorem completeSolve_frame :
    (completeSolve s).scan = s.scan ∧ (completeSolve s).moisture = s.moisture ∧
    (completeSolve s).output = s.output ∧ (completeSolve s).bins = s.bins ∧ (completeSolve s).logs = s.logs ∧
    (completeSolve s).tally = s.tally ∧ (completeSolve s).governor = s.governor ∧
    (completeSolve s).link = s.link ∧ (completeSolve s).store = s.store ∧ (completeSolve s).pending = s.pending := by
  unfold completeSolve; dsimp only; repeat' split
  all_goals simp

@[simp] theorem solverCommitted_frame (lug : LugNo) :
    (solverCommitted lug s).scan = s.scan ∧ (solverCommitted lug s).moisture = s.moisture ∧
    (solverCommitted lug s).panels = s.panels ∧ (solverCommitted lug s).output = s.output ∧
    (solverCommitted lug s).bins = s.bins ∧ (solverCommitted lug s).logs = s.logs ∧
    (solverCommitted lug s).tally = s.tally ∧ (solverCommitted lug s).governor = s.governor ∧
    (solverCommitted lug s).line = s.line ∧ (solverCommitted lug s).link = s.link ∧
    (solverCommitted lug s).store = s.store ∧ (solverCommitted lug s).pending = s.pending := by
  unfold solverCommitted; split <;> simp

@[simp] theorem panelHello_frame (p : PanelId) (tag : Byte) :
    (panelHello p tag s).chain = s.chain ∧ (panelHello p tag s).scan = s.scan ∧
    (panelHello p tag s).moisture = s.moisture ∧ (panelHello p tag s).solver = s.solver ∧
    (panelHello p tag s).output = s.output ∧ (panelHello p tag s).bins = s.bins ∧
    (panelHello p tag s).logs = s.logs ∧ (panelHello p tag s).tally = s.tally ∧
    (panelHello p tag s).line = s.line ∧ (panelHello p tag s).store = s.store ∧
    (panelHello p tag s).pending = s.pending := by
  simp [panelHello]

@[simp] theorem overrideReply_frame (p : PanelId) (tag : Byte) (lug : LugNo) (st : OverrideStatus) (r : Byte) :
    (overrideReply p tag lug st r s).chain = s.chain ∧ (overrideReply p tag lug st r s).scan = s.scan ∧
    (overrideReply p tag lug st r s).moisture = s.moisture ∧
    (overrideReply p tag lug st r s).solver = s.solver ∧ (overrideReply p tag lug st r s).output = s.output ∧
    (overrideReply p tag lug st r s).bins = s.bins ∧ (overrideReply p tag lug st r s).logs = s.logs ∧
    (overrideReply p tag lug st r s).tally = s.tally ∧ (overrideReply p tag lug st r s).governor = s.governor ∧
    (overrideReply p tag lug st r s).line = s.line ∧ (overrideReply p tag lug st r s).link = s.link ∧
    (overrideReply p tag lug st r s).store = s.store ∧ (overrideReply p tag lug st r s).pending = s.pending := by
  simp [overrideReply]

@[simp] theorem afterAcceptance_frame (p : PanelId) (tag : Byte) (lug : LugNo) (k : OverrideKind) (x : Piece) :
    (afterAcceptance p tag lug k x s).scan = s.scan ∧ (afterAcceptance p tag lug k x s).moisture = s.moisture ∧
    (afterAcceptance p tag lug k x s).output = s.output ∧ (afterAcceptance p tag lug k x s).bins = s.bins ∧
    (afterAcceptance p tag lug k x s).logs = s.logs ∧ (afterAcceptance p tag lug k x s).tally = s.tally ∧
    (afterAcceptance p tag lug k x s).governor = s.governor ∧ (afterAcceptance p tag lug k x s).line = s.line ∧
    (afterAcceptance p tag lug k x s).link = s.link ∧ (afterAcceptance p tag lug k x s).store = s.store ∧
    (afterAcceptance p tag lug k x s).pending = s.pending := by
  unfold afterAcceptance; repeat' split
  all_goals simp

@[simp] theorem acceptOverride_frame (p : PanelId) (tag : Byte) (lug : LugNo) (k : OverrideKind) (v : Nat) (x : Piece) :
    (acceptOverride p tag lug k v x s).scan = s.scan ∧
    (acceptOverride p tag lug k v x s).moisture = s.moisture ∧
    (acceptOverride p tag lug k v x s).output = s.output ∧ (acceptOverride p tag lug k v x s).bins = s.bins ∧
    (acceptOverride p tag lug k v x s).logs = s.logs ∧ (acceptOverride p tag lug k v x s).tally = s.tally ∧
    (acceptOverride p tag lug k v x s).governor = s.governor ∧
    (acceptOverride p tag lug k v x s).line = s.line ∧ (acceptOverride p tag lug k v x s).link = s.link ∧
    (acceptOverride p tag lug k v x s).store = s.store ∧ (acceptOverride p tag lug k v x s).pending = s.pending := by
  simp [acceptOverride]

@[simp] theorem judgeOverride_frame (p : PanelId) (tag : Byte) (lug : LugNo) (k : OverrideKind) (v : Nat) :
    (judgeOverride p tag lug k v s).scan = s.scan ∧ (judgeOverride p tag lug k v s).moisture = s.moisture ∧
    (judgeOverride p tag lug k v s).output = s.output ∧ (judgeOverride p tag lug k v s).bins = s.bins ∧
    (judgeOverride p tag lug k v s).logs = s.logs ∧ (judgeOverride p tag lug k v s).tally = s.tally ∧
    (judgeOverride p tag lug k v s).governor = s.governor ∧ (judgeOverride p tag lug k v s).line = s.line ∧
    (judgeOverride p tag lug k v s).link = s.link ∧ (judgeOverride p tag lug k v s).store = s.store ∧
    (judgeOverride p tag lug k v s).pending = s.pending := by
  unfold judgeOverride; repeat' split
  all_goals simp

@[simp] theorem overrideFrame_frame (p : PanelId) (tag : Byte) (lug : LugNo) (k : OverrideKind) (v : Byte) :
    (overrideFrame p tag lug k v s).scan = s.scan ∧ (overrideFrame p tag lug k v s).moisture = s.moisture ∧
    (overrideFrame p tag lug k v s).output = s.output ∧ (overrideFrame p tag lug k v s).bins = s.bins ∧
    (overrideFrame p tag lug k v s).logs = s.logs ∧ (overrideFrame p tag lug k v s).tally = s.tally ∧
    (overrideFrame p tag lug k v s).line = s.line ∧ (overrideFrame p tag lug k v s).store = s.store ∧
    (overrideFrame p tag lug k v s).pending = s.pending := by
  simp [overrideFrame]

@[simp] theorem overrideBody_frame (p : PanelId) (tag : Byte) (b : List Byte) :
    (overrideBody p tag b s).scan = s.scan ∧ (overrideBody p tag b s).moisture = s.moisture ∧
    (overrideBody p tag b s).output = s.output ∧ (overrideBody p tag b s).bins = s.bins ∧
    (overrideBody p tag b s).logs = s.logs ∧ (overrideBody p tag b s).tally = s.tally ∧
    (overrideBody p tag b s).line = s.line ∧ (overrideBody p tag b s).store = s.store ∧
    (overrideBody p tag b s).pending = s.pending := by
  unfold overrideBody; split <;> simp

@[simp] theorem panelSilent_frame (p : PanelId) :
    (panelSilent p s).chain = s.chain ∧ (panelSilent p s).scan = s.scan ∧
    (panelSilent p s).moisture = s.moisture ∧ (panelSilent p s).solver = s.solver ∧
    (panelSilent p s).output = s.output ∧ (panelSilent p s).bins = s.bins ∧ (panelSilent p s).logs = s.logs ∧
    (panelSilent p s).tally = s.tally ∧ (panelSilent p s).line = s.line ∧ (panelSilent p s).store = s.store ∧
    (panelSilent p s).pending = s.pending := by
  simp [panelSilent]

@[simp] theorem panelSent_frame (p : PanelId) :
    (panelSent p s).chain = s.chain ∧ (panelSent p s).scan = s.scan ∧ (panelSent p s).moisture = s.moisture ∧
    (panelSent p s).solver = s.solver ∧ (panelSent p s).output = s.output ∧ (panelSent p s).bins = s.bins ∧
    (panelSent p s).logs = s.logs ∧ (panelSent p s).tally = s.tally ∧ (panelSent p s).governor = s.governor ∧
    (panelSent p s).line = s.line ∧ (panelSent p s).link = s.link ∧ (panelSent p s).store = s.store ∧
    (panelSent p s).pending = s.pending := by
  simp [panelSent]

end Sys2Proof.Machine
end

