-- ==== Sys2Proof/Laws/Board.lean ====
section
/-! SUPPORT. Frames: what each operation of the board path (Governor, Scan, Commit, Sorter, Banks, Halt, Tracking) leaves unchanged. -/

namespace Sys2Proof.Machine

variable (s : State)

@[simp] theorem stepGovernor_frame :
    (stepGovernor s).chain = s.chain ∧ (stepGovernor s).scan = s.scan ∧
    (stepGovernor s).moisture = s.moisture ∧ (stepGovernor s).solver = s.solver ∧
    (stepGovernor s).panels = s.panels ∧ (stepGovernor s).output = s.output ∧ (stepGovernor s).bins = s.bins ∧
    (stepGovernor s).logs = s.logs ∧ (stepGovernor s).tally = s.tally ∧ (stepGovernor s).line = s.line ∧
    (stepGovernor s).link = s.link ∧ (stepGovernor s).store = s.store ∧ (stepGovernor s).pending = s.pending := by
  unfold stepGovernor; repeat' split
  all_goals simp

@[simp] theorem weighAdmission_frame (lug : LugNo) :
    (weighAdmission lug s).chain = s.chain ∧ (weighAdmission lug s).scan = s.scan ∧
    (weighAdmission lug s).moisture = s.moisture ∧ (weighAdmission lug s).solver = s.solver ∧
    (weighAdmission lug s).panels = s.panels ∧ (weighAdmission lug s).output = s.output ∧
    (weighAdmission lug s).bins = s.bins ∧ (weighAdmission lug s).logs = s.logs ∧
    (weighAdmission lug s).tally = s.tally ∧ (weighAdmission lug s).governor = s.governor ∧
    (weighAdmission lug s).link = s.link ∧ (weighAdmission lug s).store = s.store ∧
    (weighAdmission lug s).pending = s.pending := by
  unfold weighAdmission; split <;> simp

@[simp] theorem recordHistory_frame (lug : LugNo) (b : Bool) :
    (recordHistory lug b s).chain = s.chain ∧ (recordHistory lug b s).moisture = s.moisture ∧
    (recordHistory lug b s).solver = s.solver ∧ (recordHistory lug b s).panels = s.panels ∧
    (recordHistory lug b s).output = s.output ∧ (recordHistory lug b s).bins = s.bins ∧
    (recordHistory lug b s).logs = s.logs ∧ (recordHistory lug b s).tally = s.tally ∧
    (recordHistory lug b s).governor = s.governor ∧ (recordHistory lug b s).line = s.line ∧
    (recordHistory lug b s).link = s.link ∧ (recordHistory lug b s).store = s.store ∧
    (recordHistory lug b s).pending = s.pending := by
  simp [recordHistory]

@[simp] theorem sendLug_frame (lug : LugNo) :
    (sendLug lug s).chain = s.chain ∧ (sendLug lug s).moisture = s.moisture ∧
    (sendLug lug s).solver = s.solver ∧ (sendLug lug s).panels = s.panels ∧ (sendLug lug s).output = s.output ∧
    (sendLug lug s).bins = s.bins ∧ (sendLug lug s).logs = s.logs ∧ (sendLug lug s).tally = s.tally ∧
    (sendLug lug s).governor = s.governor ∧ (sendLug lug s).line = s.line ∧ (sendLug lug s).link = s.link ∧
    (sendLug lug s).store = s.store ∧ (sendLug lug s).pending = s.pending := by
  unfold sendLug; split <;> simp

@[simp] theorem closeProfile_frame (lug : LugNo) (c : CloseCause) :
    (closeProfile lug c s).moisture = s.moisture ∧ (closeProfile lug c s).output = s.output ∧
    (closeProfile lug c s).bins = s.bins ∧ (closeProfile lug c s).logs = s.logs ∧
    (closeProfile lug c s).tally = s.tally ∧ (closeProfile lug c s).governor = s.governor ∧
    (closeProfile lug c s).link = s.link ∧ (closeProfile lug c s).store = s.store ∧
    (closeProfile lug c s).pending = s.pending := by
  unfold closeProfile; repeat' split
  all_goals simp

@[simp] theorem takeReport_frame (p : Piece) (h a b : Nat) (f : SegmentFields) :
    (takeReport p h a b f s).moisture = s.moisture ∧ (takeReport p h a b f s).output = s.output ∧
    (takeReport p h a b f s).bins = s.bins ∧ (takeReport p h a b f s).logs = s.logs ∧
    (takeReport p h a b f s).tally = s.tally ∧ (takeReport p h a b f s).governor = s.governor ∧
    (takeReport p h a b f s).link = s.link ∧ (takeReport p h a b f s).store = s.store ∧
    (takeReport p h a b f s).pending = s.pending := by
  unfold takeReport; dsimp only; split <;> simp

@[simp] theorem judgeReport_frame (h : Fin 8) (f : SegmentFields) (p : Piece) :
    (judgeReport h f p s).moisture = s.moisture ∧ (judgeReport h f p s).output = s.output ∧
    (judgeReport h f p s).bins = s.bins ∧ (judgeReport h f p s).logs = s.logs ∧
    (judgeReport h f p s).tally = s.tally ∧ (judgeReport h f p s).governor = s.governor ∧
    (judgeReport h f p s).link = s.link ∧ (judgeReport h f p s).store = s.store ∧
    (judgeReport h f p s).pending = s.pending := by
  unfold judgeReport; repeat' split
  all_goals simp

@[simp] theorem judgeSegment_frame (h : Fin 8) (b : List Byte) :
    (judgeSegment h b s).moisture = s.moisture ∧ (judgeSegment h b s).output = s.output ∧
    (judgeSegment h b s).bins = s.bins ∧ (judgeSegment h b s).logs = s.logs ∧
    (judgeSegment h b s).tally = s.tally ∧ (judgeSegment h b s).governor = s.governor ∧
    (judgeSegment h b s).store = s.store ∧ (judgeSegment h b s).pending = s.pending := by
  unfold judgeSegment; repeat' split
  all_goals simp

@[simp] theorem triggerMoisture_frame (lug : LugNo) :
    (triggerMoisture lug s).chain = s.chain ∧ (triggerMoisture lug s).scan = s.scan ∧
    (triggerMoisture lug s).solver = s.solver ∧ (triggerMoisture lug s).panels = s.panels ∧
    (triggerMoisture lug s).output = s.output ∧ (triggerMoisture lug s).bins = s.bins ∧
    (triggerMoisture lug s).logs = s.logs ∧ (triggerMoisture lug s).tally = s.tally ∧
    (triggerMoisture lug s).governor = s.governor ∧ (triggerMoisture lug s).line = s.line ∧
    (triggerMoisture lug s).link = s.link ∧ (triggerMoisture lug s).store = s.store ∧
    (triggerMoisture lug s).pending = s.pending := by
  unfold triggerMoisture; dsimp only; repeat' split
  all_goals simp

@[simp] theorem completeConversion_frame (raw : Nat) :
    (completeConversion raw s).scan = s.scan ∧ (completeConversion raw s).solver = s.solver ∧
    (completeConversion raw s).panels = s.panels ∧ (completeConversion raw s).output = s.output ∧
    (completeConversion raw s).bins = s.bins ∧ (completeConversion raw s).logs = s.logs ∧
    (completeConversion raw s).tally = s.tally ∧ (completeConversion raw s).governor = s.governor ∧
    (completeConversion raw s).line = s.line ∧ (completeConversion raw s).link = s.link ∧
    (completeConversion raw s).store = s.store ∧ (completeConversion raw s).pending = s.pending := by
  unfold completeConversion; repeat' split
  all_goals simp

@[simp] theorem ageMoisture_frame :
    (ageMoisture s).chain = s.chain ∧ (ageMoisture s).scan = s.scan ∧ (ageMoisture s).solver = s.solver ∧
    (ageMoisture s).panels = s.panels ∧ (ageMoisture s).output = s.output ∧ (ageMoisture s).bins = s.bins ∧
    (ageMoisture s).logs = s.logs ∧ (ageMoisture s).tally = s.tally ∧ (ageMoisture s).governor = s.governor ∧
    (ageMoisture s).line = s.line ∧ (ageMoisture s).link = s.link ∧ (ageMoisture s).store = s.store ∧
    (ageMoisture s).pending = s.pending := by
  simp [ageMoisture]

@[simp] theorem clearHeld_frame :
    (clearHeld s).chain = s.chain ∧ (clearHeld s).scan = s.scan ∧ (clearHeld s).solver = s.solver ∧
    (clearHeld s).panels = s.panels ∧ (clearHeld s).output = s.output ∧ (clearHeld s).bins = s.bins ∧
    (clearHeld s).logs = s.logs ∧ (clearHeld s).tally = s.tally ∧ (clearHeld s).governor = s.governor ∧
    (clearHeld s).line = s.line ∧ (clearHeld s).link = s.link ∧ (clearHeld s).store = s.store ∧
    (clearHeld s).pending = s.pending := by
  simp [clearHeld]

@[simp] theorem writeCommit_frame (lug : LugNo) (d : Dest) (o : Option PieceOutcome) (b : Bool) :
    (writeCommit lug d o b s).scan = s.scan ∧ (writeCommit lug d o b s).moisture = s.moisture ∧
    (writeCommit lug d o b s).output = s.output ∧ (writeCommit lug d o b s).bins = s.bins ∧
    (writeCommit lug d o b s).logs = s.logs ∧ (writeCommit lug d o b s).tally = s.tally ∧
    (writeCommit lug d o b s).governor = s.governor ∧ (writeCommit lug d o b s).line = s.line ∧
    (writeCommit lug d o b s).link = s.link ∧ (writeCommit lug d o b s).store = s.store ∧
    (writeCommit lug d o b s).pending = s.pending := by
  simp [writeCommit]

@[simp] theorem commitPiece_frame (g : Geometry) (c : Count) (lug : LugNo) :
    (commitPiece g c lug s).scan = s.scan ∧ (commitPiece g c lug s).moisture = s.moisture ∧
    (commitPiece g c lug s).logs = s.logs ∧ (commitPiece g c lug s).tally = s.tally ∧
    (commitPiece g c lug s).store = s.store ∧ (commitPiece g c lug s).pending = s.pending := by
  unfold commitPiece; dsimp only; split
  · simp
  · generalize reservationOf _ s _ = bin
    split
    · cases bin <;> simp
    · split
      · rename_i h
        have k := addEntries_frame h
        cases bin <;> simp_all
      · cases bin <;> simp

@[simp] theorem passSaw_frame (lug : LugNo) :
    (passSaw lug s).scan = s.scan ∧ (passSaw lug s).moisture = s.moisture ∧ (passSaw lug s).solver = s.solver ∧
    (passSaw lug s).panels = s.panels ∧ (passSaw lug s).output = s.output ∧ (passSaw lug s).bins = s.bins ∧
    (passSaw lug s).logs = s.logs ∧ (passSaw lug s).line = s.line ∧ (passSaw lug s).store = s.store ∧
    (passSaw lug s).pending = s.pending := by
  unfold passSaw; dsimp only; repeat' split
  all_goals simp

@[simp] theorem turnEntriesOn_frame (e : EncoderId) :
    (turnEntriesOn e s).chain = s.chain ∧ (turnEntriesOn e s).scan = s.scan ∧
    (turnEntriesOn e s).moisture = s.moisture ∧ (turnEntriesOn e s).solver = s.solver ∧
    (turnEntriesOn e s).panels = s.panels ∧ (turnEntriesOn e s).bins = s.bins ∧
    (turnEntriesOn e s).logs = s.logs ∧ (turnEntriesOn e s).tally = s.tally ∧
    (turnEntriesOn e s).governor = s.governor ∧ (turnEntriesOn e s).line = s.line ∧
    (turnEntriesOn e s).link = s.link ∧ (turnEntriesOn e s).store = s.store ∧
    (turnEntriesOn e s).pending = s.pending := by
  simp [turnEntriesOn]

@[simp] theorem endEntries_frame (e : EncoderId) :
    (endEntries e s).chain = s.chain ∧ (endEntries e s).scan = s.scan ∧
    (endEntries e s).moisture = s.moisture ∧ (endEntries e s).solver = s.solver ∧
    (endEntries e s).panels = s.panels ∧ (endEntries e s).bins = s.bins ∧ (endEntries e s).logs = s.logs ∧
    (endEntries e s).tally = s.tally ∧ (endEntries e s).governor = s.governor ∧
    (endEntries e s).line = s.line ∧ (endEntries e s).link = s.link ∧ (endEntries e s).store = s.store ∧
    (endEntries e s).pending = s.pending := by
  simp [endEntries]

@[simp] theorem reroute_frame (b : Nat) (lug : LugNo) :
    (reroute b lug s).scan = s.scan ∧ (reroute b lug s).moisture = s.moisture ∧
    (reroute b lug s).solver = s.solver ∧ (reroute b lug s).panels = s.panels ∧
    (reroute b lug s).logs = s.logs ∧ (reroute b lug s).tally = s.tally ∧
    (reroute b lug s).governor = s.governor ∧ (reroute b lug s).line = s.line ∧
    (reroute b lug s).link = s.link ∧ (reroute b lug s).store = s.store ∧ (reroute b lug s).pending = s.pending := by
  simp [reroute]

@[simp] theorem takeOutOfService_frame (b : Nat) :
    (takeOutOfService b s).scan = s.scan ∧ (takeOutOfService b s).moisture = s.moisture ∧
    (takeOutOfService b s).solver = s.solver ∧ (takeOutOfService b s).panels = s.panels ∧
    (takeOutOfService b s).logs = s.logs ∧ (takeOutOfService b s).tally = s.tally ∧
    (takeOutOfService b s).line = s.line ∧ (takeOutOfService b s).store = s.store ∧
    (takeOutOfService b s).pending = s.pending := by
  simp [takeOutOfService, foldl_keeps State.scan, foldl_keeps State.moisture, foldl_keeps State.solver, foldl_keeps State.panels, foldl_keeps State.logs, foldl_keeps State.tally, foldl_keeps State.line, foldl_keeps State.store, foldl_keeps State.pending]

@[simp] theorem dropPiece_frame (b : Nat) (lug : LugNo) :
    (dropPiece b lug s).scan = s.scan ∧ (dropPiece b lug s).moisture = s.moisture ∧
    (dropPiece b lug s).solver = s.solver ∧ (dropPiece b lug s).panels = s.panels ∧
    (dropPiece b lug s).output = s.output ∧ (dropPiece b lug s).logs = s.logs ∧
    (dropPiece b lug s).line = s.line ∧ (dropPiece b lug s).store = s.store ∧
    (dropPiece b lug s).pending = s.pending := by
  simp [dropPiece]

@[simp] theorem runOutPiece_frame (lug : LugNo) :
    (runOutPiece lug s).scan = s.scan ∧ (runOutPiece lug s).moisture = s.moisture ∧
    (runOutPiece lug s).solver = s.solver ∧ (runOutPiece lug s).panels = s.panels ∧
    (runOutPiece lug s).output = s.output ∧ (runOutPiece lug s).bins = s.bins ∧
    (runOutPiece lug s).logs = s.logs ∧ (runOutPiece lug s).line = s.line ∧
    (runOutPiece lug s).store = s.store ∧ (runOutPiece lug s).pending = s.pending := by
  unfold runOutPiece; split <;> simp

@[simp] theorem onBank_frame (x : BankId) (f : Bank → Bank) :
    (onBank x f s).chain = s.chain ∧ (onBank x f s).scan = s.scan ∧ (onBank x f s).moisture = s.moisture ∧
    (onBank x f s).solver = s.solver ∧ (onBank x f s).panels = s.panels ∧ (onBank x f s).output = s.output ∧
    (onBank x f s).bins = s.bins ∧ (onBank x f s).logs = s.logs ∧ (onBank x f s).tally = s.tally ∧
    (onBank x f s).governor = s.governor ∧ (onBank x f s).line = s.line ∧ (onBank x f s).link = s.link ∧
    (onBank x f s).pending = s.pending := by
  simp [onBank]

@[simp] theorem takeActivation_frame (x : BankId) :
    (takeActivation x s).chain = s.chain ∧ (takeActivation x s).scan = s.scan ∧
    (takeActivation x s).moisture = s.moisture ∧ (takeActivation x s).solver = s.solver ∧
    (takeActivation x s).panels = s.panels ∧ (takeActivation x s).output = s.output ∧
    (takeActivation x s).bins = s.bins ∧ (takeActivation x s).logs = s.logs ∧
    (takeActivation x s).tally = s.tally ∧ (takeActivation x s).line = s.line ∧
    (takeActivation x s).pending = s.pending := by
  unfold takeActivation; cases s.activeBank <;> simp only [Option.elim] <;> (generalize Bank.governorRow _ = r; cases r <;> simp)

@[simp] theorem takePending_frame :
    (takePending s).chain = s.chain ∧ (takePending s).scan = s.scan ∧ (takePending s).moisture = s.moisture ∧
    (takePending s).solver = s.solver ∧ (takePending s).panels = s.panels ∧ (takePending s).output = s.output ∧
    (takePending s).bins = s.bins ∧ (takePending s).logs = s.logs ∧ (takePending s).tally = s.tally ∧
    (takePending s).line = s.line ∧ (takePending s).pending = s.pending := by
  unfold takePending; cases s.store.pendingBank <;> simp

@[simp] theorem abortSequence_frame :
    (abortSequence s).chain = s.chain ∧ (abortSequence s).scan = s.scan ∧
    (abortSequence s).moisture = s.moisture ∧ (abortSequence s).solver = s.solver ∧
    (abortSequence s).panels = s.panels ∧ (abortSequence s).output = s.output ∧
    (abortSequence s).bins = s.bins ∧ (abortSequence s).logs = s.logs ∧ (abortSequence s).tally = s.tally ∧
    (abortSequence s).governor = s.governor ∧ (abortSequence s).line = s.line ∧
    (abortSequence s).link = s.link ∧ (abortSequence s).pending = s.pending := by
  unfold abortSequence; split <;> simp

@[simp] theorem enterHalt_frame (c : HaltCause) :
    (enterHalt c s).scan = s.scan ∧ (enterHalt c s).moisture = s.moisture ∧ (enterHalt c s).solver = s.solver ∧
    (enterHalt c s).panels = s.panels ∧ (enterHalt c s).tally = s.tally ∧ (enterHalt c s).store = s.store ∧
    (enterHalt c s).pending = s.pending := by
  simp [enterHalt]

@[simp] theorem haltingFault_frame (c : HaltCause) :
    (haltingFault c s).scan = s.scan ∧ (haltingFault c s).moisture = s.moisture ∧
    (haltingFault c s).solver = s.solver ∧ (haltingFault c s).panels = s.panels ∧
    (haltingFault c s).tally = s.tally ∧ (haltingFault c s).store = s.store ∧
    (haltingFault c s).pending = s.pending := by
  unfold haltingFault; split <;> simp

@[simp] theorem assertEstop_frame :
    (assertEstop s).scan = s.scan ∧ (assertEstop s).moisture = s.moisture ∧ (assertEstop s).solver = s.solver ∧
    (assertEstop s).panels = s.panels ∧ (assertEstop s).tally = s.tally ∧ (assertEstop s).store = s.store ∧
    (assertEstop s).pending = s.pending := by
  unfold assertEstop; split <;> simp

@[simp] theorem releaseEstop_frame :
    (releaseEstop s).chain = s.chain ∧ (releaseEstop s).scan = s.scan ∧
    (releaseEstop s).moisture = s.moisture ∧ (releaseEstop s).solver = s.solver ∧
    (releaseEstop s).panels = s.panels ∧ (releaseEstop s).output = s.output ∧ (releaseEstop s).bins = s.bins ∧
    (releaseEstop s).logs = s.logs ∧ (releaseEstop s).tally = s.tally ∧
    (releaseEstop s).governor = s.governor ∧ (releaseEstop s).link = s.link ∧
    (releaseEstop s).store = s.store ∧ (releaseEstop s).pending = s.pending := by
  simp [releaseEstop]

@[simp] theorem markPiece_frame (p : PanelId) (lug : LugNo) :
    (markPiece p lug s).chain = s.chain ∧ (markPiece p lug s).scan = s.scan ∧
    (markPiece p lug s).moisture = s.moisture ∧ (markPiece p lug s).solver = s.solver ∧
    (markPiece p lug s).output = s.output ∧ (markPiece p lug s).bins = s.bins ∧
    (markPiece p lug s).logs = s.logs ∧ (markPiece p lug s).tally = s.tally ∧
    (markPiece p lug s).governor = s.governor ∧ (markPiece p lug s).line = s.line ∧
    (markPiece p lug s).link = s.link ∧ (markPiece p lug s).store = s.store ∧
    (markPiece p lug s).pending = s.pending := by
  unfold markPiece; split <;> simp

/-- A view of the state that an action keeps is kept when the action is taken under a condition. -/
theorem onlyIf_keeps {β : Type} (P : State → β) (b : Bool) (f : State → State) (s : State) (h : ∀ t, P (f t) = P t) :
    P (onlyIf b f s) = P s := by
  unfold onlyIf; split
  · exact h s
  · rfl

@[simp] theorem visitStations_frame (g : Geometry) (c : Count) (lug : LugNo) :
    (visitStations g c s lug).logs = s.logs ∧ (visitStations g c s lug).store = s.store ∧
    (visitStations g c s lug).pending = s.pending := by
  unfold visitStations; dsimp only
  generalize dropAt g _ _ lug = d
  cases d <;> simp [onlyIf_keeps State.logs, onlyIf_keeps State.store, onlyIf_keeps State.pending]

@[simp] theorem runStations_frame (c : Count) :
    (runStations c s).logs = s.logs ∧ (runStations c s).store = s.store ∧ (runStations c s).pending = s.pending := by
  unfold runStations; split <;> simp [foldl_keeps State.logs, foldl_keeps State.store, foldl_keeps State.pending]

@[simp] theorem admitPiece_frame (c : Count) (b : Bool) :
    (admitPiece c b s).moisture = s.moisture ∧ (admitPiece c b s).solver = s.solver ∧
    (admitPiece c b s).panels = s.panels ∧ (admitPiece c b s).output = s.output ∧
    (admitPiece c b s).bins = s.bins ∧ (admitPiece c b s).logs = s.logs ∧ (admitPiece c b s).tally = s.tally ∧
    (admitPiece c b s).governor = s.governor ∧ (admitPiece c b s).link = s.link ∧
    (admitPiece c b s).store = s.store ∧ (admitPiece c b s).pending = s.pending := by
  unfold admitPiece; split <;> simp

@[simp] theorem lugAdvance_frame (c : Count) (g b : Bool) :
    (lugAdvance c g b s).logs = s.logs ∧ (lugAdvance c g b s).pending = s.pending := by
  simp [lugAdvance]

@[simp] theorem extraLug_frame :
    (extraLug s).scan = s.scan ∧ (extraLug s).moisture = s.moisture ∧ (extraLug s).solver = s.solver ∧
    (extraLug s).panels = s.panels ∧ (extraLug s).logs = s.logs ∧ (extraLug s).tally = s.tally ∧
    (extraLug s).store = s.store ∧ (extraLug s).pending = s.pending := by
  simp [extraLug]

@[simp] theorem missedLug_frame (g : Geometry) (b : Bool) :
    (missedLug g b s).logs = s.logs ∧ (missedLug g b s).pending = s.pending := by
  simp [missedLug]

@[simp] theorem weighMissed_frame (b : Bool) :
    (weighMissed b s).logs = s.logs ∧ (weighMissed b s).pending = s.pending := by
  unfold weighMissed; repeat' split
  all_goals simp

@[simp] theorem judgeEdge_frame (b : Bool) :
    (judgeEdge b s).logs = s.logs ∧ (judgeEdge b s).pending = s.pending := by
  unfold judgeEdge; repeat' split
  all_goals simp

@[simp] theorem reversal_frame :
    (reversal s).scan = s.scan ∧ (reversal s).moisture = s.moisture ∧ (reversal s).solver = s.solver ∧
    (reversal s).panels = s.panels ∧ (reversal s).logs = s.logs ∧ (reversal s).tally = s.tally ∧
    (reversal s).store = s.store ∧ (reversal s).pending = s.pending := by
  simp [reversal]

@[simp] theorem weighReversal_frame :
    (weighReversal s).scan = s.scan ∧ (weighReversal s).moisture = s.moisture ∧
    (weighReversal s).solver = s.solver ∧ (weighReversal s).panels = s.panels ∧
    (weighReversal s).logs = s.logs ∧ (weighReversal s).tally = s.tally ∧ (weighReversal s).store = s.store ∧
    (weighReversal s).pending = s.pending := by
  unfold weighReversal; repeat' split
  all_goals simp

@[simp] theorem chainTransition_frame (f b : Bool) :
    (chainTransition f b s).logs = s.logs ∧ (chainTransition f b s).pending = s.pending := by
  simp [chainTransition]

@[simp] theorem chainIllegal_frame :
    (chainIllegal s).scan = s.scan ∧ (chainIllegal s).moisture = s.moisture ∧
    (chainIllegal s).solver = s.solver ∧ (chainIllegal s).panels = s.panels ∧
    (chainIllegal s).tally = s.tally ∧ (chainIllegal s).store = s.store ∧ (chainIllegal s).pending = s.pending := by
  simp [chainIllegal]

@[simp] theorem armLockOn_frame :
    (armLockOn s).scan = s.scan ∧ (armLockOn s).moisture = s.moisture ∧ (armLockOn s).solver = s.solver ∧
    (armLockOn s).panels = s.panels ∧ (armLockOn s).output = s.output ∧ (armLockOn s).bins = s.bins ∧
    (armLockOn s).logs = s.logs ∧ (armLockOn s).tally = s.tally ∧ (armLockOn s).line = s.line ∧
    (armLockOn s).store = s.store ∧ (armLockOn s).pending = s.pending := by
  simp [armLockOn]

end Sys2Proof.Machine
end

