-- ==== Sys2Proof/Laws/Line.lean ====
section
/-! SUPPORT. Frames: what each operation of the log path, line control and the supervisor link (Tally, LogInfeed, LineControl, Link) leaves unchanged. -/

namespace Sys2Proof.Machine

variable (s : State)

@[simp] theorem tallyLog_frame (r : LogRecord) (o : LogOutcome) :
    (tallyLog r o s).chain = s.chain ∧ (tallyLog r o s).scan = s.scan ∧
    (tallyLog r o s).moisture = s.moisture ∧ (tallyLog r o s).solver = s.solver ∧
    (tallyLog r o s).panels = s.panels ∧ (tallyLog r o s).output = s.output ∧ (tallyLog r o s).bins = s.bins ∧
    (tallyLog r o s).logs = s.logs ∧ (tallyLog r o s).governor = s.governor ∧ (tallyLog r o s).line = s.line ∧
    (tallyLog r o s).link = s.link ∧ (tallyLog r o s).store = s.store ∧ (tallyLog r o s).pending = s.pending := by
  simp [tallyLog]

@[simp] theorem finishLog_frame (n : LogNo) (o : LogOutcome) (c : Option EndCause) :
    (finishLog n o c s).chain = s.chain ∧ (finishLog n o c s).scan = s.scan ∧
    (finishLog n o c s).moisture = s.moisture ∧ (finishLog n o c s).solver = s.solver ∧
    (finishLog n o c s).panels = s.panels ∧ (finishLog n o c s).output = s.output ∧
    (finishLog n o c s).bins = s.bins ∧ (finishLog n o c s).line = s.line ∧
    (finishLog n o c s).store = s.store ∧ (finishLog n o c s).pending = s.pending := by
  unfold finishLog; split <;> simp

@[simp] theorem finishAtKick_frame (n : LogNo) :
    (finishAtKick n s).chain = s.chain ∧ (finishAtKick n s).scan = s.scan ∧
    (finishAtKick n s).moisture = s.moisture ∧ (finishAtKick n s).solver = s.solver ∧
    (finishAtKick n s).panels = s.panels ∧ (finishAtKick n s).output = s.output ∧
    (finishAtKick n s).bins = s.bins ∧ (finishAtKick n s).line = s.line ∧ (finishAtKick n s).store = s.store ∧
    (finishAtKick n s).pending = s.pending := by
  unfold finishAtKick; split <;> simp

@[simp] theorem weighKicks_frame :
    (weighKicks s).chain = s.chain ∧ (weighKicks s).scan = s.scan ∧ (weighKicks s).moisture = s.moisture ∧
    (weighKicks s).solver = s.solver ∧ (weighKicks s).panels = s.panels ∧ (weighKicks s).output = s.output ∧
    (weighKicks s).bins = s.bins ∧ (weighKicks s).line = s.line ∧ (weighKicks s).store = s.store ∧
    (weighKicks s).pending = s.pending := by
  simp [weighKicks, foldl_keeps State.chain, foldl_keeps State.scan, foldl_keeps State.moisture, foldl_keeps State.solver, foldl_keeps State.panels, foldl_keeps State.output, foldl_keeps State.bins, foldl_keeps State.line, foldl_keeps State.store, foldl_keeps State.pending]

@[simp] theorem finishAllLogs_frame (c : EndCause) :
    (finishAllLogs c s).chain = s.chain ∧ (finishAllLogs c s).scan = s.scan ∧
    (finishAllLogs c s).moisture = s.moisture ∧ (finishAllLogs c s).solver = s.solver ∧
    (finishAllLogs c s).panels = s.panels ∧ (finishAllLogs c s).output = s.output ∧
    (finishAllLogs c s).bins = s.bins ∧ (finishAllLogs c s).line = s.line ∧
    (finishAllLogs c s).store = s.store ∧ (finishAllLogs c s).pending = s.pending := by
  simp [finishAllLogs, foldl_keeps State.chain, foldl_keeps State.scan, foldl_keeps State.moisture, foldl_keeps State.solver, foldl_keeps State.panels, foldl_keeps State.output, foldl_keeps State.bins, foldl_keeps State.line, foldl_keeps State.store, foldl_keeps State.pending]

@[simp] theorem logEncoderFault_frame :
    (logEncoderFault s).chain = s.chain ∧ (logEncoderFault s).scan = s.scan ∧
    (logEncoderFault s).moisture = s.moisture ∧ (logEncoderFault s).solver = s.solver ∧
    (logEncoderFault s).panels = s.panels ∧ (logEncoderFault s).bins = s.bins ∧
    (logEncoderFault s).store = s.store ∧ (logEncoderFault s).pending = s.pending := by
  unfold logEncoderFault; dsimp only; split <;> simp

@[simp] theorem weighLogReversal_frame :
    (weighLogReversal s).chain = s.chain ∧ (weighLogReversal s).scan = s.scan ∧
    (weighLogReversal s).moisture = s.moisture ∧ (weighLogReversal s).solver = s.solver ∧
    (weighLogReversal s).panels = s.panels ∧ (weighLogReversal s).bins = s.bins ∧
    (weighLogReversal s).store = s.store ∧ (weighLogReversal s).pending = s.pending := by
  unfold weighLogReversal; repeat' split
  all_goals simp

@[simp] theorem logTransition_frame (f : Bool) :
    (logTransition f s).chain = s.chain ∧ (logTransition f s).scan = s.scan ∧
    (logTransition f s).moisture = s.moisture ∧ (logTransition f s).solver = s.solver ∧
    (logTransition f s).panels = s.panels ∧ (logTransition f s).bins = s.bins ∧
    (logTransition f s).store = s.store ∧ (logTransition f s).pending = s.pending := by
  simp [logTransition]

@[simp] theorem startLog_frame :
    (startLog s).chain = s.chain ∧ (startLog s).scan = s.scan ∧ (startLog s).moisture = s.moisture ∧
    (startLog s).solver = s.solver ∧ (startLog s).panels = s.panels ∧ (startLog s).output = s.output ∧
    (startLog s).bins = s.bins ∧ (startLog s).tally = s.tally ∧ (startLog s).governor = s.governor ∧
    (startLog s).link = s.link ∧ (startLog s).store = s.store ∧ (startLog s).pending = s.pending := by
  unfold startLog; split <;> simp

@[simp] theorem changeLog_frame (n : LogNo) (f : LogRecord → LogRecord) :
    (changeLog n f s).chain = s.chain ∧ (changeLog n f s).scan = s.scan ∧
    (changeLog n f s).moisture = s.moisture ∧ (changeLog n f s).solver = s.solver ∧
    (changeLog n f s).panels = s.panels ∧ (changeLog n f s).output = s.output ∧
    (changeLog n f s).bins = s.bins ∧ (changeLog n f s).tally = s.tally ∧
    (changeLog n f s).governor = s.governor ∧ (changeLog n f s).line = s.line ∧
    (changeLog n f s).link = s.link ∧ (changeLog n f s).store = s.store ∧ (changeLog n f s).pending = s.pending := by
  simp [changeLog]

@[simp] theorem takeSection_frame (dx dy : Nat) (cx cy : Int) :
    (takeSection dx dy cx cy s).chain = s.chain ∧ (takeSection dx dy cx cy s).scan = s.scan ∧
    (takeSection dx dy cx cy s).moisture = s.moisture ∧ (takeSection dx dy cx cy s).solver = s.solver ∧
    (takeSection dx dy cx cy s).panels = s.panels ∧ (takeSection dx dy cx cy s).output = s.output ∧
    (takeSection dx dy cx cy s).bins = s.bins ∧ (takeSection dx dy cx cy s).tally = s.tally ∧
    (takeSection dx dy cx cy s).governor = s.governor ∧ (takeSection dx dy cx cy s).link = s.link ∧
    (takeSection dx dy cx cy s).store = s.store ∧ (takeSection dx dy cx cy s).pending = s.pending := by
  unfold takeSection; split <;> simp

@[simp] theorem setKick_frame (n : LogNo) (k : KickState) :
    (setKick n k s).chain = s.chain ∧ (setKick n k s).scan = s.scan ∧ (setKick n k s).moisture = s.moisture ∧
    (setKick n k s).solver = s.solver ∧ (setKick n k s).panels = s.panels ∧ (setKick n k s).output = s.output ∧
    (setKick n k s).bins = s.bins ∧ (setKick n k s).tally = s.tally ∧ (setKick n k s).governor = s.governor ∧
    (setKick n k s).line = s.line ∧ (setKick n k s).link = s.link ∧ (setKick n k s).store = s.store ∧
    (setKick n k s).pending = s.pending := by
  simp [setKick]

@[simp] theorem settleKick_frame (r : LogRecord) (d : LogDecision) :
    (settleKick r d s).chain = s.chain ∧ (settleKick r d s).scan = s.scan ∧
    (settleKick r d s).moisture = s.moisture ∧ (settleKick r d s).solver = s.solver ∧
    (settleKick r d s).panels = s.panels ∧ (settleKick r d s).bins = s.bins ∧
    (settleKick r d s).tally = s.tally ∧ (settleKick r d s).governor = s.governor ∧
    (settleKick r d s).link = s.link ∧ (settleKick r d s).store = s.store ∧
    (settleKick r d s).pending = s.pending := by
  unfold settleKick; dsimp only; split
  · simp
  · split
    · simp
    · split
      · simp
      · split
        · simp
        · rename_i h
          have k := addEntries_frame h
          simp_all

@[simp] theorem endLog_frame :
    (endLog s).chain = s.chain ∧ (endLog s).scan = s.scan ∧ (endLog s).moisture = s.moisture ∧
    (endLog s).solver = s.solver ∧ (endLog s).panels = s.panels ∧ (endLog s).bins = s.bins ∧
    (endLog s).tally = s.tally ∧ (endLog s).governor = s.governor ∧ (endLog s).link = s.link ∧
    (endLog s).store = s.store ∧ (endLog s).pending = s.pending := by
  unfold endLog; split <;> simp

@[simp] theorem setHostSilence_frame :
    (setHostSilence s).chain = s.chain ∧ (setHostSilence s).scan = s.scan ∧
    (setHostSilence s).moisture = s.moisture ∧ (setHostSilence s).solver = s.solver ∧
    (setHostSilence s).panels = s.panels ∧ (setHostSilence s).output = s.output ∧
    (setHostSilence s).bins = s.bins ∧ (setHostSilence s).logs = s.logs ∧ (setHostSilence s).tally = s.tally ∧
    (setHostSilence s).line = s.line ∧ (setHostSilence s).store = s.store ∧
    (setHostSilence s).pending = s.pending := by
  simp [setHostSilence]

@[simp] theorem weighHost_frame :
    (weighHost s).chain = s.chain ∧ (weighHost s).scan = s.scan ∧ (weighHost s).moisture = s.moisture ∧
    (weighHost s).solver = s.solver ∧ (weighHost s).panels = s.panels ∧ (weighHost s).output = s.output ∧
    (weighHost s).bins = s.bins ∧ (weighHost s).logs = s.logs ∧ (weighHost s).tally = s.tally ∧
    (weighHost s).line = s.line ∧ (weighHost s).store = s.store ∧ (weighHost s).pending = s.pending := by
  unfold weighHost; repeat' split
  all_goals simp

@[simp] theorem hostHeard_frame :
    (hostHeard s).chain = s.chain ∧ (hostHeard s).scan = s.scan ∧ (hostHeard s).moisture = s.moisture ∧
    (hostHeard s).solver = s.solver ∧ (hostHeard s).panels = s.panels ∧ (hostHeard s).output = s.output ∧
    (hostHeard s).bins = s.bins ∧ (hostHeard s).logs = s.logs ∧ (hostHeard s).tally = s.tally ∧
    (hostHeard s).line = s.line ∧ (hostHeard s).store = s.store ∧ (hostHeard s).pending = s.pending := by
  simp [hostHeard]

@[simp] theorem setLine_frame (st : LineState) :
    (setLine st s).chain = s.chain ∧ (setLine st s).scan = s.scan ∧ (setLine st s).moisture = s.moisture ∧
    (setLine st s).solver = s.solver ∧ (setLine st s).panels = s.panels ∧ (setLine st s).output = s.output ∧
    (setLine st s).bins = s.bins ∧ (setLine st s).logs = s.logs ∧ (setLine st s).tally = s.tally ∧
    (setLine st s).link = s.link ∧ (setLine st s).store = s.store ∧ (setLine st s).pending = s.pending := by
  simp [setLine]

@[simp] theorem enterStandby_frame :
    (enterStandby s).scan = s.scan ∧ (enterStandby s).solver = s.solver ∧ (enterStandby s).panels = s.panels ∧
    (enterStandby s).output = s.output ∧ (enterStandby s).bins = s.bins ∧ (enterStandby s).logs = s.logs ∧
    (enterStandby s).tally = s.tally ∧ (enterStandby s).store = s.store ∧ (enterStandby s).pending = s.pending := by
  simp [enterStandby]

@[simp] theorem enterIdle_frame :
    (enterIdle s).scan = s.scan ∧ (enterIdle s).moisture = s.moisture ∧ (enterIdle s).solver = s.solver ∧
    (enterIdle s).panels = s.panels ∧ (enterIdle s).output = s.output ∧ (enterIdle s).bins = s.bins ∧
    (enterIdle s).logs = s.logs ∧ (enterIdle s).tally = s.tally ∧ (enterIdle s).pending = s.pending := by
  simp [enterIdle]

@[simp] theorem leaveHalt_frame :
    (leaveHalt s).chain = s.chain ∧ (leaveHalt s).scan = s.scan ∧ (leaveHalt s).moisture = s.moisture ∧
    (leaveHalt s).solver = s.solver ∧ (leaveHalt s).panels = s.panels ∧ (leaveHalt s).output = s.output ∧
    (leaveHalt s).bins = s.bins ∧ (leaveHalt s).logs = s.logs ∧ (leaveHalt s).tally = s.tally ∧
    (leaveHalt s).link = s.link ∧ (leaveHalt s).store = s.store ∧ (leaveHalt s).pending = s.pending := by
  simp [leaveHalt]

@[simp] theorem clearCounters_frame :
    (clearCounters s).chain = s.chain ∧ (clearCounters s).solver = s.solver ∧
    (clearCounters s).output = s.output ∧ (clearCounters s).bins = s.bins ∧ (clearCounters s).logs = s.logs ∧
    (clearCounters s).tally = s.tally ∧ (clearCounters s).governor = s.governor ∧
    (clearCounters s).store = s.store ∧ (clearCounters s).pending = s.pending := by
  simp [clearCounters]

@[simp] theorem losePiece_frame (lug : LugNo) :
    (losePiece s lug).scan = s.scan ∧ (losePiece s lug).moisture = s.moisture ∧
    (losePiece s lug).solver = s.solver ∧ (losePiece s lug).output = s.output ∧
    (losePiece s lug).logs = s.logs ∧ (losePiece s lug).line = s.line ∧ (losePiece s lug).store = s.store ∧
    (losePiece s lug).pending = s.pending := by
  unfold losePiece; generalize Option.bind _ _ = o; cases o <;> simp

@[simp] theorem finishAll_frame :
    (finishAll s).scan = s.scan ∧ (finishAll s).moisture = s.moisture ∧ (finishAll s).solver = s.solver ∧
    (finishAll s).output = s.output ∧ (finishAll s).line = s.line ∧ (finishAll s).store = s.store ∧
    (finishAll s).pending = s.pending := by
  simp [finishAll, foldl_keeps State.scan, foldl_keeps State.moisture, foldl_keeps State.solver, foldl_keeps State.output, foldl_keeps State.line, foldl_keeps State.store, foldl_keeps State.pending]

@[simp] theorem resetBlocks_frame :
    (resetBlocks s).scan = s.scan ∧ (resetBlocks s).output = s.output ∧ (resetBlocks s).bins = s.bins ∧
    (resetBlocks s).logs = s.logs ∧ (resetBlocks s).tally = s.tally ∧ (resetBlocks s).governor = s.governor ∧
    (resetBlocks s).line = s.line ∧ (resetBlocks s).link = s.link ∧ (resetBlocks s).pending = s.pending := by
  simp [resetBlocks]

@[simp] theorem resetLine_frame :
    (resetLine s).chain = s.chain ∧ (resetLine s).scan = s.scan ∧ (resetLine s).moisture = s.moisture ∧
    (resetLine s).solver = s.solver ∧ (resetLine s).panels = s.panels ∧ (resetLine s).output = s.output ∧
    (resetLine s).bins = s.bins ∧ (resetLine s).logs = s.logs ∧ (resetLine s).tally = s.tally ∧
    (resetLine s).link = s.link ∧ (resetLine s).store = s.store ∧ (resetLine s).pending = s.pending := by
  simp [resetLine]

@[simp] theorem lineResetState_frame :
    (lineResetState s).scan = s.scan ∧ (lineResetState s).pending = s.pending := by
  simp [lineResetState]

@[simp] theorem takeGeometry_frame (g : Geometry) :
    (takeGeometry g s).chain = s.chain ∧ (takeGeometry g s).scan = s.scan ∧
    (takeGeometry g s).moisture = s.moisture ∧ (takeGeometry g s).solver = s.solver ∧
    (takeGeometry g s).output = s.output ∧ (takeGeometry g s).bins = s.bins ∧
    (takeGeometry g s).logs = s.logs ∧ (takeGeometry g s).tally = s.tally ∧ (takeGeometry g s).line = s.line ∧
    (takeGeometry g s).pending = s.pending := by
  simp [takeGeometry]

@[simp] theorem replySent_frame (r : Reply) :
    (replySent r s).chain = s.chain ∧ (replySent r s).moisture = s.moisture ∧
    (replySent r s).solver = s.solver ∧ (replySent r s).panels = s.panels ∧ (replySent r s).output = s.output ∧
    (replySent r s).bins = s.bins ∧ (replySent r s).logs = s.logs ∧ (replySent r s).tally = s.tally ∧
    (replySent r s).governor = s.governor ∧ (replySent r s).line = s.line ∧ (replySent r s).store = s.store ∧
    (replySent r s).pending = s.pending := by
  unfold replySent; repeat' split
  all_goals simp

@[simp] theorem transmitDone_frame :
    (transmitDone s).chain = s.chain ∧ (transmitDone s).moisture = s.moisture ∧
    (transmitDone s).solver = s.solver ∧ (transmitDone s).panels = s.panels ∧
    (transmitDone s).output = s.output ∧ (transmitDone s).bins = s.bins ∧ (transmitDone s).logs = s.logs ∧
    (transmitDone s).tally = s.tally ∧ (transmitDone s).line = s.line ∧ (transmitDone s).store = s.store ∧
    (transmitDone s).pending = s.pending := by
  unfold transmitDone; split <;> simp

@[simp] theorem setReceiver_frame (p : Port) (r : Receiver) :
    (setReceiver p r s).chain = s.chain ∧ (setReceiver p r s).scan = s.scan ∧
    (setReceiver p r s).moisture = s.moisture ∧ (setReceiver p r s).solver = s.solver ∧
    (setReceiver p r s).panels = s.panels ∧ (setReceiver p r s).output = s.output ∧
    (setReceiver p r s).bins = s.bins ∧ (setReceiver p r s).logs = s.logs ∧
    (setReceiver p r s).tally = s.tally ∧ (setReceiver p r s).governor = s.governor ∧
    (setReceiver p r s).line = s.line ∧ (setReceiver p r s).store = s.store ∧
    (setReceiver p r s).pending = s.pending := by
  simp [setReceiver]

@[simp] theorem receiveRequest_frame (f : Frame) :
    (receiveRequest f s).chain = s.chain ∧ (receiveRequest f s).scan = s.scan ∧
    (receiveRequest f s).moisture = s.moisture ∧ (receiveRequest f s).solver = s.solver ∧
    (receiveRequest f s).panels = s.panels ∧ (receiveRequest f s).output = s.output ∧
    (receiveRequest f s).bins = s.bins ∧ (receiveRequest f s).logs = s.logs ∧
    (receiveRequest f s).tally = s.tally ∧ (receiveRequest f s).line = s.line ∧
    (receiveRequest f s).store = s.store ∧ (receiveRequest f s).pending = s.pending := by
  unfold receiveRequest; dsimp only; repeat' split
  all_goals simp

@[simp] theorem takeLogFrame_frame (f : Frame) :
    (takeLogFrame f s).chain = s.chain ∧ (takeLogFrame f s).scan = s.scan ∧
    (takeLogFrame f s).moisture = s.moisture ∧ (takeLogFrame f s).solver = s.solver ∧
    (takeLogFrame f s).panels = s.panels ∧ (takeLogFrame f s).bins = s.bins ∧
    (takeLogFrame f s).tally = s.tally ∧ (takeLogFrame f s).governor = s.governor ∧
    (takeLogFrame f s).store = s.store ∧ (takeLogFrame f s).pending = s.pending := by
  unfold takeLogFrame; repeat' split
  all_goals simp

end Sys2Proof.Machine
end

