-- ==== Sys2Proof/Laws/Notices.lean ====
section
/-! SUPPORT. What a notice, a reply and the taking of a request do to the link and the governor, said once. -/

namespace Sys2Proof.Machine

variable (s : State)

/-- Weighing notice pressure changes notice pressure alone. -/
theorem weighPressure_onlyPressure (n : Nat) : OnlyPressure s (weighPressure n s) := by
  unfold OnlyPressure weighPressure
  repeat' split
  all_goals simp [State.onGovernor]

theorem OnlyPressure.refl : OnlyPressure s s := rfl

theorem OnlyPressure.trans {s t u : State} (h : OnlyPressure s t) (k : OnlyPressure t u) : OnlyPressure s u := by
  unfold OnlyPressure at *; rw [k, h]

/-- The link after the arbiter, when the transmitter is free. -/
theorem arbitrate_link_free (h : s.link.sending = none) : (arbitrate s).link = s.link.next := by
  obtain ⟨⟩ := s
  rename_i link _ _
  obtain ⟨_, _, _, replies, notices, _, sending, _, _, _, _, _⟩ := link
  simp only at h
  subst h
  cases replies <;> cases notices <;> simp [arbitrate, Link.next, State.onLink]

theorem arbitrate_busy {x : Sending} (h : s.link.sending = some x) : arbitrate s = s := by
  unfold arbitrate; rw [h]

theorem arbitrate_onlyPressure : OnlyPressure s (arbitrate s) := by
  unfold arbitrate
  repeat' split
  · exact .refl _
  · rfl
  · exact OnlyPressure.trans (t := s.onLink _) rfl (weighPressure_onlyPressure _ _)
  · exact .refl _

/-- A notice made, seen from the link (R174, R175). -/
theorem queueNotice_link (n : Notice) : (queueNotice n s).link = s.link.noticed n := by
  unfold queueNotice Link.noticed noticeMax
  by_cases h : s.link.notices.length < 64
  · rw [if_pos h, if_neg (by omega)]
    cases hs : s.link.sending with
    | some x =>
      rw [arbitrate_busy (x := x)] <;> simp [State.onLink, hs]
    | none =>
      rw [arbitrate_link_free _ (by simp [State.onLink, hs])]
      simp only [weighPressure_frame]
      unfold Link.next
      cases hr : s.link.replies <;> cases hn : s.link.notices <;> simp [State.onLink, hr, hn]
  · rw [if_neg h, if_pos (by omega)]; rfl

/-- A notice made changes nothing of the governor but notice pressure (R157). -/
theorem queueNotice_onlyPressure (n : Notice) : OnlyPressure s (queueNotice n s) := by
  unfold queueNotice
  dsimp only
  split
  · exact .trans (.trans (t := s.onLink _) rfl (weighPressure_onlyPressure _ _)) (arbitrate_onlyPressure _)
  · rfl

theorem lineEvent_link (k : LineEventKind) (c : Option EventCause) (l : Option LineState) :
    (lineEvent k c l s).link = s.link.noticed (.lineEvent k c s.line.state l s.chain.lug s.chain.goodRun) :=
  queueNotice_link _ _

theorem lineEvent_onlyPressure (k : LineEventKind) (c : Option EventCause) (l : Option LineState) :
    OnlyPressure s (lineEvent k c l s) := queueNotice_onlyPressure _ _

/-- A notice leaves what a request is judged by as it is. -/
theorem Link.noticed_keeps (l : Link) (n : Notice) :
    (l.noticed n).receivers = l.receivers ∧ (l.noticed n).requests = l.requests ∧ (l.noticed n).taken = l.taken ∧
    (l.noticed n).replies = l.replies ∧ (l.noticed n).timer = l.timer ∧ (l.noticed n).silent = l.silent ∧
    (l.noticed n).rate = l.rate ∧ (l.noticed n).frameErrors = l.frameErrors := by
  unfold Link.noticed; dsimp only; repeat' split
  all_goals simp

theorem Link.noticed_taken (l : Link) (n : Notice) (b : Bool) :
    ({ l with taken := b } : Link).noticed n = { l.noticed n with taken := b } := by
  unfold Link.noticed; dsimp only; repeat' split
  all_goals simp_all

/-- A reply of a request made, seen from the link (R173, R174). -/
theorem makeReply_link (r : Frame) (h : s.link.taken = true) :
    (makeReply ⟨r, true⟩ s).link = s.link.replied r := by
  unfold makeReply Link.replied
  cases hs : s.link.sending with
  | some x => rw [arbitrate_busy (x := x)] <;> simp [State.onLink, hs, h]
  | none =>
    rw [arbitrate_link_free _ (by simp [State.onLink, hs])]
    unfold Link.next
    cases hr : s.link.replies <;> simp [State.onLink, hr, h]

theorem makeReply_governor (r : Reply) : (makeReply r s).governor = s.governor := by
  unfold makeReply
  cases hs : s.link.sending with
  | some x => rw [arbitrate_busy (x := x)] <;> simp [State.onLink, hs]
  | none =>
    unfold arbitrate
    cases hr : s.link.replies <;> simp [State.onLink, hs, hr]

/-- A reply made on a state whose oldest request is taken. -/
theorem makeReply_eq (r : Frame) (h : s.link.taken = true) :
    makeReply ⟨r, true⟩ s = { s with link := s.link.replied r } := by
  have hl := makeReply_link s r h
  have hg := makeReply_governor s ⟨r, true⟩
  have hf := makeReply_frame s ⟨r, true⟩
  obtain ⟨h1, h2, h3, h4, h5, h6, h7, h8, h9, h10, h11, h12⟩ := hf
  cases hm : makeReply ⟨r, true⟩ s
  simp_all

/-- The reply is made to a link with the oldest request taken, whatever its mark said. -/
theorem Link.replied_taken (l : Link) (r : Frame) (b : Bool) : ({ l with taken := b } : Link).replied r = l.replied r :=
  rfl

/-- A request's command, when it is the oldest request and waits (R173, log 2): the request judged whole on the state with
the oldest request taken, and its reply made. -/
theorem offerRequest_waiting (kind tag : Byte) (body : List Byte) (h : Waiting s ⟨kind, tag, body⟩) :
    offerRequest kind tag body s =
      (let v := judgeRequest ⟨kind, tag, body⟩ (s.onLink fun l => { l with taken := true })
       makeReply ⟨Frame.reply ⟨kind, tag, body⟩ v.status v.content, true⟩ v.state) := by
  unfold offerRequest State.waiting
  simp [h.1, h.2, takeRequest]

end Sys2Proof.Machine
end

