-- ==== Sys2Proof/Laws/Specs.lean ====
section
/-! SUPPORT. What each shared operation answers, said once: requests, forced holds, the permit record, the
calibration, bins, the schedule and the piece records. -/

namespace Sys2Proof.Machine

/-- Two states are equal when each of their blocks is. -/
theorem State.eq_of_blocks {s t : State} (chain : s.chain = t.chain) (scan : s.scan = t.scan)
    (moisture : s.moisture = t.moisture) (solver : s.solver = t.solver) (panels : s.panels = t.panels)
    (output : s.output = t.output) (bins : s.bins = t.bins) (logs : s.logs = t.logs) (tally : s.tally = t.tally)
    (governor : s.governor = t.governor) (line : s.line = t.line) (link : s.link = t.link) (store : s.store = t.store)
    (pending : s.pending = t.pending) : s = t := by
  cases s; cases t; simp_all

/-! ### Requests (R173) -/

/-- The state in which a request is served: the oldest request is taken. -/
abbrev State.serving (s : State) : State := s.onLink fun l => { l with taken := true }

/-- A request of the length its kind requires, waiting as the oldest, is served and its reply made. -/
theorem request_served (r : Request) (tag : Byte) (body : List Byte) (s : State) (h : Waiting s ⟨r.code, tag, body⟩)
    (hl : r.lengthOk body = true) :
    request r tag body s =
      (let v := serve r body s.serving
       makeReply ⟨⟨r.code + 0x80, tag, put1 v.status.code ++ v.content⟩, true⟩ v.state) := by
  unfold request
  rw [offerRequest_waiting _ _ _ _ h]
  have h1 : Request.ofCode r.code = some r := by cases r <;> rfl
  have h2 : replyKind r.code = r.code + 0x80 := by cases r <;> rfl
  simp [judgeRequest, h1, hl, Frame.reply, h2]

/-- A request whose serving answers `t` ends as `t` with the reply made. -/
theorem request_replied (r : Request) (tag : Byte) (body : List Byte) (s : State) (h : Waiting s ⟨r.code, tag, body⟩)
    (hl : r.lengthOk body = true) (st : Status) (content : List Byte) (t : State)
    (hs : serve r body s.serving = ⟨t, st, content⟩) (ht : t.link.taken = true) :
    request r tag body s =
      { t with link := t.link.replied ⟨r.code + 0x80, tag, put1 st.code ++ content⟩ } := by
  rw [request_served r tag body s h hl, hs]
  exact makeReply_eq _ _ ht

/-- A request whose serving changes nothing changes the link alone. -/
theorem request_reads (r : Request) (tag : Byte) (body : List Byte) (s : State) (h : Waiting s ⟨r.code, tag, body⟩)
    (hl : r.lengthOk body = true) (st : Status) (content : List Byte)
    (hs : serve r body s.serving = ⟨s.serving, st, content⟩) :
    request r tag body s =
      { s with link := s.link.replied ⟨r.code + 0x80, tag, put1 st.code ++ content⟩ } := by
  rw [request_replied r tag body s h hl st content _ hs rfl]; rfl

/-! ### The bytes of a word (11.5) -/

/-- A word of 16 bits is sent high byte first. -/
theorem put2_word (v : BitVec 16) : put2 v.toNat = [(v >>> 8).setWidth 8, v.setWidth 8] := by
  simp only [put2, put1, List.cons_append, List.nil_append, List.cons.injEq, and_true]
  constructor
  · apply BitVec.eq_of_toNat_eq; simp [Nat.shiftRight_eq_div_pow]
  · apply BitVec.eq_of_toNat_eq; simp

/-- Two bytes read high byte first are the word they spell. -/
theorem word_of_bytes (hi lo : Byte) : BitVec.ofNat 16 (hi.toNat * 256 + lo.toNat) = hi ++ lo := by
  apply BitVec.eq_of_toNat_eq
  have h1 := hi.isLt
  have h2 := lo.isLt
  rw [BitVec.toNat_append, ← Nat.shiftLeft_add_eq_or_of_lt h2, Nat.shiftLeft_eq, BitVec.toNat_ofNat]
  omega

/-! ### Forced holds (R156) -/

/-- Weighing the causes of forced hold changes the governor alone. -/
theorem weighHold_eq (s : State) : weighHold s = { s with governor := s.governor.held s.holdCauses } := by
  unfold weighHold Governor.held
  by_cases h1 : s.holdCauses.any = true <;> by_cases h2 : s.governor.causes.any = true <;>
    simp [h1, h2, State.onGovernor]

/-- No hold begins where one already stands: the causes change and nothing else. -/
theorem Governor.held_no_new (g : Governor) (now : HoldCauses) (h : now.any = true → g.causes.any = true) :
    g.held now = { g with causes := now } := by
  unfold Governor.held
  rw [if_neg]
  rintro ⟨h1, h2⟩
  simp_all

theorem Governor.held_self (g : Governor) : g.held g.causes = g := Governor.held_no_new g _ id

/-! ### The permit record and the calibration (R155, R42) -/

/-- An emptied permit record takes every lug number as WITHHELD. -/
theorem Governor.given_emptied (g : Governor) (lug : LugNo) (h : g.record = []) : g.given lug = false := by
  unfold Governor.given; rw [h]; rfl

/-- The decision just recorded for a lug number is found where it is GIVEN. -/
theorem Governor.given_permitFor (g : Governor) (lug : LugNo) : (g.permitFor lug true).given lug = true := by
  have h : g.record.length - 1 ≤ g.record.length := by omega
  simp [Governor.given, Governor.permitFor, List.drop_append_of_le_length h]

/-- A channel of a loaded MOISTURE table is calibrated by its row. -/
theorem Bank.calibrated_loaded (b : Bank) (c raw : Nat) (r : ChannelRow) (hl : b.moisture.loaded = true)
    (hr : b.channel c = some r) : b.calibrated c raw = calibrate r b.moistureCommon.1 raw := by
  unfold Bank.calibrated; rw [hl, hr]

/-- With the table unloaded, or with no such channel in it, the calibrated value is free (log 32). -/
theorem Bank.calibrated_open (b : Bank) (c raw : Nat) (h : b.moisture.loaded = false ∨ b.channel c = none) :
    b.calibrated c raw = Config.openCalibration c raw := by
  unfold Bank.calibrated
  rcases h with h | h <;> rw [h]
  cases b.moisture.loaded <;> rfl

/-! ### Bins (R112, R113) -/

/-- Changing one place that is there sets it. -/
theorem setAt_eq_set {α : Type} (l : List α) (i : Nat) (f : α → α) (a : α) (h : l[i]? = some a) :
    setAt l i f = l.set i (f a) := by
  unfold setAt
  apply List.ext_getElem?
  intro k
  rw [List.getElem?_modify]
  by_cases hk : i = k
  · subst hk
    rw [List.getElem?_set_self (List.getElem?_eq_some_iff.mp h).1, h]
    simp
  · rw [List.getElem?_set_ne hk]; simp [hk]

/-- Weighing a bin's full flag: the bin with its flag as its figures give it, a BIN_EVENT when that changed, and what the
notice does to notice pressure; nothing else. -/
theorem weighBin_spec (i : Nat) (cause : BinCause) (s : State) (b : Bin) (hb : s.bins[i]? = some b) :
    (weighBin i cause s).bins = s.bins.set i { b with full := b.fullNow } ∧
    (weighBin i cause s).link = s.binLink i b { b with full := b.fullNow } cause ∧
    OnlyPressure s (weighBin i cause s) ∧
    weighBin i cause s = { s with bins := (weighBin i cause s).bins, link := (weighBin i cause s).link,
                                  governor := (weighBin i cause s).governor } := by
  unfold weighBin
  rw [hb]
  dsimp only
  by_cases hh : b.fullNow = b.full
  · rw [if_pos hh, hh]
    refine ⟨?_, by simp [State.binLink, Link.binNoticed], rfl, rfl⟩
    obtain ⟨hi, rfl⟩ := List.getElem?_eq_some_iff.mp hb
    exact (List.set_getElem_self hi).symm
  · rw [if_neg hh]
    refine ⟨by simp, ?_, queueNotice_onlyPressure (s.onBins _) _, ?_⟩
    · rw [queueNotice_link, State.binLink, Link.binNoticed, if_neg hh]; rfl
    · apply State.eq_of_blocks <;> simp

theorem weighBin_absent (i : Nat) (cause : BinCause) (s : State) (hb : s.bins[i]? = none) : weighBin i cause s = s := by
  unfold weighBin; rw [hb]

/-! ### The schedule (R102, R103) -/

/-- A request to add entries is refused whole in HALT or where it would pass the 48, and taken whole otherwise. -/
theorem addEntries_none (enc : EncoderId) (es : List Entry) (s : State) :
    addEntries enc es s = none ↔ s.line.state = .halt ∨ 48 < s.output.held + es.length := by
  unfold addEntries scheduleMax; split <;> simp_all

/-- An entry joins the entries without displacing any. -/
theorem insertEntry_perm (e : Entry) (l : List Entry) : (insertEntry e l).Perm (e :: l) := by
  induction l with
  | nil => exact .refl _
  | cons x xs ih =>
    rw [insertEntry]; split
    · exact .refl _
    · exact (ih.cons x).trans (.swap e x xs)

/-! ### Piece records (R16) -/

/-- A change of a record that keeps its lug number is the change of what is found under that number. -/
theorem changeFirst_find {α : Type} (p : α → Bool) (f : α → α) (h : ∀ a, p (f a) = p a) (l : List α) :
    (changeFirst p f l).find? p = (l.find? p).map f := by
  induction l with
  | nil => rfl
  | cons a l ih =>
    by_cases ha : p a = true
    · simp [changeFirst, ha, h]
    · simp [changeFirst, ha, ih]

end Sys2Proof.Machine
end

