-- ==== Sys2Proof/WellFormed.lean ====
section
/-! DEFINITION. The commands whose operands are those of their row: frame bodies of at most 512 bytes, and the bodies
that make an UNKNOWN_KIND, a MALFORMED_OVERRIDE and a BIN_COMMAND of the table's own kind. The meanings are total all
the same. -/

namespace Sys2Proof.WellFormed

/-- A frame body holds at most 512 bytes (R172). -/
def bodyFits (body : List Byte) : Bool := decide (body.length ≤ 512)

/-- The kind names none of the seventeen requests (R173). -/
def kindUnknown (kind : Byte) : Bool := (Machine.Request.ofCode kind).isNone

/-- An OVERRIDE body is malformed: its length is not 4, or its kind code names none of the six kinds (R80). -/
def overrideMalformed (body : List Byte) : Bool :=
  body.length != 4 || (Machine.overrideKindOfCode (Machine.byteAt body 2)).isNone

/-- A BIN_COMMAND body is of the wrong length, or its action code names none of the five actions (R114). -/
def binMalformed (body : List Byte) : Bool :=
  body.length != 4 || (Machine.binActionOfCode (Machine.byteAt body 1)).isNone

/-- A command is well formed. -/
def instr : Instr → Bool
  | .fullReset _ _ _ | .chainLegalTransition _ _ | .chainIllegalTransition | .encoderErrorCleared
  | .reversalHoldEnd | .lugEdge _ | .lugMissed _ | .estop | .estopRelease | .entryOn _ | .entryEnd _ => true
  | .segment _ body => bodyFits body
  | .moistureConversionComplete _ | .solveStart | .solveComplete | .hello _ _ | .panelTimeout _
  | .gradeSet _ _ _ _ | .gradeDown _ _ _ _ | .lengthLimit _ _ _ _ | .slash _ _ _ _ | .regrade _ _ _ _
  | .cancel _ _ _ _ | .panelFrameSent _ | .logLegalTransition _ | .logIllegalTransition | .kickPoint | .logStart
  | .logSection _ _ _ _ | .logEnd | .frameByte _ _ | .interByteTimeout _ => true
  | .requestReceived _ _ body => bodyFits body
  | .hostSilenceSet | .transmitComplete => true
  | .unknownKind kind _ body => kindUnknown kind && bodyFits body
  | .identify _ body | .status _ body | .lineState _ body | .lineReset _ body | .geometryWrite _ body
  | .tableWrite _ body | .bankActivate _ body | .bankStatus _ body => bodyFits body
  | .setCapacity _ _ _ | .binOpen _ _ _ | .binClose _ _ _ | .emptied _ _ _ | .outOfService _ _ _ => true
  | .pieceQuery _ body | .lastProfile _ body | .clearSuspect _ body | .clearHalt _ body | .tallyRead _ body
  | .tallyClose _ body | .snapshotRead _ body | .snapshotRelease _ body => bodyFits body
  | .malformedOverride _ _ body => overrideMalformed body && bodyFits body
  | .binCommand _ body => binMalformed body && bodyFits body

end Sys2Proof.WellFormed
end

