-- ==== Sys2Proof/Tests/Slice0.lean ====
section
/-! SUPPORT. Tests: ill-formed commands refused, worked examples of the spec, and for each statement of Obligations.lean
that has hypotheses a state and operands that meet them. -/

namespace Sys2Proof.Tests

open Sys2Proof Sys2Proof.Machine

/-! ### Well-formed commands: one that each check refuses beside one it takes -/

theorem test_wf_long_body_refused :
    WellFormed.instr (.identify 0 (List.replicate 513 0)) = false ∧
      WellFormed.instr (.tableWrite 0 (List.replicate 512 0)) = true := by
  decide +kernel

theorem test_wf_known_kind_refused :
    WellFormed.instr (.unknownKind 0x11 0 []) = false ∧ WellFormed.instr (.unknownKind 0x12 0 []) = true := by
  decide +kernel

theorem test_wf_good_override_refused :
    WellFormed.instr (.malformedOverride .p1 0 [0, 5, 5, 0]) = false ∧
      WellFormed.instr (.malformedOverride .p1 0 [0, 5, 6, 0]) = true := by decide +kernel

theorem test_wf_good_bin_command_refused :
    WellFormed.instr (.binCommand 0 [3, 4, 0, 0]) = false ∧ WellFormed.instr (.binCommand 0 [3, 5, 0, 0]) = true := by
  decide +kernel

/-! ### The frame check and the words (R172, log 30) -/

/-- The known check value of this remainder, begun with all ones, over the nine digits. -/
theorem test_crc_of_digits : crc16 [0x31, 0x32, 0x33, 0x34, 0x35, 0x36, 0x37, 0x38, 0x39] = 0x29B1 := by decide +kernel

theorem test_no_word_spells_a_command : decodeTableWord 8 0x04 = none := rfl

/-! ### Worked examples of the spec -/

/-- The samples of the log measured in chapter 7. -/
def logSamples : List Sample :=
  [⟨0, 120, 110, 0, 10⟩, ⟨12, 118, 112, 14, 6⟩, ⟨24, 116, 110, 25, 4⟩, ⟨36, 114, 108, 30, -5⟩, ⟨48, 112, 106, 30, -7⟩]

/-- Chapter 7, a log measured: length 49, ends 115 and 109, SED 109 at the last end, class 10, volume 2,772, sweep 10. -/
theorem test_log_figures : figuresOf 49 logSamples = ⟨49, 115, 109, 109, 115, true, some 10, 2772, 10⟩ := by
  decide +kernel

/-- Chapter 7, a log measured: not GAPPED with a spacing of 12. -/
theorem test_log_not_gapped : isGapped 12 49 logSamples = false := by decide +kernel

/-- Chapter 2, moisture readings: raw 2048, 3000 and 4095 with R 10, and the clamp of the gain of 2000. -/
theorem test_moisture_results :
    calibrate ⟨0, 51, 400, 20⟩ 10 2048 = 220 ∧ calibrate ⟨0, 51, 380, 0⟩ 10 3000 = 278 ∧
      calibrate ⟨0, 51, 400, 20⟩ 10 4095 = 419 ∧ calibrate ⟨0, 51, 2000, 20⟩ 10 4095 = 2018 ∧
      clampMoisture 2018 = 600 := by decide +kernel

/-- Chapter 5, fire times: saw 1 and gate 5 of lug 3000 committed at 1,000,000 (P 2,000, C 10, S 12). -/
theorem test_fire_times :
    let g := { Geometry.ofItems [] with
      pitch := 2000, commit := 10, sawLine := 12, sawLead := 600, fireWidth := 800, gateLead := 900, gateWidth := 1500
      drops := [0, 0, 0, 0, 0, 20] }
    (sawEntry g 1000000 3000 1).start = 1003400 ∧ (sawEntry g 1000000 3000 1).stop = 1004200 ∧
      (gateEntry g 1000000 3000 5).start = 1019100 ∧ (gateEntry g 1000000 3000 5).stop = 1020600 := by decide +kernel

/-- Chapter 5, fire times: a last PRESENT cell 33 gives saws 0 to 8. -/
theorem test_slash_set :
    slashSet (List.replicate 34 (.present 100 180 0 0) ++ List.replicate 18 .absent) = List.range 9 := by decide +kernel

/-- R148: with no accepted log volume the recovery is 0 and NO_LOG_VOLUME is set. -/
theorem test_recovery_without_logs : (Period.fresh 1).recovery = ⟨0, 0, 0, true, false, false⟩ := by decide +kernel

/-- 00_scope.md 6.2: the comparison of counts wraps. -/
theorem test_reached_wraps : reached 5 0xFFFFFFF0 = true ∧ reached 0xFFFFFFF0 5 = false := by decide +kernel

/-! ### States for the witnesses -/

/-- A geometry set in range: pitch 256, tolerances 16 and 8, commit 10, saw line 14, drop offsets 16 to 63, run-out 70. -/
def geo : Geometry :=
  Geometry.ofItems ([256, 16, 8, 8, 3, 1, 5, 6, 10, 14, 32, 40] ++ (List.range 48).map (fun b => 16 + b) ++
    [20, 60, 70, 10, 5, 4, 600, 200, 400, 12])

/-- An active bank with the rows that the witnesses read. -/
def bank : Bank :=
  { Bank.reset with
    state := .active
    headmap := ⟨true, [some (0, 6), some (7, 13)]⟩
    size := ⟨true, [some ⟨8, 90⟩, none, none, none, none, none, none, none, some ⟨6, 170⟩]⟩
    grade := ⟨true, [.code (some ⟨8, 8, 0x7E, 8, 52, 600⟩), .code none, .code none, .code none, .code none, .code none,
      .code none, .common 4 false]⟩
    price := ⟨true, List.replicate 200 480⟩
    sort := ⟨true, List.replicate 12 ⟨some 5, none⟩⟩
    moisture := ⟨true, [.channel (some ⟨0, 51, 400, 20⟩), .channel none, .channel none, .channel none, .common 10 4]⟩
    log := ⟨true, [⟨36, 480, 80, 300, 8⟩]⟩
    governor := ⟨true, [⟨0, 6, 20, 2, 1, 12, 6, 3, 3⟩]⟩ }

/-- The line in RUN on lug 20, an edge due: the count 1,000 lies in the window of c0 = 744. -/
def runState : State :=
  { State.reset with
    chain := { State.reset.chain with count := 1000, highest := 1000, c0 := 744, lug := 20 }
    line := { State.reset.line with state := .run }
    governor := { State.reset.governor with causes := ⟨false, false, false, false⟩, remaining := 1 }
    store := { State.reset.store with geometry := some geo, bankA := bank } }

/-- A piece of lug `lug` as admitted. -/
def piece (lug : LugNo) : Piece := Piece.admitted lug 500 .a none

/-- The line with the pieces given. -/
def withPieces (ps : List Piece) (s : State) : State := s.onChain fun c => { c with pieces := ps }

/-- The state with a request as the oldest, not yet taken. -/
def waitingFor (f : Frame) (s : State) : State := s.onLink fun l => { l with requests := [f], taken := false }

/-- A log record of number 1, begun at count 0 with its kick point at 120,000. -/
def logRecord : LogRecord := LogRecord.begin_ 1 .a 0 600 200

/-- The line with the open log `r`. -/
def withLog (r : LogRecord) (s : State) : State :=
  s.onLogs fun m => { m with queue := [r], openLog := some r.number, number := r.number }

/-- The schedule of 48 entries of another lug. -/
def fullOutput : Output :=
  Output.refresh { State.reset.output with chain := List.replicate 48 ⟨.saw 0, 5000, 5100, 9, .saw, false⟩ }

theorem waiting_waitingFor (f : Frame) (s : State) : Waiting (waitingFor f s) f := ⟨rfl, rfl⟩

theorem judged_runState (s : State) (h : s.line.state = .run) (hh : s.chain.hold = none)
    (hg : s.store.geometry = some geo) (hc : s.chain.count = s.chain.highest) : EdgeJudged s geo :=
  ⟨by rw [h]; decide, hh, hg, hc⟩

theorem good_runState : EdgeGood runState geo := by unfold EdgeGood EdgeJudged; decide +kernel

theorem geo_inRange : geo.firstBad = none := by decide +kernel

/-! ### Witnesses: the step, the laws and the chain -/

theorem witness_StepTakesFrontCommand : ∃ (c : Instr) (rest : List Instr) (s : State), s.pending = c :: rest :=
  ⟨.estop, [.estopRelease], { State.reset with pending := [.estop, .estopRelease] }, rfl⟩

/-- The line in RUN with the panels one millisecond and two before the panel timeout of 10 s, host silence one before its
5 s, and a receiver with bytes of a frame; and the part after reset. -/
theorem witness_IdleStepTakesRequestOrTicks :
    (∃ (s : State) (c : Instr) (f : Frame), s.pending = [] ∧ requestFrame c = some f ∧ Waiting s f) ∧
    (∃ (s : State) (g : Geometry), s.pending = [] ∧ (s.link.taken = true ∨ s.link.requests = []) ∧ CausesWeighed s ∧
      s.link.receivers.length = 12 ∧ (∀ r ∈ s.link.receivers, r.bytes = [] ∨ r.gap < 2) ∧ s.store.geometry = some g ∧
      s.panels.p1.present = true ∧ s.panels.p1.timer + 1 = g.panelTimeout * 1000 ∧ s.panels.p2.present = true ∧
      s.panels.p2.timer + 2 = g.panelTimeout * 1000 ∧ s.link.timer + 1 = g.hostTimeout * 1000) ∧
    (∃ s : State, s.pending = [] ∧ (s.link.taken = true ∨ s.link.requests = []) ∧ CausesWeighed s ∧
      s.link.receivers.length = 12 ∧ (∀ r ∈ s.link.receivers, r.bytes = [] ∨ r.gap < 2) ∧
      s.panels.p1.present = false ∧ s.panels.p2.present = false ∧ s.store.geometry = none) := by
  unfold CausesWeighed
  exact ⟨⟨waitingFor ⟨0x01, 7, []⟩ State.reset, .identify 7 [], _, rfl, rfl, waiting_waitingFor _ _⟩,
    ⟨(runState.onPanels fun p => { p with p1 := { p.p1 with present := true, timer := 9999 }
                                          p2 := { p.p2 with present := true, timer := 9998 } }).onLink fun l =>
        { l with timer := 4999, receivers := ⟨[0xC3], 1⟩ :: List.replicate 11 ⟨[], 0⟩ },
      geo, by decide +kernel⟩,
    ⟨State.reset, by decide +kernel⟩⟩

/-- The next state of a step of the line in RUN with a command waiting. -/
theorem witness_step : ∃ t, step { runState with pending := [.lugEdge true] } = .next t := ⟨_, rfl⟩

theorem witness_EveryStepKeepsLifetimeLaw :
    LifetimeLaw (withPieces [piece 18] (runState.onChain fun c => { c with admitted := 5, finished := 4 })) := by
  unfold LifetimeLaw; decide +kernel

theorem witness_EveryStepKeepsHaltLaw : HaltLaw runState where
  faultLine := by decide +kernel
  schedule := by decide +kernel
  lines := by unfold LinesFollowEntries; decide +kernel
  causes := by decide +kernel
  permit := by decide +kernel
  sequence := by intro q h; cases h
  pending := by intro q h; cases h

theorem witness_EveryStepKeepsBankLaw : BankLaw runState where
  oneActive := by decide +kernel
  sequence := by
    intro x
    constructor
    · intro h; cases x <;> cases h
    · rintro ⟨q, h, -⟩; cases h
  pending := by intro q h; cases h
  pieces := by intro p h; cases h
  logs := by intro p h; cases h
  running := by decide +kernel

/-- The piece of lug 4, which stands past the saw line at 16, bound for bin 5, whose drop offset is 21. -/
def boundPiece : Piece :=
  { piece 4 with stage := .pastSaw, dest := some (.bin 5), decision := some (.keep 0 1 0 480 1) }

/-- Four requests, the oldest taken with its reply made and a BUSY behind it; a piece with an answer owed; and bin 5
filled to its capacity of 2 by a piece dropped and one bound for it. -/
def busyState : State :=
  (((withPieces [boundPiece, piece 18] runState).onBins fun l => l.set 5 ⟨.opened, 2, 1, 1, true, 0⟩).onPanels fun p => { p with answers := [⟨18, 1, .p1, 7⟩] }).onLink fun l =>
    { l with
      requests := List.replicate 4 ⟨1, 0, []⟩, taken := true
      replies := [⟨⟨0x81, 0, [0]⟩, true⟩, ⟨⟨0x81, 0, [2]⟩, false⟩], sending := some (.reply ⟨⟨0x81, 0, [0]⟩, true⟩) }

theorem busyState_replyLaw : ReplyLaw busyState.link where
  bound := by decide +kernel
  sending := by intro r h; cases h; rfl
  taken := fun _ => ⟨by decide +kernel, [], [⟨⟨0x81, 0, [2]⟩, false⟩], _, rfl, rfl, by decide +kernel, fun _ => rfl⟩
  waiting := by intro h; cases h

theorem busyState_queueLaw : QueueLaw busyState where
  geometry := by intro g h; cases h; exact ⟨geo_inRange, rfl⟩
  tracked := fun _ => rfl
  idle := by intro h; cases h
  distinct := by decide +kernel
  standing := by intro g h; cases h; decide +kernel
  uncommitted := by intro g h; cases h; decide +kernel
  answers := by decide +kernel
  owed := by decide +kernel

theorem busyState_binLaw : BinLaw busyState where
  number := by decide +kernel
  room := by decide +kernel
  full := by decide +kernel
  reserved := by
    have h : ∀ b (hb : b < 48), busyState.bins[b].reserved =
        busyState.chain.pieces.countP fun p => p.dest == some (.bin b) := by decide +kernel
    intro b x hx
    obtain ⟨hb, rfl⟩ := List.getElem?_eq_some_iff.mp hx
    exact h b hb
  outOfService := by decide +kernel
  bound := by
    intro p hp b hb
    simp only [busyState, withPieces, State.onLink, State.onPanels, State.onBins, State.onChain, List.mem_cons,
      List.not_mem_nil, or_false] at hp
    rcases hp with rfl | rfl
    · cases hb
      exact ⟨.inr rfl, rfl, ⟨0, 1, 0, 480, 1, rfl⟩, fun g h => by cases h; decide +kernel⟩
    · cases hb
  uncommitted := by decide +kernel
  committed := by intro g h; cases h; decide +kernel

theorem witness_EveryStepKeepsCapacityLaw : CapacityLaw busyState where
  binLaw := busyState_binLaw
  replyLaw := busyState_replyLaw
  queueLaw := busyState_queueLaw
  history := by decide +kernel
  solver := by decide +kernel
  panel1 := by decide +kernel
  panel2 := by decide +kernel
  schedule := by decide +kernel
  logQueue := by decide +kernel
  samples := by decide +kernel
  record := by decide +kernel
  requests := by decide +kernel
  replies := by decide +kernel
  notices := by decide +kernel
  goodRun := by decide +kernel
  pieces := by decide +kernel
  answers := by decide +kernel

/-- Runs of 62 and of 63 legal transitions before the one that is taken (R2). -/
theorem witness_ChainTransitionCounts :
    (∃ s : State, s.chain.encError = false) ∧ (∃ s : State, s.chain.encError = true ∧ s.chain.encRun + 1 < 64) ∧
      ∃ s : State, s.chain.encError = true ∧ 64 ≤ s.chain.encRun + 1 :=
  ⟨⟨State.reset, rfl⟩, ⟨State.reset.onChain fun c => { c with encError := true, encRun := 62 }, rfl, by decide⟩,
   ⟨State.reset.onChain fun c => { c with encError := true, encRun := 63 }, rfl, by decide⟩⟩

theorem witness_WhatTheTrackerIgnores :
    (∃ s : State, s.line.state = .idle ∧ s.chain.hold = none ∧ s.output.chain = [] ∧ LinesFollowEntries s.output ∧
      s.chain.encError = false) ∧
    (∃ s : State, s.chain.hold.isSome = true) ∧ ∃ s : State, s.chain.count ≠ s.chain.highest :=
  ⟨⟨State.reset, rfl, rfl, rfl, witness_EveryStepKeepsHaltLaw.lines, rfl⟩,
   ⟨State.reset.onChain fun c => { c with hold := some 5 }, rfl⟩,
   ⟨State.reset.onChain fun c => { c with highest := 1 }, by decide +kernel⟩⟩

/-- A fall of one more than the tolerance of 8, with no reservation held (SUSPECT_SET's clause). -/
theorem witness_ReversalStopsTheChain :
    ∃ (s : State) (g : Geometry), s.line.state ≠ .idle ∧ s.chain.hold = none ∧ s.store.geometry = some g ∧
      reached (s.chain.count - 1) s.chain.highest = false ∧
      g.reversalTol < (s.chain.highest - (s.chain.count - 1)).toNat ∧ (∀ e ∈ s.output.log, e.line = .kicker) ∧
      ∀ b, s.boundFor b = 0 :=
  ⟨runState.onChain fun c => { c with highest := 1008 }, geo, by decide +kernel, by decide +kernel, by decide +kernel,
    by decide +kernel, by decide +kernel, by decide +kernel, fun _ => rfl⟩

/-- The count 983, one before the window's start at 984. -/
theorem witness_EarlyEdgeIsExtra :
    (∃ (s : State) (g : Geometry), EdgeJudged s g ∧ s.chain.lockOn = false ∧
      reached s.chain.count (s.chain.c0 + BitVec.ofNat 32 g.pitch - BitVec.ofNat 32 g.windowTol) = false) ∧
    ∃ (s : State) (g : Geometry), EdgeGood s g ∧ g.firstBad = none :=
  ⟨⟨runState.onChain fun c => { c with count := 983, highest := 983 }, geo,
     by unfold EdgeJudged; decide +kernel⟩,
   ⟨runState, geo, good_runState, geo_inRange⟩⟩

/-- The line in RUN with one piece that the next advance, producing lug 21, brings to the station at `offset`. -/
theorem at_station (p : Piece) (offset : Nat) (s : State) (hs : s = withPieces [p] runState)
    (hp : (s.chain.lug + 1 - p.lug).toNat = offset) : AtStation s geo p offset := by
  subst hs
  exact ⟨good_runState, geo_inRange, rfl, rfl, hp, rfl⟩

/-- Lock-on, and the first and the last count of the window of c0 = 744: 984 and 1,016; and a piece at each station before
the commit: the moisture offset 1 with the converter idle and busy, a moisture offset of 0, the close offset 3 in stage SCANNING and CLOSED, and
the mark offset 5 with P1 PRESENT. -/
theorem witness_GoodLugAdvances :
    ((∃ s g, EdgeGood s g ∧ s.chain.lockOn = true) ∧
      (∃ s g, EdgeGood s g ∧ s.chain.lockOn = false ∧ s.chain.count = 984) ∧
      ∃ s g, EdgeGood s g ∧ s.chain.lockOn = false ∧ s.chain.count = 1016) ∧
    ((∃ s p, AtStation s geo p geo.moistureOffset ∧ ((s.bank p.bank).channel 0).isSome ∧ s.moisture.converter = none) ∧
      (∃ s p, AtStation s geo p geo.moistureOffset ∧ ((s.bank p.bank).channel 0).isSome ∧ s.moisture.converter ≠ none) ∧
      geo.moistureOffset < geo.closeOffset) ∧
    (∃ (s : State) (g : Geometry), EdgeGood s g ∧ g.firstBad = none ∧ g.moistureOffset = 0 ∧ s.chain.pieces = [] ∧
      s.store.pendingBank = none ∧ s.activeBank = some .a ∧ ((s.bank .a).channel 0).isSome) ∧
    ((∃ s p, AtStation s geo p geo.closeOffset ∧ p.stage = .scanning ∧ ∃ b ∈ s.scan.buffers, b.role = .free) ∧
      ∃ s p, AtStation s geo p geo.closeOffset ∧ p.stage ≠ .scanning) ∧
    ∃ s p, AtStation s geo p geo.markP1 ∧ (s.panels.port .p1).present = true ∧ geo.markP1 ≠ geo.markP2 := by
  refine ⟨⟨⟨runState.onChain fun c => { c with lockOn := true }, geo, by unfold EdgeGood EdgeJudged; decide +kernel⟩,
      ⟨runState.onChain fun c => { c with count := 984, highest := 984 }, geo,
        by unfold EdgeGood EdgeJudged; decide +kernel⟩,
      ⟨runState.onChain fun c => { c with count := 1016, highest := 1016 }, geo,
        by unfold EdgeGood EdgeJudged; decide +kernel⟩⟩,
    ⟨⟨_, piece 20, at_station _ _ _ rfl (by decide +kernel), rfl, rfl⟩,
      ⟨(withPieces [piece 20] runState).onMoisture fun m => { m with converter := some ⟨19, .a, [0]⟩ }, piece 20,
        ⟨good_runState, geo_inRange, rfl, rfl, by decide +kernel, rfl⟩, rfl, by decide +kernel⟩, by decide +kernel⟩,
    ⟨runState.onStore fun b => { b with geometry := some { geo with moistureOffset := 0 } },
      { geo with moistureOffset := 0 }, by unfold EdgeGood EdgeJudged; decide +kernel⟩,
    ⟨⟨_, piece 18, at_station _ _ _ rfl (by decide +kernel), rfl, by decide +kernel⟩,
      ⟨_, { piece 18 with stage := .closed }, at_station _ _ _ rfl (by decide +kernel), by decide +kernel⟩⟩,
    ⟨(withPieces [piece 16] runState).onPanels fun p => { p with p1 := { p.p1 with present := true } }, piece 16,
      ⟨good_runState, geo_inRange, rfl, rfl, by decide +kernel, rfl⟩, rfl, by decide +kernel⟩⟩

/-- The count 1,017 past the window's last count 1,016, with the piece queue empty and no activation pending, and the
transition that reaches it. -/
theorem witness_MissedLugAdvances :
    (∃ (s : State) (g : Geometry), s.line.state ≠ .idle ∧ s.chain.hold = none ∧ s.store.geometry = some g ∧
      s.chain.lockOn = false ∧
      reached s.chain.count (s.chain.c0 + BitVec.ofNat 32 g.pitch + BitVec.ofNat 32 (g.windowTol + 1)) = true ∧
      s.chain.pieces = [] ∧ s.store.pendingBank = none ∧ g.firstBad = none) ∧
    ∃ (s : State) (g : Geometry), s.line.state ≠ .idle ∧ s.chain.hold = none ∧ s.store.geometry = some g ∧
      s.chain.lockOn = false ∧ s.chain.count = s.chain.highest ∧
      s.chain.count + 1 = s.chain.c0 + BitVec.ofNat 32 g.pitch + BitVec.ofNat 32 (g.windowTol + 1) :=
  ⟨⟨runState.onChain fun c => { c with count := 1017, highest := 1017 }, geo, by decide +kernel⟩,
   ⟨runState.onChain fun c => { c with count := 1016, highest := 1016 }, geo, by decide +kernel⟩⟩

theorem witness_BlockedEyeAdmits :
    ∃ (s : State) (g : Geometry) (x : BankId), EdgeGood s g ∧ g.firstBad = none ∧ 0 < g.moistureOffset ∧
      s.chain.pieces = [] ∧ s.store.pendingBank = none ∧ s.activeBank = some x :=
  ⟨runState, geo, .a, good_runState, geo_inRange, by decide +kernel⟩

/-! ### Witnesses: commit, saw line, drop, run-out and governor -/

/-- A KEEP decision of saws 0 and 1, grade 0. -/
def keep01 : Decision := .keep 0 1 0 480 1

/-- The piece of lug 11, which the next advance brings to the commit offset 10, with a KEEP decision. -/
def keeper : Piece := { piece 11 with stage := .closed, decision := some keep01, sizeClass := some (.sized 0 0) }

/-- Each outcome of a commit without a bin: SUSPECT, UNTRIMMED, UNSOLVED; in RUN a SLASH, a REGRADE and a KEEP whose one
bin is out of service, the last two with the schedule empty and full, and an answer owed. -/
theorem witness_CommitWithoutABin :
    (∃ s p, AtStation s geo p geo.commit ∧ p.suspect.isSome = true) ∧
    (∃ s p, AtStation s geo p geo.commit ∧ p.suspect.isSome = false ∧ s.line.state ≠ .run) ∧
    (∃ s p, AtStation s geo p geo.commit ∧ p.suspect.isSome = false ∧ s.line.state = .run ∧ p.decision = none) ∧
    (∃ (s : State) (p : Piece), AtStation s geo p geo.commit ∧ p.suspect = none ∧ s.line.state = .run ∧
      LinesFollowEntries s.output ∧ p.decision = some .slash) ∧
    (∃ (s : State) (p : Piece), AtStation s geo p geo.commit ∧ p.suspect = none ∧ s.line.state = .run ∧
      LinesFollowEntries s.output ∧ p.decision = some keep01 ∧ p.override.map Override.kind = some .regrade) ∧
    (∃ (s : State) (row : SortRow), AtStation s geo keeper geo.commit ∧ keeper.suspect = none ∧ s.line.state = .run ∧
      LinesFollowEntries s.output ∧ keeper.decision = some keep01 ∧
      keeper.override.map Override.kind ≠ some .regrade ∧
      (s.bank keeper.bank).sort.rows[0 * 12 + (1 - 0 - 1)]? = some row ∧
      (∀ b x, (row.primary = some b ∨ row.alternate = some b) → s.bins[b]? = some x →
        ¬(x.state = .opened ∧ x.count + x.reserved < x.capacity)) ∧
      s.output.chain.length + s.output.log.length + 2 ≤ 48 ∧ s.answer? 11 ≠ none) ∧
    ∃ (s : State) (p : Piece), AtStation s geo p geo.commit ∧ p.suspect = none ∧ s.line.state = .run ∧
      LinesFollowEntries s.output ∧ p.decision = some keep01 ∧ p.override.map Override.kind = some .regrade ∧
      48 < s.output.chain.length + s.output.log.length + 2 := by
  refine ⟨⟨_, { keeper with suspect := some .extra }, at_station _ _ _ rfl (by decide +kernel), rfl⟩,
    ⟨(withPieces [keeper] runState).onLine fun l => { l with state := .standby }, keeper,
      ⟨by unfold EdgeGood EdgeJudged; decide +kernel, geo_inRange, rfl, rfl, by decide +kernel, rfl⟩, rfl, by decide +kernel⟩,
    ⟨_, piece 11, at_station _ _ _ rfl (by decide +kernel), rfl, rfl, rfl⟩,
    ⟨_, { keeper with decision := some .slash }, at_station _ _ _ rfl (by decide +kernel), rfl, rfl,
      witness_EveryStepKeepsHaltLaw.lines, rfl⟩,
    ⟨_, { keeper with override := some ⟨.regrade, 0, .p1⟩ }, at_station _ _ _ rfl (by decide +kernel), rfl, rfl,
      witness_EveryStepKeepsHaltLaw.lines, rfl, rfl⟩,
    ⟨(withPieces [keeper] runState).onPanels fun p => { p with answers := [⟨11, 1, .p1, 7⟩] }, ⟨some 5, none⟩,
      ⟨good_runState, geo_inRange, rfl, rfl, by decide +kernel, rfl⟩, rfl, rfl, witness_EveryStepKeepsHaltLaw.lines, rfl,
      by decide +kernel, rfl, ?_, by decide +kernel, by decide +kernel⟩,
    ⟨{ withPieces [{ keeper with override := some ⟨.regrade, 0, .p1⟩ }] runState with output := fullOutput }, _,
      ⟨good_runState, geo_inRange, rfl, rfl, by decide +kernel, rfl⟩, rfl, rfl,
      by unfold LinesFollowEntries; decide +kernel, rfl, rfl, by decide +kernel⟩⟩
  rintro b x (h | h) hx
  · cases h; cases hx; decide
  · cases h

/-- Bin 5 open with room for one, as the primary of the SORT entry; the schedule empty, and full. -/
theorem witness_CommitKeepsToABin :
    let x : Bin := ⟨.opened, 1, 0, 0, false, 0⟩
    ∃ s : State, ∃ u : State, s.bins[5]? = some x ∧ AtStation s geo keeper geo.commit ∧ s.line.state = .run ∧
      (s.bank keeper.bank).sort.rows[0 * 12 + (1 - 0 - 1)]? = some ⟨some 5, none⟩ ∧
      s.output.chain.length + s.output.log.length + 3 ≤ 48 ∧
      u.bins[5]? = some x ∧ AtStation u geo keeper geo.commit ∧ u.line.state = .run ∧
      48 < u.output.chain.length + u.output.log.length + 3 := by
  let s := (withPieces [keeper] runState).onBins fun l => l.set 5 ⟨.opened, 1, 0, 0, false, 0⟩
  exact ⟨s, { s with output := fullOutput }, rfl, ⟨good_runState, geo_inRange, rfl, rfl, by decide +kernel, rfl⟩, rfl, rfl,
    by decide +kernel, rfl, ⟨good_runState, geo_inRange, rfl, rfl, by decide +kernel, rfl⟩, rfl, by decide +kernel⟩

theorem witness_WhereAPieceFinishes :
    (∃ s p, AtStation s geo p geo.sawLine ∧ p.decision = some .slash ∧ p.suspect = none ∧ p.outcome = none) ∧
    (∃ s p, AtStation s geo p geo.sawLine ∧ (∀ b, p.dest = some (.bin b) → b < 48) ∧
      ¬(p.decision = some .slash ∧ p.suspect = none ∧ p.outcome = none)) ∧
    (∃ (s : State) (p : Piece) (x : Bin) (tr wr : SizeClassRow), AtStation s geo p (geo.drops.getD 47 0) ∧
      p.dest = some (.bin 47) ∧ s.bins[47]? = some x ∧ p.decision = some keep01 ∧ p.sizeClass = some (.sized 0 0) ∧
      (s.bank p.bank).thickness 0 = some tr ∧ (s.bank p.bank).width 0 = some wr) ∧
    (∃ s p, AtStation s geo p geo.runOut ∧ p.suspect.isSome = true) ∧
    (∃ s p, AtStation s geo p geo.runOut ∧ p.suspect.isSome = false ∧ p.outcome = some .untrimmed) ∧
    ∃ (s : State) (p : Piece) (tr wr : SizeClassRow), AtStation s geo p geo.runOut ∧ p.suspect.isSome = false ∧
      p.outcome = some .runOut ∧ p.decision = some keep01 ∧ p.sizeClass = some (.sized 0 0) ∧
      (s.bank p.bank).thickness 0 = some tr ∧ (s.bank p.bank).width 0 = some wr := by
  refine ⟨⟨_, { keeper with lug := 7, decision := some .slash }, at_station _ _ _ rfl (by decide +kernel), rfl, rfl, rfl⟩,
    ⟨_, { keeper with lug := 7, dest := some (.bin 47) }, at_station _ _ _ rfl (by decide +kernel), ?_, by decide +kernel⟩,
    ⟨_, { keeper with lug := 0xFFD6, dest := some (.bin 47) }, _, _, _, at_station _ _ _ rfl (by decide +kernel), rfl, rfl,
      rfl, rfl, rfl, rfl⟩,
    ⟨_, { keeper with lug := 0xFFCF, suspect := some .halt }, at_station _ _ _ rfl (by decide +kernel), rfl⟩,
    ⟨_, { keeper with lug := 0xFFCF, outcome := some .untrimmed }, at_station _ _ _ rfl (by decide +kernel), rfl, rfl⟩,
    ⟨_, { keeper with lug := 0xFFCF, outcome := some .runOut }, _, _, at_station _ _ _ rfl (by decide +kernel), rfl, rfl,
      rfl, rfl, rfl, rfl⟩⟩
  intro b h; cases h; decide

/-- The last advance of a FILL and of a GAP, an advance before the last, a phase with none left and a forced hold. -/
theorem witness_GovernorSteps :
    ∃ r : GovernorRow,
      (∀ ph n, (ph, n) ∈ [(Phase.fill, 1), (.gap, 1), (.gap, 2), (.gap, 0)] →
        ∃ s : State, EdgeGood s geo ∧ s.chain.pieces = [] ∧ s.store.pendingBank = none ∧ s.activeBank = some .a ∧
          (s.bank .a).governor.rows.head? = some r ∧ s.governor.causes.any = false ∧ s.governor.phase = ph ∧
          s.governor.remaining = n) ∧
      (∃ (s : State) (e : Governor), s.governor.phase = .gap ∧ s.governor.remaining = 0 ∧
        PhaseEnded r s.bins s.governor e ∧ 0 < e.remaining) ∧
      ∃ s : State, EdgeGood s geo ∧ s.chain.pieces = [] ∧ s.store.pendingBank = none ∧ s.activeBank = some .a ∧
        (s.bank .a).governor.rows.head? = some r ∧ s.governor.causes.any = true :=
  ⟨⟨0, 6, 20, 2, 1, 12, 6, 3, 3⟩,
   fun ph n _ => ⟨runState.onGovernor fun g => { g with phase := ph, remaining := n },
     good_runState, rfl, rfl, rfl, rfl, rfl, rfl, rfl⟩,
   ⟨runState.onGovernor fun g => { g with phase := .gap, remaining := 0 }, _, rfl, rfl,
     ⟨fun _ => rfl, fun h => by cases h⟩, by decide⟩,
   ⟨runState.onGovernor fun g => { g with causes := ⟨false, false, true, false⟩ }, good_runState, rfl, rfl, rfl, rfl, rfl⟩⟩

/-- A run of 64 and of 63, and a hold whose count has and has not been reached. -/
theorem witness_EntriesAndConditionsEnd :
    (∃ s : State, s.chain.encError = true ∧ 64 ≤ s.chain.encRun) ∧
    (∃ s : State, s.chain.encError = true ∧ s.chain.encRun < 64) ∧
    (∃ (s : State) (h : Count), s.chain.hold = some h ∧ reached s.chain.count h = true) ∧
    (∃ (s : State) (h : Count), s.chain.hold = some h ∧ reached s.chain.count h = false) :=
  ⟨⟨State.reset.onChain fun c => { c with encError := true, encRun := 64 }, rfl, by decide⟩,
   ⟨State.reset.onChain fun c => { c with encError := true, encRun := 63 }, rfl, by decide⟩,
   ⟨runState.onChain fun c => { c with hold := some 1000 }, 1000, rfl, by decide +kernel⟩,
   ⟨runState.onChain fun c => { c with hold := some 1001 }, 1001, rfl, by decide +kernel⟩⟩

theorem witness_HaltingFaultEntersHalt :
    ∃ s : State, s.line.estopIn = false ∧ (s.line.state = .standby ∨ s.line.state = .run) ∧
      (s.governor.causes.any = true → s.governor.permit = false) := ⟨runState, by decide +kernel⟩

theorem witness_HaltingFaultElsewhere :
    (∃ s : State, s.line.state = .idle ∧ s.line.estopIn = false) ∧ (∃ s : State, s.line.state = .halt) ∧
      ∃ s : State, s.line.estopIn = true :=
  ⟨⟨State.reset, rfl, rfl⟩, ⟨runState.onLine fun l => { l with state := .halt }, rfl⟩,
   ⟨runState.onLine fun l => { l with estopIn := true }, rfl⟩⟩

/-! ### Witnesses: head reports, moisture, the solver -/

/-- A SEGMENT body of head 0 for lug 20 with no cells. -/
def segBody : List Byte := [0, 0, 20, 1, 0]

/-- The line with lug 20 in the history, filled, and its piece. -/
def scanned (p : Piece) : State := (withPieces [p] runState).onScan fun x => { x with history := [(20, true)] }

/-- 11.5: an entry of thickness 100, width 180, wane depth 5 and defect class 3; one of class 7; one with its present flag
clear. -/
theorem test_cell_entries :
    cellOfEntry [0xB1, 0x4B, 0x41, 0x93] = .present 100 180 5 3 ∧ cellOfWord 0xB14B4193 = .present 100 180 5 3 ∧
      cellOfEntry [0xF1, 0x40, 0, 0] = .unknown ∧ cellOfWord 0xF1400000 = .unknown ∧
      cellOfEntry [0x7F, 0xFF, 0xFF, 0xFF] = .absent ∧ cellOfWord 0x7FFFFFFF = .absent := by decide +kernel

/-- A SEGMENT body of head 0 for lug 20 with seven ABSENT cells, as its run of cells 0 to 6 asks. -/
def segFull : List Byte := [0, 0, 20, 1, 7] ++ List.replicate 28 0

theorem witness_SegmentsTurnedAway :
    SegmentFields.ofBody [0, 0, 20, 3, 0] = none ∧
    (∃ (s : State) (f : SegmentFields), SegmentFields.ofBody segBody = some f ∧ s.scan.history.find? (fun e => e.1 == f.lug) = none) ∧
    (∃ (s : State) (f : SegmentFields), SegmentFields.ofBody segBody = some f ∧
      s.scan.history.find? (fun e => e.1 == f.lug) = some (f.lug, false)) ∧
    (∃ (s : State) (f : SegmentFields) (p : Piece), SegmentFields.ofBody segBody = some f ∧
      s.scan.history.find? (fun e => e.1 == f.lug) = some (f.lug, true) ∧ s.piece? f.lug = some p ∧
      p.stage = .closed) ∧
    (∃ (s : State) (f : SegmentFields) (p : Piece), SegmentFields.ofBody segBody = some f ∧
      s.scan.history.find? (fun e => e.1 == f.lug) = some (f.lug, true) ∧ s.piece? f.lug = some p ∧
      p.stage = .scanning ∧ (s.bank p.bank).headRun 0 = some (0, 6) ∧ f.count ≠ 6 - 0 + 1) ∧
    ∃ (s : State) (f : SegmentFields) (p : Piece), SegmentFields.ofBody segFull = some f ∧
      s.scan.history.find? (fun e => e.1 == f.lug) = some (f.lug, true) ∧ s.piece? f.lug = some p ∧
      p.stage = .scanning ∧ (s.bank p.bank).headRun 0 = some (0, 6) ∧ f.head = 0 ∧ f.count = 6 - 0 + 1 ∧
      p.profile.reports[0]? ≠ some .notReported :=
  ⟨rfl, ⟨runState, _, rfl, rfl⟩, ⟨runState.onScan fun x => { x with history := [(20, false)] }, _, rfl, rfl⟩,
   ⟨scanned { piece 20 with stage := .closed }, _, _, rfl, rfl, rfl, rfl⟩,
   ⟨scanned (piece 20), _, _, rfl, rfl, rfl, rfl, rfl, by decide +kernel⟩,
   ⟨scanned { piece 20 with profile := ⟨[], List.replicate 8 .board, none⟩ }, _, _, rfl, rfl, rfl, rfl, rfl, rfl, rfl,
     by decide +kernel⟩⟩

/-- Head 0's report with head 1 still to report, and with head 1 reported. -/
theorem witness_HeadReportIsWritten :
    ∃ f, SegmentFields.ofBody segFull = some f ∧ f.head = 0 ∧ f.count = 6 - 0 + 1 ∧
      (∃ (s : State) (p : Piece), s.scan.history.find? (fun e => e.1 == f.lug) = some (f.lug, true) ∧ s.piece? f.lug = some p ∧
        p.stage = .scanning ∧ (s.bank p.bank).headRun 0 = some (0, 6) ∧ p.profile.reports[0]? = some .notReported ∧
        p.profile.reports.length = 8 ∧ ((s.bank p.bank).headRun 1).isSome ∧
        p.profile.reports[1]? = some .notReported) ∧
      ∃ (s : State) (p : Piece), s.scan.history.find? (fun e => e.1 == f.lug) = some (f.lug, true) ∧ s.piece? f.lug = some p ∧
        p.stage = .scanning ∧ (s.bank p.bank).headRun 0 = some (0, 6) ∧ p.profile.reports[0]? = some .notReported ∧
        p.profile.reports.length = 8 ∧
        ∀ k, k ≠ 0 → k < 8 → ((s.bank p.bank).headRun k).isSome → p.profile.reports[k]? ≠ some .notReported := by
  refine ⟨_, rfl, rfl, rfl, ⟨scanned (piece 20), _, rfl, rfl, rfl, rfl, rfl, rfl, rfl, rfl⟩,
    scanned { piece 20 with profile := ⟨List.replicate 52 .unreported, .notReported :: List.replicate 7 .board, none⟩ },
    _, rfl, rfl, rfl, rfl, rfl, rfl, ?_⟩
  intro k h0 h8 _
  interval_cases k <;> first | exact absurd rfl h0 | (intro h; cases h)

/-- The owner's channel 0 with its bank's MOISTURE table loaded, and after a load has taken the table from it. -/
theorem witness_MoistureResultIsTaken :
    (∃ (s : State) (r : ChannelRow), s.moisture.converter = some ⟨20, .a, 0 :: []⟩ ∧
      (s.bank .a).moisture.loaded = true ∧ (s.bank .a).channel 0 = some r ∧
      (s.bank .a).moistureCommon = (10, 4) ∧ ∃ p, s.piece? 20 = some p ∧ p.stage = .scanning) ∧
    ∃ s : State, s.moisture.converter = some ⟨20, .b, 0 :: []⟩ ∧ (s.bank .b).moisture.loaded = false :=
  ⟨⟨(withPieces [piece 20] runState).onMoisture fun m => { m with converter := some ⟨20, .a, [0]⟩ }, _, rfl, rfl, rfl,
     rfl, _, rfl, rfl⟩,
   ⟨runState.onMoisture fun m => { m with converter := some ⟨20, .b, [0]⟩ }, rfl, rfl⟩⟩

/-- A solve of the piece of lug 11. -/
def solve : Solve :=
  { lug := 11, revision := 0, cells := List.replicate 8 (.present 100 180 0 0) ++ List.replicate 44 .absent
    moisture := [none, none, none, none], override := none, bank := .a, bins := [] }

theorem witness_SolveStarts :
    (∃ (s : State) (p : Piece), s.solver.running = none ∧ s.solver.queue = 11 :: [] ∧ s.piece? 11 = some p) ∧
    (∃ s : State, s.solver.running ≠ none) ∧ ∃ s : State, s.solver.queue = [] :=
  ⟨⟨(withPieces [keeper] runState).onSolver fun v => { v with queue := [11] }, _, rfl, rfl, rfl⟩,
   ⟨runState.onSolver fun v => { v with running := some solve }, by decide +kernel⟩, ⟨runState, rfl⟩⟩

/-- The line with the solve in progress and the pieces given. -/
def solving (ps : List Piece) : State := (withPieces ps runState).onSolver fun v => { v with running := some solve }

theorem witness_SolveCompletes :
    (∃ (s : State) (p : Piece), s.solver = ⟨[], some solve⟩ ∧ s.piece? 11 = some p ∧ p.stage = .closed ∧ p.revision = 0) ∧
    (∃ s : State, s.solver = ⟨[], some solve⟩ ∧ s.piece? 11 = none) ∧
    (∃ (s : State) (p : Piece), s.solver = ⟨[], some solve⟩ ∧ s.piece? 11 = some p ∧ p.stage = .committed) ∧
    (∃ (s : State) (p : Piece), s.solver = ⟨[], some solve⟩ ∧ s.piece? 11 = some p ∧ p.stage = .closed ∧ p.revision ≠ 0) ∧
    (∃ (s : State) (p x : Piece), s.solver = ⟨[13], some solve⟩ ∧ s.piece? 13 = some p ∧ s.piece? 11 = some x ∧
      x.stage = .closed ∧ x.revision = solve.revision) ∧
    (∀ n ∈ [6, 7], ∃ (s : State) (p x : Piece), s.solver = ⟨13 :: List.replicate n 30, some solve⟩ ∧
      s.piece? 13 = some p ∧ s.piece? 11 = some x ∧ x.stage = .closed ∧ x.revision ≠ solve.revision) ∧
    ∃ s : State, s.solver.running = none :=
  ⟨⟨solving [keeper], _, rfl, rfl, rfl, rfl⟩, ⟨solving [], rfl, rfl⟩,
   ⟨solving [{ keeper with stage := .committed }], _, rfl, rfl, rfl⟩,
   ⟨solving [{ keeper with revision := 1 }], _, rfl, rfl, rfl, by decide⟩,
   ⟨(solving [keeper, { keeper with lug := 13 }]).onSolver fun v => { v with queue := [13] }, _, _, rfl, rfl, rfl, rfl,
     rfl⟩,
   fun n _ => ⟨(solving [{ keeper with revision := 1 }, { keeper with lug := 13 }]).onSolver fun v =>
     { v with queue := 13 :: List.replicate n 30 }, _, _, rfl, rfl, rfl, rfl, by decide⟩, ⟨runState, rfl⟩⟩

/-- A defined grade that holds, a channel of cells 0 to 51 read at 22.0 per cent, and candidates to choose among. -/
theorem witness_GradeAndTrimAreChosen :
    (∃ l, bank.gradeLimits 0 = some l ∧ l.hold [.present 100 180 0 0] 90 170 none = true) ∧
      (∀ c ch, bank.channel c = some ch → ch.first ≤ ch.last) ∧ ReadsSpan bank [some ⟨220, false⟩] 0 2 220 ∧
      (⟨0, 2, 0⟩ : Candidate) ∈ [⟨0, 2, 0⟩, ⟨0, 3, 0⟩] := by
  refine ⟨⟨_, rfl, by decide +kernel⟩, ?_, ⟨0, _, ⟨220, false⟩, by decide, rfl, rfl, rfl, 0, by decide⟩, by simp⟩
  intro c ch h
  match c, h with
  | 0, h => cases h; decide
  | 1, h => cases h
  | 2, h => cases h
  | 3, h => cases h
  | 4, h => cases h
  | c + 5, h => cases h

/-- R51: a mean at the one class's minimum, and one below it. -/
theorem test_class_found : ClassFound bank.thickness 90 (some 0) ∧ ClassFound bank.thickness 89 none := by
  unfold ClassFound
  refine ⟨⟨fun k h => ?_, fun k r hk hr _ => ⟨0, rfl, ?_⟩⟩, fun k h => ?_, fun k r hk hr hm => ?_⟩
  · cases h; exact ⟨by decide, _, rfl, by decide⟩
  · interval_cases k <;> first | rfl | cases hr
  · cases h
  · interval_cases k <;> cases hr
    exact absurd hm (by decide)

/-- Eight cells and a minimum length of 4 ft: KEEP (0,2), whose product is 8 × 6 × 4 × 480. A solve whose cells are all
UNKNOWN; a mean one below the thickness minimum; an override SLASH; a candidate that stands; and a bin with room for one
beyond the margin of 3, and with none. -/
theorem witness_KeepDecisionsAreProper :
    solve.result bank = (some (.sized 0 0), some (.keep 0 2 0 92160 192)) ∧
    { solve with cells := [.unknown] }.result bank = (none, none) ∧
    { solve with cells := [.present 89 180 0 0] }.result bank = (some .undersize, some .slash) ∧
    { solve with override := some ⟨.slash, 0, .p1⟩ }.result bank = (some (.sized 0 0), some .slash) ∧
    solve.Stands bank 3 90 170 ⟨0, 2, 0⟩ ∧
    { solve with bins := [⟨.opened, 6, 1, 1, false, 0⟩] }.HasRoom 3 (some 0) ∧
    ¬ { solve with bins := [⟨.opened, 5, 1, 1, false, 0⟩] }.HasRoom 3 (some 0) := by
  refine ⟨by decide +kernel, by decide +kernel, by decide +kernel, by decide +kernel, ⟨?_, by intro h; cases h⟩,
    ⟨0, _, rfl, rfl, by decide⟩, ?_⟩
  · have wood : ∀ k < 8, solve.cells[k]? ≠ some .absent := by decide +kernel
    exact { saws := by decide, length := by decide, wood := fun k _ hk => wood k hk, limit := by intro l p h; cases h
            grade := by rintro _ rfl; decide +kernel }
  · rintro ⟨i, x, h, hx, -, hm⟩
    cases h; cases hx; exact absurd hm (by decide)

/-! ### Witnesses: the panels -/

theorem witness_PanelTimeoutAndSending :
    (∃ s : State, (s.panels.port .p1).present = true) ∧ ∃ s : State, (s.panels.port .p1).present = false :=
  ⟨⟨runState.onPanels fun p => { p with p1 := { p.p1 with present := true } }, rfl⟩, ⟨runState, rfl⟩⟩

/-- A solver queue of eight other lugs. -/
def busySolver (s : State) : State := s.onSolver fun _ => ⟨List.replicate 8 30, some solve⟩

/-- The last value accepted and the first refused of GRADE_SET and LENGTH_LIMIT, and the other three answers. -/
theorem witness_OverridesTurnedAway :
    (OverrideKind.gradeSet.Accepts 7 ∧ ¬ OverrideKind.gradeSet.Accepts 8 ∧ OverrideKind.lengthLimit.Accepts 24 ∧
      ¬ OverrideKind.lengthLimit.Accepts 25 ∧ ¬ OverrideKind.lengthLimit.Accepts 26) ∧
    (∃ s : State, OverrideKind.slash.Accepts 0 ∧ s.piece? 11 = none) ∧
    (∃ (s : State) (x : Piece), s.piece? 11 = some x ∧ x.stage = .committed) ∧
    (∃ (s : State) (x : Piece), OverrideKind.gradeDown.Accepts 0 ∧ s.piece? 11 = some x ∧ x.stage = .closed ∧
      x.profile.status ≠ some .empty ∧ 11 ∉ s.solver.queue ∧ 8 ≤ s.solver.queue.length) ∧
    ∃ body : List Byte, body.length ≠ 4 :=
  ⟨by unfold OverrideKind.Accepts; decide +kernel, ⟨runState, trivial, rfl⟩,
   ⟨withPieces [{ keeper with stage := .committed }] runState, _, rfl, rfl⟩,
   ⟨busySolver (withPieces [keeper] runState), _, trivial, rfl, rfl, by decide +kernel⟩, [], by decide⟩

theorem witness_OverrideOfAScannedPiece :
    ∃ (s : State) (x : Piece), OverrideKind.slash.Accepts 0 ∧ s.piece? 11 = some x ∧ x.stage = .scanning ∧
      x.solveState = .none ∧ s.answer? 11 = none ∧ (s.panels.port .p1).queue.length < 159 :=
  ⟨withPieces [piece 11] runState, _, trivial, rfl, rfl, rfl, rfl, by decide +kernel⟩

/-- A solve in progress with the piece's entry not waiting and waiting, an idle solver, and an EMPTY profile. -/
theorem witness_OverrideOfAClosedPiece :
    OverrideKind.gradeSet.Accepts 7 ∧
    (∃ (s : State) (x : Piece) (v : Solve), s.piece? 11 = some x ∧ x.stage = .closed ∧
      x.profile.status ≠ some .empty ∧ s.solver.running = some v ∧ 11 ∉ s.solver.queue ∧ s.solver.queue.length < 8 ∧
      (s.panels.port .p1).queue.length < 159) ∧
    (∃ (s : State) (x : Piece), s.piece? 11 = some x ∧ x.stage = .closed ∧ x.profile.status ≠ some .empty ∧
      11 ∈ s.solver.queue ∧ (s.panels.port .p1).queue.length < 159) ∧
    (∃ (s : State) (x : Piece), s.piece? 11 = some x ∧ x.stage = .closed ∧ x.profile.status ≠ some .empty ∧
      s.solver.running = none ∧ s.solver.queue = [] ∧ (s.panels.port .p1).queue.length < 159) ∧
    ∃ (s : State) (x : Piece), s.piece? 11 = some x ∧ x.stage = .closed ∧ x.profile.status = some .empty ∧
      (s.panels.port .p1).queue.length < 159 :=
  ⟨by unfold OverrideKind.Accepts; decide +kernel,
   ⟨solving [keeper], _, solve, rfl, rfl, by decide +kernel, rfl, by decide +kernel⟩,
   ⟨(solving [keeper]).onSolver fun v => { v with queue := [11] }, _, rfl, rfl, by decide +kernel⟩,
   ⟨withPieces [keeper] runState, _, rfl, rfl, by decide +kernel⟩,
   ⟨withPieces [{ keeper with profile := { keeper.profile with status := some .empty } }] runState, _, rfl, rfl,
     by decide +kernel⟩⟩

/-! ### Witnesses: the logs -/

/-- A fall of 8 and of 9 below the highest log count with a tolerance of 8, and a forward transition to the kick point. -/
theorem witness_LogEncoderIsCounted :
    (∃ s : State, s.logs.queue = []) ∧
    (∃ (s : State) (r : LogRecord), s.logs.queue = [r] ∧ s.store.geometry = some geo ∧
      (s.logs.highest - (s.logs.count - 1)).toNat = geo.reversalTol) ∧
    (∃ (s : State) (r : LogRecord), s.logs.queue = [r] ∧ s.store.geometry = some geo ∧
      reached (s.logs.count - 1) s.logs.highest = false ∧
      geo.reversalTol < (s.logs.highest - (s.logs.count - 1)).toNat) ∧
    ∃ (s : State) (r : LogRecord), s.logs.queue = [r] ∧ s.logs.count = s.logs.highest ∧
      reached s.logs.count r.kickPoint = false ∧ reached (s.logs.count + 1) r.kickPoint = true ∧
      r.FinishesAs (decide (s.logs.openLog = some r.number)) .unmeasured (some .kickPoint) :=
  ⟨⟨runState, rfl⟩,
   ⟨(withLog logRecord runState).onLogs fun m => { m with count := 1000, highest := 1007 }, _, rfl, rfl,
     by decide +kernel⟩,
   ⟨(withLog logRecord runState).onLogs fun m => { m with count := 1000, highest := 1008 }, _, rfl, rfl,
     by decide +kernel, by decide +kernel⟩,
   ⟨(withLog logRecord runState).onLogs fun m => { m with count := 119999, highest := 119999 }, _, rfl, rfl,
     by decide +kernel, by decide +kernel, rfl, rfl⟩⟩

/-- The kick point count of 120,000 reached exactly, and one count short of it. -/
theorem witness_LogFinishesAtItsKickPoint :
    (∃ (s : State) (r : LogRecord), s.logs.queue = [r] ∧ reached s.logs.count r.kickPoint = true ∧ r.decision = none ∧
      s.logs.openLog = some r.number) ∧
    (∃ (s : State) (r : LogRecord), s.logs.queue = [r] ∧ reached s.logs.count r.kickPoint = true ∧ r.decision = some .accept) ∧
    (∃ (s : State) (r : LogRecord) (why : Reasons), s.logs.queue = [r] ∧ reached s.logs.count r.kickPoint = true ∧
      r.decision = some (.reject why) ∧ r.kick = .scheduled) ∧
    ∃ s : State, s.logs.queue ≠ [] ∧ ∀ r ∈ s.logs.queue, reached s.logs.count r.kickPoint = false :=
  ⟨⟨(withLog logRecord runState).onLogs fun m => { m with count := 120000 }, _, rfl, by decide +kernel, rfl, rfl⟩,
   ⟨(withLog { logRecord with closed := true, decision := some .accept } runState).onLogs fun m =>
      { m with count := 120000 }, _, rfl, by decide +kernel, rfl⟩,
   ⟨(withLog { logRecord with closed := true, kick := .scheduled
                              decision := some (.reject ⟨true, false, false, false, false, false⟩) } runState).onLogs
      fun m => { m with count := 120000 }, _, _, rfl, by decide +kernel, rfl, rfl⟩,
   ⟨(withLog logRecord runState).onLogs fun m => { m with count := 119999 }, by decide +kernel⟩⟩

theorem witness_LogStarts :
    (∃ s : State, s.line.state = .idle) ∧ (∃ s : State, 8 ≤ s.logs.queue.length) ∧
    ∃ (s : State) (g : Geometry) (x : BankId), s.line.state ≠ .idle ∧ s.logs.queue.length < 8 ∧
      s.store.geometry = some g ∧ s.activeBank = some x :=
  ⟨⟨State.reset, rfl⟩, ⟨runState.onLogs fun m => { m with queue := List.replicate 8 logRecord }, by decide +kernel⟩,
   ⟨runState, geo, .a, by decide +kernel⟩⟩

/-- Positions 480 and 481 (4 counts per inch), and 256 samples. -/
theorem witness_LogSectionIsTaken :
    (∃ s : State, s.logs.openLog = none) ∧
    (∀ c ∈ [(1920 : Count), 1924], ∃ (s : State) (r : LogRecord), s.logs.openLog = some 1 ∧ s.log? 1 = some r ∧
      s.store.geometry = some geo ∧ s.logs.count = c ∧ r.start = 0) ∧
    geo.cpi = 4 ∧
    ∃ (s : State) (r : LogRecord), s.logs.openLog = some 1 ∧ s.log? 1 = some r ∧ s.store.geometry = some geo ∧
      256 ≤ r.samples.length :=
  ⟨⟨runState, rfl⟩,
   fun c _ => ⟨(withLog logRecord runState).onLogs fun m => { m with count := c }, _, rfl, rfl, rfl, rfl, rfl⟩,
   by decide +kernel,
   ⟨withLog { logRecord with samples := List.replicate 256 ⟨0, 0, 0, 0, 0⟩ } runState, _, rfl, rfl, rfl, by
     decide +kernel⟩⟩

/-- A log of 49 in (196 counts) accepted, and one of 0 in rejected: outside RUN; with its kick start of 119,800 reached
and not yet reached; with the schedule full. -/
theorem witness_LogEnds :
    (bank.log.rows.head? = some ⟨36, 480, 80, 300, 8⟩ ∧ (figuresOf 49 [⟨0, 100, 100, 0, 0⟩]).length = 49) ∧
    (∃ (s : State) (r : LogRecord), s.logs.openLog = some 1 ∧ s.log? 1 = some r ∧ s.store.geometry = some geo ∧
      s.logs.count = 196 ∧ r.samples ≠ [] ∧ r.start = 0) ∧
    (∃ (s : State) (r : LogRecord), s.logs.openLog = some 1 ∧ s.log? 1 = some r ∧ s.store.geometry = some geo ∧ r.samples = [] ∧
      s.line.state ≠ .run) ∧
    (∃ (s : State) (r : LogRecord), s.logs.openLog = some 1 ∧ s.log? 1 = some r ∧ s.store.geometry = some geo ∧ r.samples = [] ∧
      s.line.state = .run ∧ reached s.logs.count (r.kickPoint - BitVec.ofNat 32 geo.kickLead) = true) ∧
    (∃ (s : State) (r : LogRecord), s.logs.openLog = some 1 ∧ s.log? 1 = some r ∧ s.store.geometry = some geo ∧ r.samples = [] ∧
      s.line.state = .run ∧ reached s.logs.count (r.kickPoint - BitVec.ofNat 32 geo.kickLead) = false ∧
      48 < s.output.chain.length + s.output.log.length + 1) ∧
    ∃ (s : State) (r : LogRecord), s.logs.openLog = some 1 ∧ s.log? 1 = some r ∧ s.store.geometry = some geo ∧ r.samples = [] ∧
      s.line.state = .run ∧ reached s.logs.count (r.kickPoint - BitVec.ofNat 32 geo.kickLead) = false ∧
      s.output.chain.length + s.output.log.length + 1 ≤ 48 :=
  ⟨⟨rfl, rfl⟩,
   ⟨(withLog { logRecord with samples := [⟨0, 100, 100, 0, 0⟩] } runState).onLogs fun m => { m with count := 196 }, _,
     rfl, rfl, rfl, rfl, by decide +kernel, rfl⟩,
   ⟨(withLog logRecord runState).onLine fun l => { l with state := .standby }, _, rfl, rfl, rfl, rfl, by
     decide +kernel⟩,
   ⟨(withLog logRecord runState).onLogs fun m => { m with count := 119800 }, _, rfl, rfl, rfl, rfl, rfl, by
     decide +kernel⟩,
   ⟨(withLog logRecord runState).onOutput fun _ => fullOutput, _, rfl, rfl, rfl, rfl, rfl, by decide +kernel⟩,
   ⟨withLog logRecord runState, _, rfl, rfl, rfl, rfl, rfl, by decide +kernel⟩⟩

/-! ### Witnesses: the link and the requests -/

/-- A receiver HUNTING; a body length of 513; a check that is wrong; a frame broken off. -/
theorem witness_ReceiversHuntAndAbandon :
    (∃ s : State, portIndex .logHead < s.link.receivers.length ∧ s.receiver .logHead = ⟨[], 0⟩) ∧
    (512 < (2 : Byte).toNat * 256 + (1 : Byte).toNat ∧ (2 : Byte) ≠ 0xC3 ∧ (1 : Byte) ≠ 0xC3) ∧
    (∃ (f : Frame) (check : BitVec 16), f.body.length ≤ 512 ∧ check ≠ crc16 f.inner ∧
      0xC3 ∉ f.inner ++ bytes16 check) ∧
    ∃ (s : State) (rest : List Byte), portIndex .logHead < s.link.receivers.length ∧
      (s.receiver .logHead).bytes = 0xC3 :: rest ∧ 0xC3 ∉ rest :=
  ⟨⟨runState, by decide +kernel⟩, by decide, ⟨⟨0x38, 0, []⟩, 0, by decide +kernel⟩,
   ⟨setReceiver .logHead ⟨[0xC3, 0], 0⟩ runState, [0], by decide +kernel⟩⟩

/-- An empty body, and one of 512 bytes. -/
theorem witness_BytesOfAFrameAreItsCommand :
    ∃ s : State, portIndex .supervisor < s.link.receivers.length ∧ s.receiver .supervisor = ⟨[], 0⟩ ∧
      (⟨0x38, 0, []⟩ : Frame).body.length ≤ 512 ∧ (⟨0x06, 0, List.replicate 512 0⟩ : Frame).body.length ≤ 512 :=
  ⟨runState, by decide +kernel⟩

/-- Three and four requests; seven and eight replies held. -/
theorem witness_RequestsAreReceived :
    (∃ s : State, CausesWeighed s ∧ s.link.requests.length = 3) ∧
    (∃ s : State, CausesWeighed s ∧ 4 ≤ s.link.requests.length ∧
      s.link.replies.length + (if s.link.taken then 0 else 1) = 7) ∧
    ∃ s : State, CausesWeighed s ∧ 4 ≤ s.link.requests.length ∧
      s.link.replies.length + (if s.link.taken then 0 else 1) = 8 := by
  unfold CausesWeighed
  exact ⟨⟨runState.onLink fun l => { l with requests := List.replicate 3 ⟨1, 0, []⟩ }, by decide +kernel⟩,
    ⟨runState.onLink fun l => { l with
      requests := List.replicate 4 ⟨1, 0, []⟩, replies := List.replicate 6 ⟨⟨0x81, 0, [2]⟩, false⟩ }, by decide +kernel⟩,
    ⟨runState.onLink fun l => { l with
      requests := List.replicate 4 ⟨1, 0, []⟩, replies := List.replicate 7 ⟨⟨0x81, 0, [2]⟩, false⟩ }, by decide +kernel⟩⟩

theorem witness_RequestsComeInTurn :
    (∃ (s : State) (c : Instr) (f : Frame), requestFrame c = some f ∧ s.link.requests = [] ∧ s.link.taken = false) ∧
    ∃ (s : State) (c : Instr) (f : Frame), requestFrame c = some f ∧ s.link.requests ≠ [] ∧ ¬ Waiting s f :=
  ⟨⟨runState, .identify 1 [], _, rfl, rfl, rfl⟩,
   ⟨waitingFor ⟨0x02, 9, [0, 0]⟩ runState, .identify 1 [], _, rfl, by decide +kernel, by
     unfold Waiting; decide +kernel⟩⟩

/-- Timeouts of 1, 60 and 0 s. -/
theorem witness_HostSilenceIsSet :
    (∀ n ∈ [1, 60], ∃ (s : State) (g : Geometry), CausesWeighed s ∧ s.store.geometry = some g ∧ g.hostTimeout = n) ∧
    ∃ s : State, ∀ g, s.store.geometry = some g → g.hostTimeout = 0 :=
  ⟨fun n _ => ⟨runState.onStore fun st => { st with geometry := some { geo with hostTimeout := n } }, _, rfl, rfl, rfl⟩,
   ⟨State.reset, by intro g h; cases h⟩⟩

theorem witness_TransmitCompletes :
    (∃ (s : State) (f : Frame), s.link.sending = some (.notice f)) ∧
    (∃ (s : State) (r : Reply), s.link.sending = some (.reply r) ∧ r.own = false) ∧
    (∃ (s : State) (r : Reply), s.link.sending = some (.reply r) ∧ r.own = true ∧ r.frame.kind ≠ 0x8B) ∧
    (∃ (s : State) (r : Reply), s.link.sending = some (.reply r) ∧ r.own = true ∧ r.frame.kind = 0x8B) ∧
    ∃ s : State, s.link.sending = none :=
  ⟨⟨runState.onLink fun l => { l with sending := some (.notice ⟨0x42, 0, []⟩) }, _, rfl⟩,
   ⟨runState.onLink fun l => { l with sending := some (.reply ⟨⟨0x81, 0, [2]⟩, false⟩) }, _, rfl, rfl⟩,
   ⟨runState.onLink fun l => { l with sending := some (.reply ⟨⟨0x81, 0, [0]⟩, true⟩) }, _, rfl, rfl, by decide⟩,
   ⟨runState.onLink fun l => { l with sending := some (.reply ⟨⟨0x8B, 0, [8]⟩, true⟩) }, _, rfl, rfl, rfl⟩,
   ⟨runState, rfl⟩⟩

/-- Kinds 0 and 18, an IDENTIFY of one byte, and a TABLE_WRITE of five and of a wrong number of entry bytes. -/
theorem witness_UnknownKindsAndLengths :
    (∃ s : State, Waiting s ⟨0x12, 1, []⟩ ∧ 17 < (0x12 : Byte).toNat) ∧ (∃ s : State, Waiting s ⟨0x00, 1, []⟩) ∧
    (∃ (s : State) (c : Instr), requestFrame c = some ⟨0x01, 1, [0]⟩ ∧ Waiting s ⟨0x01, 1, [0]⟩ ∧ [(0 : Byte)].length ≠ 0) ∧
    (∃ (s : State) (c : Instr), requestFrame c = some ⟨0x06, 1, [0, 0, 3, 0, 0]⟩ ∧ Waiting s ⟨0x06, 1, [0, 0, 3, 0, 0]⟩) ∧
    ∃ (s : State) (c : Instr) (body : List Byte), requestFrame c = some ⟨0x06, 1, body⟩ ∧ Waiting s ⟨0x06, 1, body⟩ ∧
      (body.getD 1 0).toNat = 7 ∧ body.length ≠ 6 + (body.getD 5 0).toNat * 9 :=
  ⟨⟨_, waiting_waitingFor _ runState, by decide⟩, ⟨_, waiting_waitingFor _ runState⟩,
   ⟨_, .identify 1 [0], rfl, waiting_waitingFor _ runState, by decide⟩,
   ⟨_, .tableWrite 1 [0, 0, 3, 0, 0], rfl, waiting_waitingFor _ runState⟩,
   ⟨_, .tableWrite 1 [0, 7, 3, 0, 0, 1, 0], _, rfl, waiting_waitingFor _ runState, by decide +kernel⟩⟩

theorem witness_IdentifyReports : ∃ s : State, Waiting s ⟨0x01, 1, []⟩ := ⟨_, waiting_waitingFor _ runState⟩

/-- Pages 4 and 5, and page 1 with the option. -/
theorem witness_StatusReports :
    (∃ s : State, Waiting s ⟨0x02, 1, [5, 0]⟩ ∧ 4 < (5 : Byte).toNat) ∧
    (∃ s : State, Waiting s ⟨0x02, 1, [4, 1]⟩ ∧ (4 : Byte).toNat ≤ 4) ∧
    ∃ s : State, Waiting s ⟨0x02, 1, [1, 1]⟩ ∧ (1 : Byte).getLsbD 0 = true :=
  ⟨⟨_, waiting_waitingFor _ runState, by decide⟩, ⟨_, waiting_waitingFor _ runState, by decide⟩,
   ⟨_, waiting_waitingFor _ runState, by decide⟩⟩

theorem witness_ReadsChangeNothing :
    (∃ s : State, Waiting s ⟨0x0B, 1, []⟩ ∧ ∀ b ∈ s.scan.buffers, b.role ≠ .latest) ∧
    (∃ (s : State) (b : ProfileBuffer) (m : Summary), Waiting s ⟨0x0B, 1, []⟩ ∧
      s.scan.buffers.find? (fun x => x.role == .latest) = some b ∧ b.summary = some m) ∧
    (∃ s : State, Waiting s ⟨0x08, 1, []⟩) ∧ (∃ s : State, Waiting s ⟨0x0A, 1, [0, 20]⟩) ∧
    (∃ s : State, Waiting s ⟨0x0E, 1, [5]⟩) ∧ ∃ s : State, Waiting s ⟨0x10, 1, [6]⟩ :=
  ⟨⟨waitingFor ⟨0x0B, 1, []⟩ runState, waiting_waitingFor _ _, by decide +kernel⟩,
   ⟨waitingFor ⟨0x0B, 1, []⟩ (runState.onScan fun x => { x with
      buffers := [⟨.latest, some ⟨20, 1000, .a, .allReported, .empty, false, [], []⟩⟩] }), _, _,
     waiting_waitingFor _ _, rfl, rfl⟩,
   ⟨_, waiting_waitingFor _ runState⟩, ⟨_, waiting_waitingFor _ runState⟩, ⟨_, waiting_waitingFor _ runState⟩,
   ⟨_, waiting_waitingFor _ runState⟩⟩

/-- The line in a state, its fault line and causes weighed, with a LINE_STATE waiting. -/
def inState (st : LineState) (code : Byte) (s : State) : State :=
  weighHold (waitingFor ⟨0x03, 1, [code]⟩ (s.onLine fun l => { l with state := st }))

theorem causes_inState (st : LineState) (code : Byte) (s : State) : CausesWeighed (inState st code s) := by
  unfold CausesWeighed inState weighHold
  dsimp only
  split <;> rfl

theorem waiting_inState (st : LineState) (code : Byte) (s : State) : Waiting (inState st code s) ⟨0x03, 1, [code]⟩ := by
  unfold Waiting inState weighHold
  dsimp only
  split <;> exact ⟨rfl, rfl⟩

/-- Every row of R164: each line state is met with each target, with and without what the row asks for, an activation
pending among them. -/
theorem witness_LineStateIsJudged :
    (∀ (st : LineState) (code : Byte) (s : State),
      CausesWeighed (inState st code s) ∧ Waiting (inState st code s) ⟨0x03, 1, [code]⟩) ∧
    (∀ (st : LineState) (code : Byte), (inState st code runState).line.state = st) ∧
    (inState .idle 1 State.reset).store.geometry = none ∧
    ((inState .idle 1 runState).store.geometry ≠ none ∧ (inState .idle 1 runState).activeBank ≠ none ∧
      (inState .idle 1 runState).line.estopIn = false ∧ (inState .idle 1 runState).chain.encError = false) ∧
    (inState .idle 1 (runState.onLine fun l => { l with estopIn := true })).line.estopIn = true ∧
    (inState .standby 0 (withPieces [piece 20] runState)).chain.pieces ≠ [] ∧
    ((inState .standby 0 runState).chain.pieces = [] ∧ (inState .standby 0 runState).logs.queue = [] ∧
      (inState .standby 0 runState).output.chain = [] ∧ (inState .standby 0 runState).output.log = [] ∧
      (inState .standby 0 runState).store.pendingBank = none) ∧
    ∃ (s : State) (r : GovernorRow), s = inState .standby 0 (runState.onStore fun x => { x with
        bankB := { bank with state := .valid }, pendingBank := some .b }) ∧
      s.chain.pieces = [] ∧ s.logs.queue = [] ∧ s.output.chain = [] ∧ s.output.log = [] ∧
      s.store.pendingBank = some .b ∧ (s.bank .b).governor.rows.head? = some r :=
  ⟨fun st code s => ⟨causes_inState st code s, waiting_inState st code s⟩,
   fun st code => by unfold inState weighHold; dsimp only; split <;> rfl, by decide +kernel, by decide +kernel,
   by decide +kernel, by decide +kernel, by decide +kernel, _, _, rfl, rfl, rfl, rfl, rfl, rfl, rfl⟩

theorem witness_HaltIsCleared :
    (∃ s : State, CausesWeighed s ∧ Waiting s ⟨0x0D, 1, []⟩ ∧ s.line.state ≠ .halt) ∧
    ∃ s : State, CausesWeighed s ∧ Waiting s ⟨0x0D, 1, []⟩ ∧ s.line.state = .halt ∧ s.line.estopIn = false ∧
      s.chain.encError = false :=
  ⟨⟨waitingFor ⟨0x0D, 1, []⟩ runState, rfl, waiting_waitingFor _ _, by decide +kernel⟩,
   ⟨waitingFor ⟨0x0D, 1, []⟩ (weighHold (runState.onLine fun l => { l with state := .halt })), rfl,
     waiting_waitingFor _ _, rfl, rfl, rfl⟩⟩

/-- Good-lug runs of 7 and of 8 with a resync count of 8. -/
theorem witness_SuspectIsCleared :
    geo.resync = 8 ∧ (∀ n ∈ [7, 8], ∃ s : State, Waiting s ⟨0x0C, 1, []⟩ ∧ s.store.geometry = some geo ∧
      s.line.state ≠ .halt ∧ s.chain.suspect ≠ none ∧ s.chain.goodRun = n) ∧
    (∃ s : State, Waiting s ⟨0x0C, 1, []⟩ ∧ s.store.geometry = some geo ∧ s.line.state ≠ .halt ∧
      s.chain.suspect = none) ∧
    ∃ s : State, Waiting s ⟨0x0C, 1, []⟩ ∧ s.store.geometry = some geo ∧ s.line.state = .halt :=
  ⟨by decide +kernel,
   fun n _ => ⟨waitingFor ⟨0x0C, 1, []⟩ (runState.onChain fun c => { c with suspect := some .extra, goodRun := n }),
     waiting_waitingFor _ _, rfl, by change LineState.run ≠ .halt; decide, by
       change some SuspectCause.extra ≠ none; decide, rfl⟩,
   ⟨waitingFor ⟨0x0C, 1, []⟩ runState, waiting_waitingFor _ _, rfl, by decide +kernel, rfl⟩,
   ⟨waitingFor ⟨0x0C, 1, []⟩ (runState.onLine fun l => { l with state := .halt }), waiting_waitingFor _ _, rfl, rfl⟩⟩

/-- An open sequence with a piece and a log in flight; and one committed piece bound for bin 5, an answer owed. -/
theorem witness_LineResetLeaves :
    (∃ s : State, Waiting s ⟨0x04, 1, []⟩ ∧ s.store.sequence = some ⟨.b, .log, 0⟩ ∧ (s.bank .b).state = .loading ∧
      s.chain.pieces ≠ [] ∧ s.logs.queue ≠ []) ∧
    ∃ (s : State) (p : Piece) (x : Bin), Waiting s ⟨0x04, 1, []⟩ ∧
      (∀ q, s.store.sequence = some q → (s.bank q.bank).state = .loading) ∧ s.chain.pieces = [p] ∧
      p.dest = some (.bin 5) ∧ s.bins[5]? = some x ∧ s.panels.answers ≠ [] ∧ (∀ a ∈ s.panels.answers, a.lug = p.lug) ∧
      (s.panels.port .p2).present = false :=
  ⟨⟨waitingFor ⟨0x04, 1, []⟩ ((withLog logRecord (withPieces [keeper] runState)).onStore fun st => { st with
      sequence := some ⟨.b, .log, 0⟩, bankB := { st.bankB with state := .loading } }), waiting_waitingFor _ _, rfl, rfl,
     by decide +kernel⟩,
   ⟨waitingFor ⟨0x04, 1, []⟩ ((withPieces [{ keeper with dest := some (.bin 5) }] runState).onPanels fun p =>
      { p with answers := [⟨11, 1, .p1, 7⟩], p1 := { p.p1 with present := true } }), _, _, waiting_waitingFor _ _,
     (by intro q h; cases h), rfl, rfl, rfl, by decide +kernel⟩⟩

/-- The items of `geo` as a body, and the same with its last item (12) at 0. -/
def geoBody (last : Nat) : List Byte :=
  (([256, 16, 8, 8, 3, 1, 5, 6, 10, 14, 32, 40] ++ (List.range 48).map (fun b => 16 + b) ++
    [20, 60, 70, 10, 5, 4, 600, 200, 400, last] : List Nat)).flatMap put4

theorem witness_GeometryIsWritten :
    ((geoBody 12).length = 280 ∧ ∀ i, i < 70 →
      (Geometry.ofItems ((List.range 70).map fun i => u32At (geoBody 12) (4 * i))).itemOk i = true) ∧
    ((geoBody 0).length = 280 ∧
      (Geometry.ofItems ((List.range 70).map fun i => u32At (geoBody 0) (4 * i))).itemOk 69 = false ∧
      ∀ j, j < 69 → (Geometry.ofItems ((List.range 70).map fun i => u32At (geoBody 0) (4 * i))).itemOk j = true) ∧
    (∃ s : State, Waiting s ⟨0x05, 1, geoBody 12⟩ ∧ s.line.state ≠ .idle) ∧
    ∃ s : State, Waiting s ⟨0x05, 1, geoBody 12⟩ ∧ s.line.state = .idle :=
  ⟨by decide +kernel, by decide +kernel,
   ⟨waitingFor ⟨0x05, 1, geoBody 12⟩ runState, waiting_waitingFor _ _, by change LineState.run ≠ .idle; decide⟩,
   ⟨waitingFor ⟨0x05, 1, geoBody 12⟩ State.reset, waiting_waitingFor _ _, rfl⟩⟩

/-- A GOVERNOR entry for bank B. -/
def govEntry : List Byte := [0, 6, 20, 2, 1, 12, 6, 3, 3]

/-- Codes 2 and 8; counts 0 and 129; a frame taken; a frame for the ACTIVE bank; one with no sequence open. -/
theorem witness_TableWritesAreJudged :
    (∃ s : State, Waiting s ⟨0x06, 1, [2, 7, 3, 0, 0, 1] ++ govEntry⟩) ∧
    Request.tableWrite.lengthOk ([2, 7, 3, 0, 0, 1] ++ govEntry) = true ∧
    (∃ s : State, Waiting s ⟨0x06, 1, [0, 8, 3, 0, 0, 1] ++ govEntry⟩) ∧
    (∃ s : State, Waiting s ⟨0x06, 1, [1, 7, 3, 0, 0, 0] ++ []⟩ ∧ ([] : List Byte).length = 0 * 9) ∧
    (∃ s : State, Waiting s ⟨0x06, 1, [0, 7, 3, 0, 0, 1] ++ govEntry⟩ ∧ (s.bank .a).state = .active ∧
      s.store.sequence = none) ∧
    (∃ s : State, Waiting s ⟨0x06, 1, [1, 7, 2, 0, 0, 1] ++ govEntry⟩ ∧ s.store.sequence = none) ∧
    ∃ s : State, Waiting s ⟨0x06, 1, [1, 7, 3, 0, 0, 1] ++ govEntry⟩ ∧ govEntry.length = 1 * TableKind.governor.entrySize ∧
      0 + 1 ≤ TableKind.governor.total ∧ s.store.sequence = none ∧ (s.bank .b).state ≠ .active ∧
      s.store.pendingBank ≠ some .b ∧ (∀ p ∈ s.chain.pieces, p.bank ≠ .b) ∧ ∀ l ∈ s.logs.queue, l.bank ≠ .b :=
  ⟨⟨_, waiting_waitingFor _ runState⟩, by decide +kernel, ⟨_, waiting_waitingFor _ runState⟩,
   ⟨_, waiting_waitingFor _ runState, rfl⟩, ⟨waitingFor _ runState, waiting_waitingFor _ _, rfl, rfl⟩,
   ⟨waitingFor _ runState, waiting_waitingFor _ _, rfl⟩,
   ⟨waitingFor ⟨0x06, 1, [1, 7, 3, 0, 0, 1] ++ govEntry⟩ runState, waiting_waitingFor _ _, by decide +kernel⟩⟩

/-- The part with bank B VALID, in a line state, with an activation of B waiting. -/
def activating (st : LineState) : State :=
  waitingFor ⟨0x07, 1, [1]⟩ ((runState.onLine fun l => { l with state := st }).onStore fun x => { x with
    bankB := { bank with state := .valid } })

theorem witness_BankIsActivated :
    (∃ s : State, Waiting s ⟨0x07, 1, [2]⟩ ∧ 1 < (2 : Byte).toNat) ∧
    (∃ s : State, Waiting s ⟨0x07, 1, [0]⟩ ∧ (s.bank .a).state ≠ .valid) ∧
    (∃ s : State, Waiting s ⟨0x07, 1, [1]⟩ ∧ (s.bank .b).state = .valid ∧ s.store.pendingBank ≠ none) ∧
    (∃ s : State, Waiting s ⟨0x07, 1, [1]⟩ ∧ (s.bank .b).state = .valid ∧ s.store.pendingBank = none ∧
      s.line.state ≠ .idle) ∧
    ∃ (s : State) (r : GovernorRow), Waiting s ⟨0x07, 1, [1]⟩ ∧ (s.bank .b).state = .valid ∧
      s.store.pendingBank = none ∧ s.line.state = .idle ∧ (s.bank .b).governor.rows.head? = some r :=
  ⟨⟨_, waiting_waitingFor _ runState, by decide⟩,
   ⟨waitingFor ⟨0x07, 1, [0]⟩ runState, waiting_waitingFor _ _, by decide +kernel⟩,
   ⟨(activating .run).onStore fun x => { x with pendingBank := some .a }, ⟨rfl, rfl⟩, rfl, by decide +kernel⟩,
   ⟨activating .run, waiting_waitingFor _ _, rfl, rfl, by decide +kernel⟩,
   ⟨activating .idle, _, waiting_waitingFor _ _, rfl, rfl, rfl, rfl⟩⟩

/-- Bin numbers 47 and 48; a capacity at and below count + reserved; action codes 4 and 5. -/
theorem witness_BinCommandsAct :
    (∃ s : State, Waiting s ⟨0x09, 1, [48, 0] ++ bytes16 3⟩ ∧ s.bins.length ≤ (48 : Byte).toNat) ∧
    (∃ (s : State) (x : Bin), Waiting s ⟨0x09, 1, [47, 0] ++ bytes16 2⟩ ∧ s.bins[(47 : Byte).toNat]? = some x ∧
      (2 : BitVec 16).toNat < x.count + x.reserved) ∧
    (∃ (s : State) (x : Bin), Waiting s ⟨0x09, 1, [47, 0] ++ bytes16 3⟩ ∧ s.bins[(47 : Byte).toNat]? = some x ∧
      x.count + x.reserved ≤ (3 : BitVec 16).toNat) ∧
    (∃ (s : State) (x : Bin), Waiting s ⟨0x09, 1, [47, 3] ++ bytes16 0⟩ ∧ s.bins[(47 : Byte).toNat]? = some x) ∧
    ∃ (s : State) (x : Bin), Waiting s ⟨0x09, 1, [47, 5] ++ bytes16 0⟩ ∧ s.bins[(47 : Byte).toNat]? = some x ∧
      4 < (5 : Byte).toNat := by
  let s := runState.onBins fun l => l.set 47 ⟨.opened, 5, 2, 1, false, 0⟩
  exact ⟨⟨_, waiting_waitingFor _ s, by decide +kernel⟩, ⟨_, _, waiting_waitingFor _ s, rfl, by decide +kernel⟩,
    ⟨_, _, waiting_waitingFor _ s, rfl, by decide +kernel⟩, ⟨_, _, waiting_waitingFor _ s, rfl⟩,
    ⟨_, _, waiting_waitingFor _ s, rfl, by decide⟩⟩

theorem witness_BinGoesOutOfService :
    ∃ (s : State) (x : Bin), Waiting s ⟨0x09, 1, [5, 4] ++ bytes16 0⟩ ∧ s.bins[(5 : Byte).toNat]? = some x ∧
      (s.chain.pieces.map Piece.lug).Nodup ∧
      (s.chain.pieces.filter fun p => p.dest == some (.bin (5 : Byte).toNat)).map Piece.lug = [11] := by
  let s := (withPieces [{ keeper with stage := .committed, dest := some (.bin 5) }] runState).onBins fun l =>
    l.set 5 ⟨.opened, 5, 2, 1, false, 0⟩
  exact ⟨waitingFor ⟨0x09, 1, [5, 4] ++ bytes16 0⟩ s, _, waiting_waitingFor _ _, rfl, by decide +kernel⟩

theorem witness_SnapshotIsMadeAndReleased :
    (∃ (s : State) (h : Snapshot), Waiting s ⟨0x0F, 1, []⟩ ∧ s.tally.snapshot = some h) ∧
    (∃ (s : State) (p : Period), Waiting s ⟨0x0F, 1, []⟩ ∧ s.tally = ⟨p, none⟩ ∧ p.number = 2 ^ 32 - 1) ∧
    (∃ (s : State) (h : Snapshot), Waiting s ⟨0x11, 1, []⟩ ∧ s.tally.snapshot = some h) ∧
    ∃ s : State, Waiting s ⟨0x11, 1, []⟩ ∧ s.tally.snapshot = none :=
  ⟨⟨waitingFor ⟨0x0F, 1, []⟩ (runState.onTally Tally.close), _, waiting_waitingFor _ _, rfl⟩,
   ⟨waitingFor ⟨0x0F, 1, []⟩ (runState.onTally fun _ => ⟨Period.fresh (2 ^ 32 - 1), none⟩), _, waiting_waitingFor _ _,
     rfl, rfl⟩,
   ⟨waitingFor ⟨0x11, 1, []⟩ (runState.onTally Tally.close), _, waiting_waitingFor _ _, rfl⟩,
   ⟨waitingFor ⟨0x11, 1, []⟩ runState, waiting_waitingFor _ _, rfl⟩⟩

/-- A HELLO with no geometry set loaded (mark offset 0), the waiting messages of P1 with room. -/
theorem witness_HelloIsAnswered : ∃ s : State, s.store.geometry = none ∧ (s.panels.port .p1).queue.length < 160 :=
  ⟨State.reset, by decide +kernel⟩

end Sys2Proof.Tests
end

section
/-! SUPPORT. The suspect condition (R21): what each of its parts does to the state, and the whole against
`SuspectSet` and `SuspectNoticed`. -/

namespace Sys2Proof.Machine

/-! ### Notice pressure along a fold -/

/-- A fold whose every step changes nothing of the governor but notice pressure changes nothing else of it. -/
theorem foldl_onlyPressure {α : Type} (f : State → α → State) (h : ∀ t a, OnlyPressure t (f t a)) (l : List α)
    (s : State) : OnlyPressure s (l.foldl f s) := by
  induction l generalizing s with
  | nil => exact .refl s
  | cons a l ih => exact (h s a).trans (ih (f s a))

/-- A governor left as it is has had nothing but notice pressure changed. -/
theorem OnlyPressure.of_eq {s t : State} (h : t.governor = s.governor) : OnlyPressure s t := by
  unfold OnlyPressure; rw [h]

/-! ### Reservations released (R121) -/

/-- A bin after `n` of its reservations have been released and its full flag weighed (R112, R121). -/
def Bin.released (n : Nat) (x : Bin) : Bin :=
  { x with reserved := x.reserved - n, full := decide (x.capacity ≤ x.count + (x.reserved - n)) }

theorem Bin.released_released (m n : Nat) (x : Bin) : (x.released m).released n = x.released (m + n) := by
  simp [Bin.released, Nat.sub_sub]

theorem releaseBin_bins (i : Nat) (s : State) : (releaseBin i s).bins = setAt s.bins i (Bin.released 1) := by
  unfold releaseBin changeBin
  cases h : s.bins[i]? with
  | none =>
    have hl : s.bins.length ≤ i := List.getElem?_eq_none_iff.mp h
    rw [weighBin_absent] <;> simp [setAt, List.modify_eq_self, hl]
  | some x =>
    have hb : (s.onBins fun l => setAt l i fun b => { b with reserved := b.reserved - 1 }).bins[i]? =
        some { x with reserved := x.reserved - 1 } := by simp [setAt, h]
    obtain ⟨bins, _⟩ := weighBin_spec i .release _ _ hb
    rw [bins]
    simp only [State.onBins_bins, setAt_eq_set _ _ _ _ h, List.set_set]
    rfl

theorem releaseBin_onlyPressure (i : Nat) (s : State) : OnlyPressure s (releaseBin i s) := by
  unfold releaseBin changeBin
  cases hb : (s.onBins fun l => setAt l i fun b => { b with reserved := b.reserved - 1 }).bins[i]? with
  | none => rw [weighBin_absent _ _ _ hb]; exact .of_eq rfl
  | some b =>
    obtain ⟨_, _, pressure, _⟩ := weighBin_spec i .release _ b hb
    exact pressure

/-- A reservation released in each bin of a list, one after another. -/
def releaseBins (l : List Nat) (s : State) : State := l.foldl (fun t b => releaseBin b t) s

@[simp] theorem releaseBins_frame (l : List Nat) (s : State) :
    (releaseBins l s).chain = s.chain ∧ (releaseBins l s).output = s.output ∧ (releaseBins l s).line = s.line := by
  simp [releaseBins, foldl_keeps State.chain, foldl_keeps State.output, foldl_keeps State.line]

theorem releaseBins_onlyPressure (l : List Nat) (s : State) : OnlyPressure s (releaseBins l s) :=
  foldl_onlyPressure _ (fun t b => releaseBin_onlyPressure b t) l s

theorem releaseBins_length (l : List Nat) (s : State) : (releaseBins l s).bins.length = s.bins.length :=
  foldl_keeps (fun t => t.bins.length) _ (fun t b => by simp [releaseBin_bins, setAt]) l s

/-- A bin is released as often as the list names it, and stands as it was where the list does not. -/
theorem releaseBins_getElem? (l : List Nat) (s : State) (b : Nat) :
    (releaseBins l s).bins[b]? =
      if l.count b = 0 then s.bins[b]? else s.bins[b]?.map (Bin.released (l.count b)) := by
  induction l generalizing s with
  | nil => rfl
  | cons a l ih =>
    have step : (releaseBins (a :: l) s).bins[b]? = (releaseBins l (releaseBin a s)).bins[b]? := rfl
    rw [step, ih, releaseBin_bins, setAt, List.getElem?_modify, List.count_cons]
    by_cases hab : a = b
    · by_cases hl : l.count b = 0
      · simp [hab, hl]
      · simp [hab, hl, Bin.released_released, Nat.add_comm, Function.comp_def]
    · simp [hab]

/-! ### Entries cancelled in OWNER mode (R106) -/

@[simp] theorem cancelOwner_output_chain (lug : LugNo) (s : State) :
    (cancelOwner lug s).output.chain = s.output.chain.filter fun e => e.on || e.owner != lug := rfl

@[simp] theorem cancelOwner_output_log (lug : LugNo) (s : State) : (cancelOwner lug s).output.log = s.output.log := rfl

/-- The WAITING chain entries of each lug of a list removed. -/
def cancelOwners (l : List LugNo) (s : State) : State := l.foldl (fun t lug => cancelOwner lug t) s

@[simp] theorem cancelOwners_frame (l : List LugNo) (s : State) :
    (cancelOwners l s).chain = s.chain ∧ (cancelOwners l s).bins = s.bins ∧
    (cancelOwners l s).governor = s.governor ∧ (cancelOwners l s).line = s.line ∧
    (cancelOwners l s).link = s.link := by
  simp [cancelOwners, foldl_keeps State.chain, foldl_keeps State.bins, foldl_keeps State.governor,
    foldl_keeps State.line, foldl_keeps State.link]

@[simp] theorem cancelOwners_output_log (l : List LugNo) (s : State) :
    (cancelOwners l s).output.log = s.output.log :=
  foldl_keeps (fun t => t.output.log) (fun t lug => cancelOwner lug t) (fun _ _ => rfl) l s

@[simp] theorem cancelOwners_output_chain (l : List LugNo) (s : State) :
    (cancelOwners l s).output.chain = s.output.chain.filter fun e => e.on || !l.contains e.owner := by
  induction l generalizing s with
  | nil => simp [cancelOwners]
  | cons a l ih =>
    have step : cancelOwners (a :: l) s = cancelOwners l (cancelOwner a s) := rfl
    rw [step, ih, cancelOwner_output_chain, List.filter_filter]
    refine List.filter_congr fun e _ => ?_
    rw [List.contains_cons]
    cases e.on <;> cases h : e.owner == a <;> simp [bne, h]

/-! ### The condition set (R21) -/

/-- The records not suspect yet, which setting the suspect condition marks (R21). -/
def State.unsuspected (s : State) : List Piece := s.chain.pieces.filter fun p => p.suspect.isNone

/-- The condition and the records marked (R21 steps 1 and 2), which changes the chain block alone. -/
abbrev State.suspectMarked (s : State) (cause : SuspectCause) : State :=
  s.onChain fun c => { c with suspect := some cause, pieces := c.pieces.map (Piece.markSuspect cause) }

/-- The suspect condition set, short of its notice (R21 steps 1 to 3). -/
def suspectUnnoticed (cause : SuspectCause) (s : State) : State :=
  cancelOwners (s.unsuspected.map Piece.lug)
    (releaseBins (s.unsuspected.filterMap Piece.reservedBin) (s.suspectMarked cause))

theorem setSuspect_eq (cause : SuspectCause) (s : State) :
    setSuspect cause s =
      if s.chain.suspect.isNone then lineEvent .suspectSet (some (.suspect cause)) none (suspectUnnoticed cause s)
      else suspectUnnoticed cause s := rfl

/-- A view of the state that a LINE_EVENT keeps is settled before the notice. -/
theorem setSuspect_view {β : Type} (P : State → β) (h : ∀ k c l t, P (lineEvent k c l t) = P t) (cause : SuspectCause)
    (s : State) : P (setSuspect cause s) = P (suspectUnnoticed cause s) := by
  rw [setSuspect_eq]; split
  · exact h _ _ _ _
  · rfl

theorem setSuspect_chain (cause : SuspectCause) (s : State) :
    (setSuspect cause s).chain =
      { s.chain with suspect := some cause, pieces := s.chain.pieces.map (Piece.markSuspect cause) } := by
  rw [setSuspect_view State.chain (by simp)]; simp [suspectUnnoticed]

theorem setSuspect_output_chain (cause : SuspectCause) (s : State) :
    (setSuspect cause s).output.chain =
      s.output.chain.filter fun e => e.on || !(s.unsuspected.map Piece.lug).contains e.owner := by
  rw [setSuspect_view (fun t => t.output.chain) (by simp)]; simp [suspectUnnoticed]

theorem setSuspect_output_log (cause : SuspectCause) (s : State) :
    (setSuspect cause s).output.log = s.output.log := by
  rw [setSuspect_view (fun t => t.output.log) (by simp)]; simp [suspectUnnoticed]

theorem setSuspect_bins (cause : SuspectCause) (s : State) :
    (setSuspect cause s).bins =
      (releaseBins (s.unsuspected.filterMap Piece.reservedBin) (s.suspectMarked cause)).bins := by
  rw [setSuspect_view State.bins (by simp)]; simp [suspectUnnoticed]

theorem suspectUnnoticed_onlyPressure (cause : SuspectCause) (s : State) :
    OnlyPressure s (suspectUnnoticed cause s) := by
  have released := releaseBins_onlyPressure (s.unsuspected.filterMap Piece.reservedBin) (s.suspectMarked cause)
  exact .trans (t := s.suspectMarked cause) (.of_eq rfl) (released.trans (.of_eq (by simp [suspectUnnoticed])))

/-- Setting the suspect condition changes nothing of the governor but notice pressure. -/
theorem setSuspect_onlyPressure (cause : SuspectCause) (s : State) : OnlyPressure s (setSuspect cause s) := by
  have quiet := suspectUnnoticed_onlyPressure cause s
  rw [setSuspect_eq]; split
  · exact quiet.trans (lineEvent_onlyPressure _ _ _ _)
  · exact quiet

theorem Piece.markSuspect_eq_nowSuspect (cause : SuspectCause) (p : Piece) :
    p.markSuspect cause = p.nowSuspect cause := by
  unfold Piece.markSuspect Piece.nowSuspect Piece.reservedBin
  cases p.suspect with
  | some c => rfl
  | none => rcases p.dest with _ | ⟨_ | _⟩ <;> rfl

/-- The reservations released in a bin are those its unsuspect pieces hold. -/
theorem count_reservedBin (s : State) (b : Nat) :
    (s.unsuspected.filterMap Piece.reservedBin).count b = s.boundFor b := by
  rw [List.count_filterMap, State.unsuspected, List.countP_filter, State.boundFor]
  exact List.countP_congr fun p _ => by simp [and_comm]

theorem setSuspect_suspectSet (cause : SuspectCause) (s : State) : SuspectSet cause s (setSuspect cause s) := by
  have bin : ∀ b, (setSuspect cause s).bins[b]? =
      if s.boundFor b = 0 then s.bins[b]? else s.bins[b]?.map (Bin.released (s.boundFor b)) := by
    intro b
    rw [setSuspect_bins, releaseBins_getElem?, count_reservedBin]; rfl
  refine ⟨?condition, ?records, ?bins, ?untouched, ?released⟩
  case condition => rw [setSuspect_chain]
  case records =>
    rw [setSuspect_chain]
    exact List.map_congr_left fun p _ => p.markSuspect_eq_nowSuspect cause
  case bins => rw [setSuspect_bins, releaseBins_length]; rfl
  case untouched => intro b h; rw [bin, if_pos h]
  case released => intro b x hx h; rw [bin, if_neg (by omega), hx]; rfl

/-- `SuspectSet` speaks of the records and bins before, and of the condition, the records and the bins after. -/
theorem SuspectSet.of_same {cause : SuspectCause} {s s' t t' : State} (h : SuspectSet cause s t)
    (pieces : s'.chain.pieces = s.chain.pieces) (bins : s'.bins = s.bins) (chain : t'.chain = t.chain)
    (binsAfter : t'.bins = t.bins) : SuspectSet cause s' t' := by
  obtain ⟨condition, records, number, untouched, released⟩ := h
  have bound : ∀ b, s'.boundFor b = s.boundFor b := fun b => by unfold State.boundFor; rw [pieces]
  refine ⟨?_, ?_, ?_, ?_, ?_⟩ <;> simp only [pieces, bins, chain, binsAfter, bound] <;> assumption

/-- With the good-lug run at 0 the notice is the one R21 names. -/
theorem setSuspect_suspectNoticed (cause : SuspectCause) (s : State) (run : s.chain.goodRun = 0) :
    SuspectNoticed cause s (setSuspect cause s) := by
  intro unbound
  have noBins : s.unsuspected.filterMap Piece.reservedBin = [] :=
    List.eq_nil_iff_forall_not_mem.mpr fun b hb =>
      absurd (count_reservedBin s b ▸ unbound b) (Nat.ne_of_gt (List.count_pos_iff.mpr hb))
  have quiet : (suspectUnnoticed cause s).link = s.link := by
    simp [suspectUnnoticed, noBins, releaseBins]
  rw [setSuspect_eq]
  cases h : s.chain.suspect with
  | some c => simp [quiet]
  | none =>
    simp only [Option.isNone_none, if_true, lineEvent_link, quiet]
    simp [suspectUnnoticed, run]

end Sys2Proof.Machine
end

section
/-! SUPPORT. What a lug advance keeps of the chain tracker and of line control: the whole chain block but the lug
number, c0, the good-lug run and the piece queue with its two lifetime counts, and line control but its counters. -/

namespace Sys2Proof.Machine

/-- The chain block without the piece queue and its lifetime counts, and line control without its counters: what the
stations of an advance leave alone. -/
def State.course (s : State) : Chain × Line :=
  ({ s.chain with pieces := [], admitted := 0, finished := 0 }, { s.line with counters := .zero })

theorem State.course_eq_iff {s t : State} :
    t.course = s.course ↔
      t.chain = { s.chain with pieces := t.chain.pieces, admitted := t.chain.admitted, finished := t.chain.finished } ∧
      t.line = { s.line with counters := t.line.counters } := by
  obtain ⟨tc, _, _, _, _, _, _, _, _, _, tl, _, _, _⟩ := t
  obtain ⟨sc, _, _, _, _, _, _, _, _, _, sl, _, _, _⟩ := s
  cases tc; cases sc; cases tl; cases sl
  simp [State.course]

variable (s : State)

@[simp] theorem countFault_course (x : LineFault) : (countFault x s).course = s.course := rfl

@[simp] theorem changePiece_course (lug : LugNo) (f : Piece → Piece) : (changePiece lug f s).course = s.course := rfl

@[simp] theorem finishPiece_course (lug : LugNo) (o : PieceOutcome) : (finishPiece lug o s).course = s.course := by
  unfold finishPiece; split
  · rfl
  · simp [State.course]

/-! ### The solver and the close of a profile -/

@[simp] theorem startSolve_course : (startSolve s).course = s.course := by
  unfold startSolve; dsimp only; repeat' split
  all_goals rfl

@[simp] theorem setSolveState_course (lug : LugNo) (st : SolveState) : (setSolveState lug st s).course = s.course := rfl

@[simp] theorem joinSolver_course (lug : LugNo) : (joinSolver lug s).course = s.course := by
  unfold joinSolver; rw [startSolve_course, setSolveState_course]; rfl

@[simp] theorem completeEmpty_course (lug : LugNo) : (completeEmpty lug s).course = s.course := by
  unfold completeEmpty; split
  · rfl
  · simp [State.course, changePiece]

@[simp] theorem requestAtClose_course (lug : LugNo) : (requestAtClose lug s).course = s.course := by
  unfold requestAtClose; repeat' split
  all_goals simp

@[simp] theorem solverCommitted_course (lug : LugNo) : (solverCommitted lug s).course = s.course := by
  unfold solverCommitted; split <;> rfl

@[simp] theorem closeProfile_course (lug : LugNo) (cause : CloseCause) :
    (closeProfile lug cause s).course = s.course := by
  unfold closeProfile; repeat' split
  · rfl
  · exact (requestAtClose_course _ lug).trans (changePiece_course s lug _)
  · rfl

/-! ### The commit, the saw line, the drop and the run-out -/

@[simp] theorem reserveBin_course (i : Nat) : (reserveBin i s).course = s.course := by simp [State.course]

@[simp] theorem releaseBin_course (i : Nat) : (releaseBin i s).course = s.course := by simp [State.course]

@[simp] theorem writeCommit_course (lug : LugNo) (d : Dest) (o : Option PieceOutcome) (full : Bool) :
    (writeCommit lug d o full s).course = s.course := by
  have paid : ∀ t, (payLapsed lug .committed t).course = t.course := fun t => by simp [State.course]
  simp [writeCommit, paid]

theorem addEntries_course {s t : State} {enc : EncoderId} {es : List Entry} (h : addEntries enc es s = some t) :
    t.course = s.course := by
  have frame := addEntries_frame h
  simp [State.course, frame]

@[simp] theorem commitPiece_course (g : Geometry) (c : Count) (lug : LugNo) :
    (commitPiece g c lug s).course = s.course := by
  have reserved : ∀ bin : Option Nat, (bin.elim s fun b => reserveBin b s).course = s.course := by
    rintro (_ | b) <;> simp
  have freed : ∀ (bin : Option Nat) t, (bin.elim t fun b => releaseBin b t).course = t.course := by
    rintro (_ | b) t <;> simp
  unfold commitPiece; dsimp only
  repeat' split
  · rfl
  · simp [reserved]
  · rename_i taken
    simp [addEntries_course taken, reserved]
  · simp [freed, reserved]

@[simp] theorem passSaw_course (lug : LugNo) : (passSaw lug s).course = s.course := by
  unfold passSaw; dsimp only; repeat' split
  all_goals simp

@[simp] theorem dropPiece_course (b : Nat) (lug : LugNo) : (dropPiece b lug s).course = s.course := by
  unfold dropPiece; rw [finishPiece_course]; rfl

@[simp] theorem runOutPiece_course (lug : LugNo) : (runOutPiece lug s).course = s.course := by
  unfold runOutPiece; split <;> simp

/-! ### The stations and the advance -/

@[simp] theorem visitStations_course (g : Geometry) (c : Count) (lug : LugNo) :
    (visitStations g c s lug).course = s.course := by
  have moisture : ∀ t, (triggerMoisture lug t).course = t.course := fun t => by simp [State.course]
  have marked : ∀ p t, (markPiece p lug t).course = t.course := fun p t => by simp [State.course]
  unfold visitStations; dsimp only
  generalize dropAt g _ _ lug = d
  cases d <;> simp [onlyIf_keeps State.course, moisture, marked]

@[simp] theorem runStations_course (c : Count) : (runStations c s).course = s.course := by
  unfold runStations; split
  · rfl
  · exact foldl_keeps State.course _ (fun t lug => visitStations_course t _ c lug) _ s

@[simp] theorem admitPiece_course (c : Count) (eye : Bool) : (admitPiece c eye s).course = s.course := by
  have noted : ∀ lug b t, (recordHistory lug b t).course = t.course := fun lug b t => by simp [State.course]
  have weighed : ∀ lug t, (weighAdmission lug t).course = t.course := fun lug t => by
    unfold weighAdmission; split <;> simp
  unfold admitPiece; split
  · rw [noted, weighed]; rfl
  · rw [noted]

/-- An advance moves the lug number, c0 and the good-lug run, and the rest of the tracker's course stands (R11). -/
theorem lugAdvance_course (c : Count) (good eye : Bool) :
    (lugAdvance c good eye s).course = (s.onChain fun ch =>
      { ch with lug := ch.lug + 1, c0 := c, goodRun := if good then min 255 (ch.goodRun + 1) else ch.goodRun }).course := by
  have stepped : ∀ t, (stepGovernor t).course = t.course := fun t => by simp [State.course]
  have aged : ∀ t, (ageMoisture t).course = t.course := fun t => by simp [State.course]
  have sent : ∀ lug t, (sendLug lug t).course = t.course := fun lug t => by
    unfold sendLug; split <;> rfl
  have eyed : ∀ t : State, (t.onScan fun x => { x with eye }).course = t.course := fun _ => rfl
  have activated : ∀ t, (takePending t).course = t.course := fun t => by simp [State.course]
  unfold lugAdvance; dsimp only
  rw [stepped, runStations_course, aged, admitPiece_course, sent, eyed, activated]

/-- The chain block after an advance, the piece queue and its lifetime counts left open. -/
theorem lugAdvance_chain (c : Count) (good eye : Bool) :
    (lugAdvance c good eye s).chain = { s.chain with
      lug := s.chain.lug + 1, c0 := c
      goodRun := if good then min 255 (s.chain.goodRun + 1) else s.chain.goodRun
      pieces := (lugAdvance c good eye s).chain.pieces
      admitted := (lugAdvance c good eye s).chain.admitted
      finished := (lugAdvance c good eye s).chain.finished } :=
  (State.course_eq_iff.mp (lugAdvance_course s c good eye)).1

/-- Line control after an advance: nothing but its counters has changed. -/
theorem lugAdvance_line (c : Count) (good eye : Bool) :
    (lugAdvance c good eye s).line = { s.line with counters := (lugAdvance c good eye s).line.counters } :=
  (State.course_eq_iff.mp (lugAdvance_course s c good eye)).2

/-! ### The geometry set -/

@[simp] theorem onBank_geometry (x : BankId) (f : Bank → Bank) : (onBank x f s).store.geometry = s.store.geometry := by
  cases x <;> rfl

@[simp] theorem takePending_geometry : (takePending s).store.geometry = s.store.geometry := by
  unfold takePending takeActivation
  cases s.store.pendingBank with
  | none => rfl
  | some x =>
    cases s.activeBank <;> simp only [Option.elim] <;> (generalize Bank.governorRow _ = r; cases r <;> simp)

@[simp] theorem lugAdvance_geometry (c : Count) (good eye : Bool) :
    (lugAdvance c good eye s).store.geometry = s.store.geometry := by
  simp [lugAdvance]

end Sys2Proof.Machine
end

section
/-! PROOF. Lug edges judged (R5 to R7): a good edge is an advance, an early one an EXTRA lug. -/

namespace Sys2Proof.Machine

/-! ### The geometry set in range (R178) -/

theorem Geometry.itemOk_of_inRange {g : Geometry} (h : g.firstBad = none) {i : Nat} (hi : i < 70) :
    g.itemOk i = true := by
  have bad := List.find?_eq_none.mp h i (List.mem_range.mpr hi)
  simpa using bad

theorem Geometry.pitch_inRange {g : Geometry} (h : g.firstBad = none) : 64 ≤ g.pitch ∧ g.pitch ≤ 65535 :=
  of_decide_eq_true (g.itemOk_of_inRange h (i := 0) (by omega))

theorem Geometry.windowTol_inRange {g : Geometry} (h : g.firstBad = none) :
    1 ≤ g.windowTol ∧ g.windowTol ≤ g.pitch / 4 :=
  of_decide_eq_true (g.itemOk_of_inRange h (i := 1) (by omega))

/-- The count of a lug stands before the window of the next (R6): the window starts at least 48 counts on. -/
theorem windowStart_not_reached {g : Geometry} (h : g.firstBad = none) (c : Count) :
    reached c (windowStart g c) = false := by
  obtain ⟨_, hp⟩ := g.pitch_inRange h
  obtain ⟨_, ht⟩ := g.windowTol_inRange h
  have pitch : (BitVec.ofNat 32 g.pitch).toNat = g.pitch := by simp; omega
  have tol : (BitVec.ofNat 32 g.windowTol).toNat = g.windowTol := by simp; omega
  unfold reached windowStart
  generalize BitVec.ofNat 32 g.pitch = p at pitch
  generalize BitVec.ofNat 32 g.windowTol = t at tol
  rw [decide_eq_false_iff_not]
  bv_omega

/-! ### The judgement -/

theorem EdgeJudged.atHighest {s : State} {g : Geometry} (h : EdgeJudged s g) : s.chain.count = s.chain.highest := by
  obtain ⟨_, _, _, highest⟩ := h
  exact highest

theorem judging_of_edgeJudged {s : State} {g : Geometry} (h : EdgeJudged s g) : s.judging = some g := by
  obtain ⟨active, hold, geometry, _⟩ := h
  simp [State.judging, State.tracking, active, hold, geometry]

/-- A judged edge before the window's start is an EXTRA lug (R7). -/
theorem judgeEdge_early {s : State} {g : Geometry} (eye : Bool) (h : EdgeJudged s g) (lock : s.chain.lockOn = false)
    (early : reached s.chain.count (windowStart g s.chain.c0) = false) : judgeEdge eye s = extraLug s := by
  rw [h.atHighest] at early
  simp [judgeEdge, judging_of_edgeJudged h, h.atHighest, lock, early]

/-- Lock-on disarmed (R5). -/
abbrev State.disarmed (s : State) : State := s.onChain fun c => { c with lockOn := false }

/-- A good lug edge is an advance at the count, with lock-on disarmed (R5, R6). -/
theorem judgeEdge_good {s : State} {g : Geometry} (eye : Bool) (h : EdgeGood s g) :
    judgeEdge eye s = lugAdvance s.chain.count true eye s.disarmed := by
  obtain ⟨judged, good⟩ := h
  have highest := judged.atHighest
  unfold judgeEdge
  rw [judging_of_edgeJudged judged]
  cases lock : s.chain.lockOn with
  | true => simp [highest]
  | false =>
    obtain armed | ⟨entered, inside⟩ := good
    · rw [lock] at armed; cases armed
    · have disarmed : s.disarmed = s := by
        unfold State.disarmed State.onChain; rw [← lock]
      simp only [windowStart, windowPast, entered, inside, disarmed]
      simp [highest]

/-! ### The EXTRA lug (R7) -/

/-- The state in which an EXTRA lug sets the suspect condition: the good-lug run is 0. -/
abbrev State.runLost (s : State) : State := s.onChain fun c => { c with goodRun := 0 }

theorem extraLug_suspectSet (s : State) : SuspectSet .extra s (extraLug s) :=
  (setSuspect_suspectSet .extra s.runLost).of_same rfl rfl rfl rfl

theorem extraLug_suspectNoticed (s : State) : SuspectNoticed .extra s (extraLug s) :=
  setSuspect_suspectNoticed .extra s.runLost rfl

theorem extraLug_chain (s : State) :
    (extraLug s).chain = { s.chain with
      goodRun := 0, suspect := (extraLug s).chain.suspect, pieces := (extraLug s).chain.pieces } := by
  have chain : (extraLug s).chain = (setSuspect .extra s.runLost).chain := rfl
  rw [chain, setSuspect_chain]; rfl

theorem extraLug_line (s : State) :
    (extraLug s).line = { s.line with counters := { s.line.counters with extra := s.line.counters.extra.bump } } := by
  simp [extraLug, countFault, LineCounters.bump]

theorem extraLug_onlyPressure (s : State) : OnlyPressure s (extraLug s) :=
  setSuspect_onlyPressure .extra s.runLost

/-- After a good lug the next edge is judged by the same geometry, its window still to come. -/
theorem lugAdvance_awaits_window {s : State} {g : Geometry} (good eye : Bool) (h : EdgeJudged s g)
    (inRange : g.firstBad = none) :
    let t := lugAdvance s.chain.count good eye s.disarmed
    EdgeJudged t g ∧ t.chain.lockOn = false ∧ reached t.chain.count (windowStart g t.chain.c0) = false := by
  obtain ⟨active, hold, geometry, highest⟩ := h
  intro t
  have chain := lugAdvance_chain s.disarmed s.chain.count good eye
  have line := lugAdvance_line s.disarmed s.chain.count good eye
  have store := lugAdvance_geometry s.disarmed s.chain.count good eye
  refine ⟨⟨?_, ?_, ?_, ?_⟩, ?_, ?_⟩
  · rw [line]; exact active
  · rw [chain]; exact hold
  · rw [store]; exact geometry
  · rw [chain]; exact highest
  · rw [chain]; rfl
  · rw [chain]; exact windowStart_not_reached inRange _

/-- Settles O13: an early edge is `extraLug`, whose parts are R21's; and a good lug's count stands before its own next
window. -/
theorem earlyEdgeIsExtra : Obligations.EarlyEdgeIsExtra := by
  refine ⟨fun s g eye judged lock early => ?_, fun s g eye good inRange => ?_⟩
  · have edge : exec (.lugEdge eye) s = .next (extraLug s) :=
      congrArg Host.Outcome.next (judgeEdge_early eye judged lock early)
    refine ⟨extraLug s, edge, extraLug_suspectSet s, extraLug_suspectNoticed s, extraLug_chain s,
      setSuspect_output_chain .extra s.runLost, setSuspect_output_log .extra s.runLost, extraLug_line s,
      extraLug_onlyPressure s, ?_⟩
    apply State.eq_of_blocks <;> simp
  · have edge : exec (.lugEdge eye) s = .next (lugAdvance s.chain.count true eye _) :=
      congrArg Host.Outcome.next (judgeEdge_good eye good)
    exact ⟨_, edge, lugAdvance_awaits_window true eye good.1 inRange⟩

end Sys2Proof.Machine
end

section
/-! SUPPORT. Bin commands (R114 to R118): the body read back, what each judgement of a bin answers, a bin changed and
its full flag weighed, and the request as a whole. -/

namespace Sys2Proof.Machine

/-! ### The bytes of a bin command (11.5) -/

theorem put1_byte (b : Byte) : put1 b.toNat = [b] := by simp [put1]

/-- The two bytes of a word, read back high byte first. -/
theorem bytes16_toNat (v : BitVec 16) :
    ((v >>> 8).setWidth 8 : Byte).toNat * 256 + (v.setWidth 8 : Byte).toNat = v.toNat := by
  have := v.isLt
  simp only [BitVec.toNat_setWidth, BitVec.toNat_ushiftRight, Nat.shiftRight_eq_div_pow]
  omega

theorem serve_binBody (bin action : Byte) (value : BitVec 16) (s : State) :
    serve .binCommand (binBody bin action value) s =
      serveBin bin.toNat (binActionOfCode action.toNat) value.toNat s := by
  rw [← bytes16_toNat value]; rfl

theorem binActionOfCode_none {n : Nat} (h : 4 < n) : binActionOfCode n = none := by
  obtain ⟨k, rfl⟩ : ∃ k, n = k + 5 := ⟨n - 5, by omega⟩
  rfl

/-! ### A bin command judged (R114) -/

theorem serveBin_absent {s : State} {bin : Nat} (h : s.bins[bin]? = none) (a : Option BinAction) (value : Nat) :
    serveBin bin a value s = ⟨s, .range, put1 bin⟩ := by
  simp [serveBin, binReply, h]

theorem serveBin_refused {s : State} {bin value : Nat} {x : Bin} {a : Option BinAction} (h : s.bins[bin]? = some x)
    (refused : (a.bind fun a => binAction bin x a value s) = none) :
    serveBin bin a value s = ⟨s, .range, put1 bin ++ x.put⟩ := by
  simp [serveBin, binReply, h, refused]

theorem serveBin_carried_out {s t : State} {bin value : Nat} {x y : Bin} {a : BinAction} (h : s.bins[bin]? = some x)
    (done : binAction bin x a value s = some t) (after : t.bins[bin]? = some y) :
    serveBin bin (some a) value s = ⟨t, .ok, put1 bin ++ y.put⟩ := by
  simp [serveBin, binReply, h, done, after]

/-! ### A bin changed and its full flag weighed (R112, R113) -/

theorem setAt_getElem?_self {α : Type} {l : List α} {i : Nat} {a : α} (f : α → α) (h : l[i]? = some a) :
    (setAt l i f)[i]? = some (f a) := by
  simp [setAt, h]

/-- A bin changed in anything but its full flag: the bin stands changed with the flag weighed, a BIN_EVENT is queued
when the flag changed, and nothing else but notice pressure changes. -/
theorem changeBin_spec {s : State} {i : Nat} {x : Bin} {f : Bin → Bin} (cause : BinCause) (h : s.bins[i]? = some x)
    (flag : (f x).full = x.full) :
    let y := { f x with full := (f x).fullNow }
    let t := changeBin i f cause s
    t.bins = s.bins.set i y ∧ t.link = s.binLink i x y cause ∧ OnlyPressure s t ∧
    t = { s with bins := t.bins, link := t.link, governor := t.governor } := by
  obtain ⟨bins, link, pressure, frame⟩ :=
    weighBin_spec i cause (s.onBins fun l => setAt l i f) (f x) (setAt_getElem?_self f h)
  refine ⟨?_, ?_, pressure, frame⟩
  · rw [changeBin, bins, State.onBins_bins, setAt_eq_set _ _ _ _ h, List.set_set]
  · rw [changeBin, link]
    simp only [State.binLink, Link.binNoticed, flag]
    rfl

/-- A BIN_EVENT leaves the mark of the oldest request as it is. -/
theorem State.binLink_serving (s : State) (i : Nat) (x y : Bin) (cause : BinCause) :
    s.serving.binLink i x y cause = { s.binLink i x y cause with taken := true } := by
  simp only [State.binLink, Link.binNoticed]
  split
  · rfl
  · exact Link.noticed_taken _ _ _

/-! ### A bin command taken (R173) -/

section
variable {s : State} {tag bin action : Byte} {value : BitVec 16}
variable (waits : Waiting s ⟨0x09, tag, [bin, action] ++ bytes16 value⟩)
include waits

/-- A bin number that names no bin is answered RANGE with the number alone (R114). -/
theorem binRequest_absent (absent : s.bins[bin.toNat]? = none) :
    request .binCommand tag (binBody bin action value) s =
      { s with link := s.link.replied ⟨0x89, tag, [3, bin]⟩ } := by
  have served := (serve_binBody bin action value s.serving).trans (serveBin_absent (s := s.serving) absent _ _)
  rw [put1_byte] at served
  exact request_reads .binCommand tag _ s waits rfl _ _ served

/-- An action that is refused is answered RANGE with the bin's record (R114). -/
theorem binRequest_refused {x : Bin} (present : s.bins[bin.toNat]? = some x)
    (refused : ((binActionOfCode action.toNat).bind fun a => binAction bin.toNat x a value.toNat s.serving) = none) :
    request .binCommand tag (binBody bin action value) s =
      { s with link := s.link.replied ⟨0x89, tag, [3, bin] ++ x.put⟩ } := by
  have served := (serve_binBody bin action value s.serving).trans (serveBin_refused present refused)
  rw [put1_byte] at served
  exact request_reads .binCommand tag _ s waits rfl _ _ served

/-- An action carried out is answered OK with the bin's record as it then stands (R114). -/
theorem binRequest_carried_out {x y : Bin} {a : BinAction} {t : State} (present : s.bins[bin.toNat]? = some x)
    (names : binActionOfCode action.toNat = some a) (done : binAction bin.toNat x a value.toNat s.serving = some t)
    (after : t.bins[bin.toNat]? = some y) (taken : t.link.taken = true) :
    request .binCommand tag (binBody bin action value) s =
      { t with link := t.link.replied ⟨0x89, tag, [0, bin] ++ y.put⟩ } := by
  have served := (serve_binBody bin action value s.serving).trans
    ((congrArg (serveBin _ · _ _) names).trans (serveBin_carried_out present done after))
  rw [put1_byte] at served
  exact request_replied .binCommand tag _ s waits rfl _ _ t served taken

/-- An action that changes the bin by `f` and weighs no flag (R116). -/
theorem binRequest_sets {x : Bin} {a : BinAction} {f : Bin → Bin} (present : s.bins[bin.toNat]? = some x)
    (names : binActionOfCode action.toNat = some a)
    (done : binAction bin.toNat x a value.toNat s.serving = some (s.serving.onBins fun l => setAt l bin.toNat f)) :
    request .binCommand tag (binBody bin action value) s = { s with
      bins := s.bins.set bin.toNat (f x), link := s.link.replied ⟨0x89, tag, [0, bin] ++ (f x).put⟩ } := by
  rw [binRequest_carried_out waits present names done (setAt_getElem?_self f present) rfl,
    ← setAt_eq_set _ _ _ _ present]
  rfl

/-- An action that changes the bin by `f` and weighs its full flag (R115, R117). -/
theorem binRequest_changes {x y : Bin} {a : BinAction} {f : Bin → Bin} {cause : BinCause}
    (present : s.bins[bin.toNat]? = some x) (names : binActionOfCode action.toNat = some a)
    (done : binAction bin.toNat x a value.toNat s.serving = some (changeBin bin.toNat f cause s.serving))
    (flag : (f x).full = x.full) (changed : y = { f x with full := (f x).fullNow }) :
    ∃ t, request .binCommand tag (binBody bin action value) s = t ∧ OnlyPressure s t ∧ t = { s with
      bins := s.bins.set bin.toNat y, governor := t.governor
      link := (s.binLink bin.toNat x y cause).replied ⟨0x89, tag, [0, bin] ++ y.put⟩ } := by
  obtain ⟨bins, link, pressure, frame⟩ := changeBin_spec (s := s.serving) cause present flag
  rw [← changed] at bins link
  have after : (changeBin bin.toNat f cause s.serving).bins[bin.toNat]? = some y := by
    rw [bins]; exact List.getElem?_set_self (List.getElem?_eq_some_iff.mp present).1
  rw [State.binLink_serving] at link
  refine ⟨_, binRequest_carried_out waits present names done after (by rw [link]), pressure, ?_⟩
  rw [frame, bins, link]
  rfl

end

end Sys2Proof.Machine
end

section
/-! PROOF. The bin commands but OUT_OF_SERVICE's reroute (R114 to R117). -/

namespace Sys2Proof.Machine

/-- The commands that carry an action are the requests of their body. -/
theorem exec_binAction_request {c : Instr} {tag bin action : Byte} {value : BitVec 16}
    (h : (c, action) ∈ [(Instr.setCapacity tag bin value, (0 : Byte)), (.binOpen tag bin value, 1),
      (.binClose tag bin value, 2), (.emptied tag bin value, 3), (.outOfService tag bin value, 4)]) (s : State) :
    exec c s = .next (request .binCommand tag (binBody bin action value) s) := by
  simp only [List.mem_cons, Prod.mk.injEq, List.not_mem_nil, or_false] at h
  obtain ⟨rfl, rfl⟩ | ⟨rfl, rfl⟩ | ⟨rfl, rfl⟩ | ⟨rfl, rfl⟩ | ⟨rfl, rfl⟩ := h <;> rfl

theorem binAction_setCapacity_below {x : Bin} {value : Nat} (h : value < x.count + x.reserved) (bin : Nat) (s : State) :
    binAction bin x .setCapacity value s = none := by
  simp [binAction, Bin.capacityOk, h]

theorem binAction_setCapacity_taken {x : Bin} {value : Nat} (h : x.count + x.reserved ≤ value) (bin : Nat)
    (s : State) :
    binAction bin x .setCapacity value s =
      some (changeBin bin (fun b => { b with capacity := value }) .setCapacity s) := by
  simp [binAction, Bin.capacityOk, h]

/-- Settles O58: each command is the request of its body, and each clause is what that request answers when its bin is
absent, its action is refused, or its action is carried out. -/
theorem binCommandsAct : Obligations.BinCommandsAct := by
  refine fun s tag bin value => ⟨fun absent c action carries waits => ?absent, fun x present =>
    ⟨fun waits below => ?below, fun y waits fits changed => ?capacity, fun waits => ?opened, fun waits => ?closed,
      fun y waits changed => ?emptied, fun action waits unnamed => ?unnamed⟩⟩
  case absent =>
    rw [exec_binAction_request carries, binRequest_absent waits (List.getElem?_eq_none_iff.mpr absent)]
  case below =>
    exact congrArg Host.Outcome.next (binRequest_refused waits present (binAction_setCapacity_below below _ _))
  case capacity =>
    obtain ⟨t, next, frame⟩ :=
      binRequest_changes waits present rfl (binAction_setCapacity_taken fits _ _) rfl changed
    exact ⟨t, congrArg Host.Outcome.next next, frame⟩
  case opened => exact congrArg Host.Outcome.next (binRequest_sets waits present rfl rfl)
  case closed => exact congrArg Host.Outcome.next (binRequest_sets waits present rfl rfl)
  case emptied =>
    have flag : Bin.fullNow { x with count := 0 } = decide (x.capacity ≤ x.reserved) := by simp [Bin.fullNow]
    obtain ⟨t, next, frame⟩ :=
      binRequest_changes waits present rfl (cause := .emptied) rfl rfl (changed.trans (by rw [flag]))
    exact ⟨t, congrArg Host.Outcome.next next, frame⟩
  case unnamed =>
    have refused := binRequest_refused waits present (by rw [binActionOfCode_none unnamed]; rfl)
    exact congrArg Host.Outcome.next refused

end Sys2Proof.Machine
end

section
/-! SUPPORT. Sections of a log (R131): what a change of one log's record leaves under each number, the clamps, and a
section given to a record. -/

namespace Sys2Proof.Machine

/-! ### A record changed under its number (R130) -/

/-- A change of a record leaves what is found by a test that neither the record nor its change meets. -/
theorem changeFirst_find_of_not {α : Type} {p q : α → Bool} {f : α → α}
    (h : ∀ a, p a = true → q a = false ∧ q (f a) = false) (l : List α) :
    (changeFirst p f l).find? q = l.find? q := by
  induction l with
  | nil => rfl
  | cons a l ih =>
    by_cases ha : p a = true
    · obtain ⟨before, after⟩ := h a ha
      simp [changeFirst, ha, before, after]
    · simp [changeFirst, ha, List.find?_cons, ih]

section
variable {f : LogRecord → LogRecord} (keeps : ∀ r, (f r).number = r.number)
include keeps

theorem changeLog_log?_self (n : LogNo) (s : State) : (changeLog n f s).log? n = (s.log? n).map f :=
  changeFirst_find _ f (fun r => by rw [keeps]) s.logs.queue

theorem changeLog_log?_of_ne {m n : LogNo} (ne : m ≠ n) (s : State) : (changeLog n f s).log? m = s.log? m := by
  refine changeFirst_find_of_not (fun r found => ?_) s.logs.queue
  have number : r.number = n := eq_of_beq found
  have other : (n == m) = false := beq_false_of_ne ne.symm
  rw [keeps, number]
  exact ⟨other, other⟩

end

theorem changeLog_eq (n : LogNo) (f : LogRecord → LogRecord) (s : State) :
    changeLog n f s = { s with logs := { s.logs with queue := (changeLog n f s).logs.queue } } := rfl

theorem log?_number {s : State} {n : LogNo} {r : LogRecord} (h : s.log? n = some r) : r.number = n :=
  eq_of_beq (List.find?_some (p := fun l : LogRecord => l.number == n) h)

/-! ### A section's values clamped (R131 step 4) -/

theorem clampDiameter_ne_iff (d : Nat) : clampDiameter d ≠ d ↔ 600 < d := by
  unfold clampDiameter; omega

theorem clampOffset_ne_iff (c : Int) : clampOffset c ≠ c ↔ 600 < c.natAbs := by
  unfold clampOffset; omega

/-! ### A section given to a record (R131 steps 2 to 4) -/

theorem LogRecord.takeSection_number (r : LogRecord) (pos dx dy : Nat) (cx cy : Int) :
    (r.takeSection pos dx dy cx cy).number = r.number := by
  unfold LogRecord.takeSection; split <;> rfl

theorem LogRecord.takeSection_eq (r : LogRecord) (pos dx dy : Nat) (cx cy : Int) :
    r.takeSection pos dx dy cx cy =
      if 480 < pos ∨ 256 ≤ r.samples.length then { r with flags := { r.flags with overlong := true } }
      else { r with
        samples := r.samples ++ [⟨pos, min dx 600, min dy 600, min (max cx (-600)) 600, min (max cy (-600)) 600⟩]
        flags := { r.flags with
          clamped := r.flags.clamped ||
            decide (600 < dx ∨ 600 < dy ∨ 600 < cx.natAbs ∨ 600 < cy.natAbs) } } := by
  simp only [LogRecord.takeSection, clampDiameter_ne_iff, clampOffset_ne_iff]
  rfl

/-- With no open log a section is STRAY. -/
theorem takeSection_stray {s : State} (closed : s.logs.openLog = none) (dx dy : Nat) (cx cy : Int) :
    takeSection dx dy cx cy s = countFault .stray s := by
  simp [takeSection, State.openRecord, closed]

/-- With an open log the section goes to its record, placed by R131 step 1. -/
theorem takeSection_open {s : State} {n : LogNo} {r : LogRecord} {g : Geometry} (isOpen : s.logs.openLog = some n)
    (found : s.log? n = some r) (geometry : s.store.geometry = some g) (dx dy : Nat) (cx cy : Int) :
    takeSection dx dy cx cy s =
      changeLog n (fun x => x.takeSection (r.position s.logs.count g.cpi) dx dy cx cy) s := by
  simp [takeSection, State.openRecord, isOpen, found, geometry, log?_number found]

end Sys2Proof.Machine
end

section
/-! PROOF. A LOG_SECTION placed and taken, or STRAY (R131). -/

namespace Sys2Proof.Machine

/-- Settles O39: with no open log the section is counted STRAY; otherwise it is a change of the open log's record alone,
whose number it keeps. -/
theorem logSectionIsTaken : Obligations.LogSectionIsTaken := by
  refine ⟨fun s dx dy cx cy closed => ?stray, fun s dx dy cx cy n r g pos isOpen found geometry place => ?taken⟩
  case stray => exact congrArg Host.Outcome.next (takeSection_stray closed _ _ _ _)
  case taken =>
    have placed : pos = r.position s.logs.count g.cpi := by
      rw [place, LogRecord.position, inchesFrom]
      cases r.samples.getLast? <;> rfl
    have taken := takeSection_open isOpen found geometry dx.toNat dy.toNat cx.toInt cy.toInt
    rw [← placed] at taken
    have keeps (x : LogRecord) := x.takeSection_number pos dx.toNat dy.toNat cx.toInt cy.toInt
    refine ⟨_, congrArg Host.Outcome.next taken, ?_, fun m ne => changeLog_log?_of_ne keeps ne s, changeLog_eq _ _ s⟩
    rw [changeLog_log?_self keeps, found, Option.map_some, LogRecord.takeSection_eq]

end Sys2Proof.Machine
end

section
/-! SUPPORT. The tally requests TALLY_CLOSE and SNAPSHOT_RELEASE (R147, R151): what each serves, and a notice queued on
the way to a reply. -/

namespace Sys2Proof.Machine

/-! ### A notice queued while a request is served (R173 to R175) -/

/-- A notice made changes the link, and of the governor at most notice pressure. -/
theorem queueNotice_eq (n : Notice) (s : State) :
    queueNotice n s = { s with link := s.link.noticed n, governor := (queueNotice n s).governor } := by
  apply State.eq_of_blocks <;> simp [queueNotice_link]

/-- A request served by changing no part of the link and then queueing a notice: the notice stands before the reply. -/
theorem request_notices (r : Request) (tag : Byte) (body : List Byte) (s : State) (h : Waiting s ⟨r.code, tag, body⟩)
    (hl : r.lengthOk body = true) {st : Status} {content : List Byte} {n : Notice} {u : State}
    (link : u.link = s.serving.link) (hs : serve r body s.serving = ⟨queueNotice n u, st, content⟩) :
    request r tag body s = { u with
      governor := (queueNotice n u).governor
      link := (s.link.noticed n).replied ⟨r.code + 0x80, tag, put1 st.code ++ content⟩ } := by
  have noticed : (queueNotice n u).link = { s.link.noticed n with taken := true } := by
    rw [queueNotice_link, link]; exact Link.noticed_taken _ _ _
  rw [request_replied r tag body s h hl st content _ hs (by rw [noticed]), noticed, queueNotice_eq]
  rfl

/-! ### TALLY_CLOSE and SNAPSHOT_RELEASE served -/

theorem serveTallyClose_held {s : State} {h : Snapshot} (held : s.tally.snapshot = some h) :
    serveTallyClose s = ⟨s, .busy, put4 h.period.number⟩ := by
  simp [serveTallyClose, held]

theorem serveTallyClose_none {s : State} {p : Period} (tally : s.tally = ⟨p, none⟩) :
    serveTallyClose s =
      ⟨queueNotice (.tallyClosed p.number (nextPeriod p.number) p.entries p.recovery) (s.onTally Tally.close), .ok,
        put4 p.number ++ put4 (nextPeriod p.number) ++ put4 p.entries ++ put4 p.recovery.value ++
          p.recovery.putFlags⟩ := by
  simp [serveTallyClose, tally]

theorem serveSnapshotRelease_held {s : State} {h : Snapshot} (held : s.tally.snapshot = some h) :
    serveSnapshotRelease s = ⟨s.onTally fun t => { t with snapshot := none }, .ok, put4 h.period.number⟩ := by
  simp [serveSnapshotRelease, held]

theorem serveSnapshotRelease_none {s : State} (none_held : s.tally.snapshot = none) :
    serveSnapshotRelease s = ⟨s, .noData, []⟩ := by
  simp [serveSnapshotRelease, none_held]

/-! ### TALLY_CLOSE taken with no snapshot HELD (R147 steps 1 to 6) -/

/-- The period is closed, a TALLY_CLOSED is queued, and the reply tells the numbers and the recovery. -/
theorem tallyCloseRequest_closes {s : State} {tag : Byte} {p : Period} (waits : Waiting s ⟨0x0F, tag, []⟩)
    (tally : s.tally = ⟨p, none⟩) :
    ∃ t, request .tallyClose tag [] s = t ∧ OnlyPressure s t ∧ t = { s with
      tally := { snapshot := some ⟨p, p.recovery⟩, period := Period.fresh (nextPeriod p.number) }
      governor := t.governor
      link := (s.link.noticed (.tallyClosed p.number (nextPeriod p.number) p.entries p.recovery)).replied
        ⟨0x8F, tag, 0 :: (put4 p.number ++ put4 (nextPeriod p.number) ++ put4 p.entries ++ put4 p.recovery.value ++
          p.recovery.putFlags)⟩ } := by
  have pressure := queueNotice_onlyPressure (s.serving.onTally Tally.close)
    (.tallyClosed p.number (nextPeriod p.number) p.entries p.recovery)
  have closed : Tally.close s.tally = ⟨Period.fresh (nextPeriod p.number), some ⟨p, p.recovery⟩⟩ := by
    rw [tally]; rfl
  have taken := request_notices .tallyClose tag [] s waits rfl (u := s.serving.onTally Tally.close) rfl
    (serveTallyClose_none (s := s.serving) tally)
  refine ⟨_, taken, pressure, ?_⟩
  rw [← closed]
  rfl

end Sys2Proof.Machine
end

section
/-! PROOF. The snapshot made and released (R147, R151). -/

namespace Sys2Proof.Machine

/-- Settles O60: each command is the request of an empty body, and what it answers turns on whether a snapshot is HELD;
the recovery of a period closed and the number of the next are those of R148 and R147 step 4. -/
theorem snapshotIsMadeAndReleased : Obligations.SnapshotIsMadeAndReleased := by
  refine ⟨fun s tag waits => ⟨fun h held => ?busy,
      fun p out vol exact next r tally sum volume value figures number => ?made⟩,
    fun s tag waits => ⟨fun h held => ?released, fun none_held => ?noData⟩⟩
  case busy =>
    exact congrArg Host.Outcome.next
      (request_reads .tallyClose tag [] s waits rfl _ _ (serveTallyClose_held (s := s.serving) held))
  case made =>
    have recovered : p.recovery = r := by rw [figures, value, volume, sum]; rfl
    have numbered : nextPeriod p.number = next := number.symm
    obtain ⟨t, taken, pressure, frame⟩ := tallyCloseRequest_closes waits tally
    rw [recovered, numbered] at frame
    exact ⟨t, congrArg Host.Outcome.next taken, pressure, frame⟩
  case released =>
    exact congrArg Host.Outcome.next
      (request_replied .snapshotRelease tag [] s waits rfl _ _ _ (serveSnapshotRelease_held (s := s.serving) held) rfl)
  case noData =>
    exact congrArg Host.Outcome.next
      (request_reads .snapshotRelease tag [] s waits rfl _ _ (serveSnapshotRelease_none (s := s.serving) none_held))

end Sys2Proof.Machine
end

section
/-! PROOF. IDENTIFY reports the part (R177). -/

namespace Sys2Proof.Machine

/-- IDENTIFY is served in every state, changing nothing; its content byte by byte, numbers high byte first (11.5). -/
theorem serveIdentify_eq (s : State) :
    serveIdentify s = ⟨s, .ok, [0x4B, 0x06, (Config.firmwareLevel >>> 8).setWidth 8,
      Config.firmwareLevel.setWidth 8, BitVec.ofNat 8 s.link.rate, 2, 0, 8, 2, 13, 48, 4, 64, 48, 8]⟩ := by
  unfold serveIdentify
  rw [put2_word]
  rfl

/-- Settles O48: an IDENTIFY is a request whose serving only reads, whatever the line state, and the rate it reads is
not touched by the taking of the request. -/
theorem identifyReports : Obligations.IdentifyReports := by
  intro s tag waits
  have reply := request_reads .identify tag [] s waits rfl _ _ (serveIdentify_eq s.serving)
  exact congrArg Host.Outcome.next reply

end Sys2Proof.Machine
end

section
/-! SUPPORT. What every step keeps: the operations that steps are made of, and the one induction over them by which a
property that each operation keeps is kept by every command and every step. -/

namespace Sys2Proof.Machine

/-! ### The operations of a step -/

/-- A property of states that each operation of the blocks keeps. A request is taken only while it waits. -/
structure Kept (P : State → Prop) : Prop where
  fullReset : ∀ rate estop s, P s →
    P { State.afterReset rate estop s.scan.eye with pending := s.pending }
  chainTransition : ∀ forward eye s, P s → P (chainTransition forward eye s)
  chainIllegal : ∀ s, P s → P (chainIllegal s)
  clearError : ∀ s : State, P s → P (s.onChain Chain.clearError)
  endHold : ∀ s : State, P s → P (s.onChain Chain.endHold)
  judgeEdge : ∀ eye s, P s → P (judgeEdge eye s)
  weighMissed : ∀ eye s, P s → P (weighMissed eye s)
  assertEstop : ∀ s, P s → P (assertEstop s)
  releaseEstop : ∀ s, P s → P (releaseEstop s)
  turnEntriesOn : ∀ enc s, P s → P (turnEntriesOn enc s)
  endEntries : ∀ enc s, P s → P (endEntries enc s)
  judgeSegment : ∀ head body s, P s → P (judgeSegment head body s)
  completeConversion : ∀ raw s, P s → P (completeConversion raw s)
  startSolve : ∀ s, P s → P (startSolve s)
  completeSolve : ∀ s, P s → P (completeSolve s)
  panelHeard : ∀ p s, P s → P (panelHeard p s)
  answerPanel : ∀ p kind tag body s, P s → P (answerPanel p kind tag body s)
  judgeOverride : ∀ p tag lug k value s, P s → P (judgeOverride p tag lug k value s)
  panelSilent : ∀ p s, P s → P (panelSilent p s)
  panelSent : ∀ p s, P s → P (panelSent p s)
  tickPanel : ∀ p s, P s → P (tickPanel p s)
  logTransition : ∀ forward s, P s → P (logTransition forward s)
  logEncoderFault : ∀ s, P s → P (logEncoderFault s)
  weighKicks : ∀ s, P s → P (weighKicks s)
  startLog : ∀ s, P s → P (startLog s)
  takeSection : ∀ dx dy cx cy s, P s → P (takeSection dx dy cx cy s)
  endLog : ∀ s, P s → P (endLog s)
  countFrameError : ∀ port s, P s → P (countFrameError port s)
  setReceiver : ∀ port r s, P s → P (setReceiver port r s)
  receiveRequest : ∀ f s, P s → P (receiveRequest f s)
  takeRequest : ∀ f s, s.waiting = some f → P s → P (takeRequest f s)
  hostTimerReached : ∀ s, P s → P (hostTimerReached s)
  tickHost : ∀ s, P s → P (tickHost s)
  transmitDone : ∀ s, P s → P (transmitDone s)

/-- A property kept by each step of a fold is kept by the fold. -/
theorem foldl_kept {α : Type} {P : State → Prop} {f : State → α → State} (h : ∀ t a, P t → P (f t a)) (l : List α)
    {s : State} (hs : P s) : P (l.foldl f s) := by
  induction l generalizing s with
  | nil => exact hs
  | cons a l ih => exact ih (h s a hs)

namespace Kept

variable {P : State → Prop} (k : Kept P) {s : State}
include k

/-! ### Frames taken and bytes received -/

theorem panelHello (p : PanelId) (tag : Byte) (hs : P s) : P (panelHello p tag s) :=
  k.answerPanel p _ tag _ _ (k.panelHeard p s hs)

theorem overrideFrame (p : PanelId) (tag : Byte) (lug : LugNo) (kind : OverrideKind) (value : Byte) (hs : P s) :
    P (overrideFrame p tag lug kind value s) :=
  k.judgeOverride p tag lug kind _ _ (k.panelHeard p s hs)

theorem overrideBody (p : PanelId) (tag : Byte) (body : List Byte) (hs : P s) : P (overrideBody p tag body s) := by
  unfold Machine.overrideBody
  split
  · exact k.overrideFrame p tag _ _ _ hs
  · exact k.answerPanel p _ tag _ _ (k.panelHeard p s hs)

theorem takeLogFrame (f : Frame) (hs : P s) : P (takeLogFrame f s) := by
  unfold Machine.takeLogFrame
  split
  · exact k.startLog s hs
  · split
    · exact k.takeSection _ _ _ _ s hs
    · split
      · exact k.endLog s hs
      · exact k.countFrameError _ s hs

theorem takeFrame (port : Port) (f : Frame) (hs : P s) : P (takeFrame port f s) := by
  unfold Machine.takeFrame
  split
  case h_1 => exact k.receiveRequest f s hs
  case h_2 p =>
    split
    · exact k.panelHello p _ hs
    · split
      · exact k.overrideBody p _ _ hs
      · exact k.countFrameError _ s hs
  case h_3 h =>
    split
    · exact k.judgeSegment h _ s hs
    · exact k.countFrameError _ s hs
  case h_4 => exact k.takeLogFrame f hs

theorem takeMade (port : Port) (m : Option Frame) (hs : P s) : P (takeMade port s m) := by
  cases m with
  | none => exact k.countFrameError port s hs
  | some f => exact k.takeFrame port f hs

theorem takeByte (port : Port) (b : Byte) (hs : P s) : P (takeByte port b s) :=
  foldl_kept (fun _ m ht => k.takeMade port m ht) _ (k.setReceiver port _ s hs)

theorem gapPort (port : Port) (hs : P s) : P (gapPort port s) :=
  foldl_kept (fun _ m ht => k.takeMade port m ht) _ (k.setReceiver port _ s hs)

/-! ### Requests and the passage of time -/

theorem offerRequest (kind tag : Byte) (body : List Byte) (hs : P s) : P (offerRequest kind tag body s) := by
  unfold Machine.offerRequest
  dsimp only
  split
  case isTrue waits => exact k.takeRequest _ s waits hs
  case isFalse =>
    have arrived := k.receiveRequest ⟨kind, tag, body⟩ s hs
    split
    case isTrue waits => exact k.takeRequest _ _ waits arrived
    case isFalse => exact arrived

theorem tickReceiver (port : Port) (hs : P s) : P (tickReceiver s port) := by
  unfold Machine.tickReceiver
  dsimp only
  repeat' split
  · exact hs
  · exact k.gapPort port hs
  · exact k.setReceiver port _ s hs

theorem idle (hs : P s) : P (idle s) := by
  unfold Machine.idle
  split
  case h_1 f waits => exact k.takeRequest f s waits hs
  case h_2 =>
    exact foldl_kept (fun _ port ht => k.tickReceiver port ht) _
      (k.tickHost _ (k.tickPanel .p2 _ (k.tickPanel .p1 s hs)))

/-! ### Every command and every step -/

/-- Every command answers a next state, and one that has the property when the state before has it. -/
theorem exec (c : Instr) (hs : P s) : ∃ t, exec c s = .next t ∧ P t := by
  cases c with
  | fullReset first second estop => exact ⟨_, rfl, k.fullReset _ estop s hs⟩
  | chainLegalTransition forward eye => exact ⟨_, rfl, k.chainTransition forward eye s hs⟩
  | chainIllegalTransition => exact ⟨_, rfl, k.chainIllegal s hs⟩
  | encoderErrorCleared => exact ⟨_, rfl, k.clearError s hs⟩
  | reversalHoldEnd => exact ⟨_, rfl, k.endHold s hs⟩
  | lugEdge eye => exact ⟨_, rfl, k.judgeEdge eye s hs⟩
  | lugMissed eye => exact ⟨_, rfl, k.weighMissed eye s hs⟩
  | estop => exact ⟨_, rfl, k.assertEstop s hs⟩
  | estopRelease => exact ⟨_, rfl, k.releaseEstop s hs⟩
  | entryOn enc => exact ⟨_, rfl, k.turnEntriesOn enc s hs⟩
  | entryEnd enc => exact ⟨_, rfl, k.endEntries enc s hs⟩
  | segment head body => exact ⟨_, rfl, k.judgeSegment head body s hs⟩
  | moistureConversionComplete raw => exact ⟨_, rfl, k.completeConversion _ s hs⟩
  | solveStart => exact ⟨_, rfl, k.startSolve s hs⟩
  | solveComplete => exact ⟨_, rfl, k.completeSolve s hs⟩
  | hello p tag => exact ⟨_, rfl, k.panelHello p tag hs⟩
  | panelTimeout p => exact ⟨_, rfl, k.panelSilent p s hs⟩
  | gradeSet p tag lug value | gradeDown p tag lug value | lengthLimit p tag lug value | slash p tag lug value
  | regrade p tag lug value | cancel p tag lug value => exact ⟨_, rfl, k.overrideFrame p tag lug _ value hs⟩
  | panelFrameSent p => exact ⟨_, rfl, k.panelSent p s hs⟩
  | logLegalTransition forward => exact ⟨_, rfl, k.logTransition forward s hs⟩
  | logIllegalTransition => exact ⟨_, rfl, k.logEncoderFault s hs⟩
  | kickPoint => exact ⟨_, rfl, k.weighKicks s hs⟩
  | logStart => exact ⟨_, rfl, k.startLog s hs⟩
  | logSection dx dy cx cy => exact ⟨_, rfl, k.takeSection _ _ _ _ s hs⟩
  | logEnd => exact ⟨_, rfl, k.endLog s hs⟩
  | frameByte port byte => exact ⟨_, rfl, k.takeByte port byte hs⟩
  | interByteTimeout port => exact ⟨_, rfl, k.gapPort port hs⟩
  | requestReceived kind tag body => exact ⟨_, rfl, k.receiveRequest _ s hs⟩
  | hostSilenceSet => exact ⟨_, rfl, k.hostTimerReached s hs⟩
  | transmitComplete => exact ⟨_, rfl, k.transmitDone s hs⟩
  | unknownKind kind tag body => exact ⟨_, rfl, k.offerRequest kind tag body hs⟩
  | identify tag body | status tag body | lineState tag body | lineReset tag body | geometryWrite tag body
  | tableWrite tag body | bankActivate tag body | bankStatus tag body | binCommand tag body | pieceQuery tag body
  | lastProfile tag body | clearSuspect tag body | clearHalt tag body | tallyRead tag body | tallyClose tag body
  | snapshotRead tag body | snapshotRelease tag body => exact ⟨_, rfl, k.offerRequest _ tag body hs⟩
  | setCapacity tag bin value | binOpen tag bin value | binClose tag bin value | emptied tag bin value
  | outOfService tag bin value => exact ⟨_, rfl, k.offerRequest _ tag _ hs⟩
  | malformedOverride p tag body => exact ⟨_, rfl, k.overrideBody p tag body hs⟩

/-- A property that the queue of commands does not enter is kept by every step. -/
theorem step (unqueued : ∀ s l, P s → P { s with pending := l }) {t : State} (hs : P s) (h : step s = .next t) :
    P t := by
  unfold Machine.step at h
  split at h
  · cases h; exact k.idle hs
  · rename_i c rest _
    obtain ⟨u, next, hu⟩ := k.exec c (unqueued s rest hs)
    cases next.symm.trans h
    exact hu

end Kept

/-- A request taken, from what becomes of the state with the request taken, the serving and the reply. -/
theorem takeRequest_kept {P Q : State → Prop} {f : Frame} {s : State} (hs : Q s.serving)
    (serve : ∀ r body t, Q t → Q (serve r body t).state) (reply : ∀ r t, Q t → P (makeReply ⟨r, true⟩ t)) :
    P (takeRequest f s) := by
  refine reply _ _ ?_
  unfold judgeRequest
  repeat' split
  · exact hs
  · exact serve _ _ _ hs
  · exact hs

end Sys2Proof.Machine
end

section
/-! SUPPORT. What the serving of a request can do to the state: one operation of the block that owns it, under the
conditions its rule states, or nothing. -/

namespace Sys2Proof.Machine

/-! ### The operations that serve a request -/

/-- A property of states that each operation by which a request is served keeps, under the conditions of its rule. -/
structure ServeKept (Q : State → Prop) : Prop where
  clearCounters : ∀ s, Q s → Q (clearCounters s)
  enterStandby : ∀ s : State, s.line.state = .idle → s.store.geometry.isSome = true → s.activeBank.isSome = true →
    Q s → Q (enterStandby s)
  toRun : ∀ s : State, s.line.state = .standby → Q s → Q (setLine .run s)
  toStandby : ∀ s : State, s.line.state = .run → Q s → Q (setLine .standby s)
  enterIdle : ∀ s : State, s.line.state = .standby → s.lineEmpty = true → Q s → Q (enterIdle s)
  lineReset : ∀ s, Q s → Q (lineResetState s)
  takeGeometry : ∀ (g : Geometry) (s : State), s.line.state = .idle → g.firstBad = none → g.drops.length = 48 → Q s →
    Q (takeGeometry g s)
  openSequence : ∀ (x : BankId) (kind : TableKind) (s : State), s.store.sequence = none → (s.bank x).state ≠ .active →
    s.store.pendingBank ≠ some x → s.referenced x = false → Q s → Q (openSequence x kind s)
  storeEntries : ∀ (x : BankId) (kind : TableKind) (offset : Nat) (es : List (List Byte)) (s : State),
    s.store.sequence = some ⟨x, kind, offset⟩ → Q s → Q (storeEntries x kind offset es s)
  closeSequence : ∀ (x : BankId) (kind : TableKind) (next : Nat) (b : Byte) (s : State),
    s.store.sequence = some ⟨x, kind, next⟩ → Q s → Q (closeSequence x kind b s).state
  takeActivation : ∀ (x : BankId) (s : State), (s.bank x).state = .valid → s.store.pendingBank = none →
    s.line.state = .idle → Q s → Q (takeActivation x s)
  leavePending : ∀ (x : BankId) (s : State), (s.bank x).state = .valid → s.store.pendingBank = none →
    s.line.state ≠ .idle → Q s → Q (s.onStore fun st => { st with pendingBank := some x })
  setCapacity : ∀ (bin value : Nat) (b : Bin) (s : State), s.bins[bin]? = some b → b.count + b.reserved ≤ value →
    value ≤ 65535 → Q s → Q (changeBin bin (fun x => { x with capacity := value }) .setCapacity s)
  openBin : ∀ (bin : Nat) (s : State), Q s → Q (s.onBins fun l => setAt l bin fun x => { x with state := .opened })
  closeBin : ∀ (bin : Nat) (s : State), Q s → Q (s.onBins fun l => setAt l bin fun x => { x with state := .closed })
  emptied : ∀ (bin : Nat) (s : State), Q s → Q (changeBin bin (fun x => { x with count := 0 }) .emptied s)
  outOfService : ∀ (bin : Nat) (s : State), Q s → Q (takeOutOfService bin s)
  lastProfile : ∀ (f : List ProfileBuffer → List ProfileBuffer) (s : State), Q s →
    Q (s.onScan fun x => { x with buffers := f x.buffers })
  clearSuspect : ∀ s : State, s.line.state ≠ .halt → Q s → Q (clearSuspectNoticed s)
  leaveHalt : ∀ s : State, s.line.state = .halt → Q s → Q (leaveHalt s)
  tallyClose : ∀ (n : Notice) (s : State), Q s → Q (queueNotice n (s.onTally Tally.close))
  releaseSnapshot : ∀ s : State, Q s → Q (s.onTally fun t => { t with snapshot := none })

theorem u16At_le (body : List Byte) (i : Nat) : u16At body i ≤ 65535 := by
  have hi := (body.getD i 0).isLt
  have lo := (body.getD (i + 1) 0).isLt
  simp only [u16At, byteAt]
  omega

theorem chunks_length (n fuel : Nat) (body : List Byte) : (chunks n fuel body).length = fuel := by
  induction fuel generalizing body with
  | zero => rfl
  | succ fuel ih => rw [chunks, List.length_cons, ih]

/-- A geometry set read from a body has a drop offset for each of the 48 bins. -/
theorem geometry_drops_length (body : List Byte) : (Geometry.ofItems (geometryItems body)).drops.length = 48 := by
  simp [Geometry.ofItems, geometryItems, chunks_length]

/-- A FIRST frame is taken when no sequence is open, its bank is free to load and its entries fit from offset 0 (R180). -/
theorem tableCheck_first {x : BankId} {kind : TableKind} {offset count : Nat} {s : State} :
    tableCheck x kind true offset count s = none ↔
      s.store.sequence = none ∧ (s.bank x).state ≠ .active ∧ s.store.pendingBank ≠ some x ∧ s.referenced x = false ∧
        offset = 0 ∧ offset + count ≤ kind.total := by
  cases h : s.store.sequence with
  | none => simp only [tableCheck, h]; grind
  | some q => simp [tableCheck, h]

/-- Any other frame is taken when it goes on the open sequence and its entries fit (R180). -/
theorem tableCheck_next {x : BankId} {kind : TableKind} {offset count : Nat} {s : State} :
    tableCheck x kind false offset count s = none ↔
      s.store.sequence = some ⟨x, kind, offset⟩ ∧ offset + count ≤ kind.total := by
  cases h : s.store.sequence with
  | none => simp [tableCheck, h]
  | some q =>
    obtain ⟨bank, kind', next⟩ := q
    simp only [tableCheck, h]
    grind

namespace ServeKept

variable {Q : State → Prop} (k : ServeKept Q) {s : State}
include k

theorem judgeLineState (target : Option LineState) (hs : Q s) : Q (judgeLineState target s).1 := by
  unfold Machine.judgeLineState
  split
  · exact hs
  split
  · exact hs
  rename_i differs
  split
  case h_2 state =>
    unfold serveToStandby
    repeat' split
    · exact hs
    · exact hs
    · rename_i loaded _
      rw [not_or, Option.isNone_iff_eq_none, Option.isNone_iff_eq_none] at loaded
      exact k.enterStandby s state (Option.isSome_iff_ne_none.mpr loaded.1) (Option.isSome_iff_ne_none.mpr loaded.2) hs
  case h_4 state => exact k.toRun s state hs
  case h_5 state => exact k.toStandby s state hs
  case h_6 state _ _ =>
    split
    · exact k.enterIdle s state ‹_› hs
    · exact hs
  all_goals exact hs

theorem tableWrite (body : List Byte) (hs : Q s) : Q (serveTableWrite body s).state := by
  unfold serveTableWrite
  dsimp only
  split
  case h_2 => exact hs
  case h_1 x kind _ _ =>
    split
    · exact hs
    split
    · exact hs
    rename_i passes
    have taken : ∀ t, t.store.sequence = some ⟨x, kind, u16At body 3⟩ → Q t →
        Q (if (body.getD 2 0).getLsbD 1 = true then
          Machine.closeSequence x kind (body.getD 0 0)
            (Machine.storeEntries x kind (u16At body 3) (chunks kind.entrySize (byteAt body 5) (body.drop 6)) t)
          else tableReply .ok (body.getD 0 0) false
            (Machine.storeEntries x kind (u16At body 3) (chunks kind.entrySize (byteAt body 5) (body.drop 6)) t)).state := by
      intro t sequence ht
      have stored := k.storeEntries x kind _ (chunks kind.entrySize (byteAt body 5) (body.drop 6)) t sequence ht
      split
      · exact k.closeSequence x kind _ _ _ rfl stored
      · exact stored
    cases first : (body.getD 2 0).getLsbD 0 with
    | true =>
      rw [first] at passes
      obtain ⟨noneOpen, inactive, settled, unreferenced, start, -⟩ := tableCheck_first.mp passes
      refine taken _ ?_ (k.openSequence x kind s noneOpen inactive settled unreferenced hs)
      rw [start]; rfl
    | false =>
      rw [first] at passes
      exact taken s (tableCheck_next.mp passes).1 hs

theorem bankActivate (body : List Byte) (hs : Q s) : Q (serveBankActivate body s).state := by
  unfold serveBankActivate
  split
  · exact hs
  split
  · exact hs
  split
  · exact hs
  rename_i valid pending
  rw [not_not] at valid
  rw [Option.isSome_iff_ne_none, not_not] at pending
  split
  · exact k.takeActivation _ s valid pending ‹_› hs
  · exact k.leavePending _ s valid pending ‹_› hs

theorem bin (bin : Nat) (action : Option BinAction) (value : Nat) (small : value ≤ 65535) (hs : Q s) :
    Q (serveBin bin action value s).state := by
  unfold serveBin
  split
  · exact hs
  rename_i b present
  split
  · exact hs
  rename_i t done
  change Q t
  obtain ⟨a, -, done⟩ := Option.bind_eq_some_iff.mp done
  cases a with
  | setCapacity =>
    unfold binAction Bin.capacityOk at done
    dsimp only at done
    split at done
    · rename_i fits
      cases done
      exact k.setCapacity bin value b s present (of_decide_eq_true fits) small hs
    · cases done
  | opened => cases done; exact k.openBin bin s hs
  | close => cases done; exact k.closeBin bin s hs
  | emptied => cases done; exact k.emptied bin s hs
  | outOfService => cases done; exact k.outOfService bin s hs

/-- Whatever the request, its serving is one of the operations named, or changes nothing. -/
theorem serve (r : Request) (body : List Byte) (hs : Q s) : Q (serve r body s).state := by
  cases r with
  | identify | bankStatus => exact hs
  | status =>
    change Q (serveStatus body s).state
    unfold serveStatus
    dsimp only
    repeat' split
    · exact hs
    · exact k.clearCounters s hs
    · exact hs
  | lineState => exact k.judgeLineState _ hs
  | lineReset => exact k.lineReset s hs
  | geometryWrite =>
    change Q (serveGeometryWrite body s).state
    unfold serveGeometryWrite
    dsimp only
    split
    · exact hs
    · rename_i idle
      rw [not_not] at idle
      split
      · exact hs
      · exact k.takeGeometry _ s idle ‹_› (geometry_drops_length body) hs
  | tableWrite => exact k.tableWrite body hs
  | bankActivate => exact k.bankActivate body hs
  | binCommand => exact k.bin _ _ _ (u16At_le body 2) hs
  | pieceQuery =>
    change Q (servePieceQuery body s).state
    unfold servePieceQuery
    split <;> exact hs
  | lastProfile =>
    change Q (serveLastProfile s).state
    unfold serveLastProfile
    split
    · exact hs
    · exact k.lastProfile _ s hs
  | clearSuspect =>
    change Q (serveClearSuspect s).state
    unfold serveClearSuspect
    repeat' split
    · exact hs
    · exact hs
    · exact hs
    · exact k.clearSuspect s ‹_› hs
  | clearHalt =>
    change Q (serveClearHalt s).state
    unfold serveClearHalt
    dsimp only
    split
    · exact hs
    · rename_i held
      rw [not_or, not_not] at held
      exact k.leaveHalt s held.1 hs
  | tallyRead =>
    change Q (serveTallyRead body s).state
    unfold serveTallyRead
    dsimp only
    split <;> exact hs
  | tallyClose =>
    change Q (serveTallyClose s).state
    unfold serveTallyClose
    split
    · exact hs
    · exact k.tallyClose _ s hs
  | snapshotRead =>
    change Q (serveSnapshotRead body s).state
    unfold serveSnapshotRead
    dsimp only
    repeat' split
    all_goals exact hs
  | snapshotRelease =>
    change Q (serveSnapshotRelease s).state
    unfold serveSnapshotRelease
    split
    · exact hs
    · exact k.releaseSnapshot s hs

end ServeKept

end Sys2Proof.Machine
end

section
/-! PROOF. A step takes the command at the front, and every command completes and keeps the commands that wait. -/

namespace Sys2Proof.Machine

/-- Settles O1: by the definition of a step. -/
theorem stepTakesFrontCommand : Obligations.StepTakesFrontCommand := by
  intro c rest s front
  rw [step, front]

/-- Serving a request leaves the queue of commands as it is. -/
theorem serve_pending (q : List Instr) : ServeKept fun t => t.pending = q := by
  constructor <;> intros <;> simp_all [closeSequence, tableReply, openSequence, storeEntries]

/-- No operation of the blocks changes the queue of commands. -/
theorem kept_pending (q : List Instr) : Kept fun t => t.pending = q := by
  constructor
  case takeRequest =>
    exact fun f s _ hs => takeRequest_kept (P := fun t => t.pending = q) (Q := fun t => t.pending = q) hs
      (fun r body _ => (serve_pending q).serve r body) fun r t ht => by simp [ht]
  all_goals
    intros
    simp_all [setReceiver, tickPanel, hostTimerReached, tickHost]

/-- Settles O3: by the induction over the operations of a step. -/
theorem commandsKeepTheQueue : Obligations.CommandsKeepTheQueue :=
  fun c s => (kept_pending s.pending).exec c rfl

end Sys2Proof.Machine
end

section
/-! SUPPORT. The steady part of a state: what the laws of the machine speak of, without the parts that the solver, the
panels, the scan assembler, the moisture unit, the tally, the fault counters and the notices change. Every operation of
those leaves the steady part as it was. -/

namespace Sys2Proof.Machine

/-! ### The steady part -/

/-- A piece record without the fields that scanning, measuring, solving and overrides write before its commit. -/
def Piece.steady (p : Piece) : Piece :=
  { p with
    stage := if p.isCommitted then p.stage else .closed
    decision := if p.isCommitted then p.decision else none
    profile := .fresh, moisture := [], sizeClass := none, solveState := .none, revision := 0, override := none
    flags := ⟨false, false, false, false, false⟩ }

/-- A link without what notices, receivers and their errors change. -/
def Link.steady (l : Link) : Link :=
  { l with receivers := [], notices := [], seq := 0, sending := none, frameErrors := [], dropped := .zero }

/-- A state without the parts that pieces under way, messages and counters change. -/
def State.steady (s : State) : State :=
  { s with
    chain := { s.chain with pieces := s.chain.pieces.map Piece.steady }
    scan := State.reset.scan, moisture := State.reset.moisture, solver := State.reset.solver
    panels := State.reset.panels, tally := State.reset.tally
    governor := { s.governor with pressure := false }
    line := { s.line with counters := .zero }
    link := s.link.steady }

variable (s : State)

@[simp] theorem onScan_steady (f : Scan → Scan) : (s.onScan f).steady = s.steady := rfl
@[simp] theorem onMoisture_steady (f : Moisture → Moisture) : (s.onMoisture f).steady = s.steady := rfl
@[simp] theorem onSolver_steady (f : Solver → Solver) : (s.onSolver f).steady = s.steady := rfl
@[simp] theorem onPanels_steady (f : Panels → Panels) : (s.onPanels f).steady = s.steady := rfl
@[simp] theorem onTally_steady (f : Tally → Tally) : (s.onTally f).steady = s.steady := rfl

/-! ### Counters, notices and panel frames -/

@[simp] theorem countFault_steady (x : LineFault) : (countFault x s).steady = s.steady := rfl
@[simp] theorem countFrameError_steady (port : Port) : (countFrameError port s).steady = s.steady := rfl
@[simp] theorem setReceiver_steady (port : Port) (r : Receiver) : (setReceiver port r s).steady = s.steady := rfl
@[simp] theorem tallyPiece_steady (p : Piece) (o : PieceOutcome) : (tallyPiece p o s).steady = s.steady := rfl
@[simp] theorem tallyLog_steady (r : LogRecord) (o : LogOutcome) : (tallyLog r o s).steady = s.steady := rfl
@[simp] theorem onPort_steady (p : PanelId) (f : PanelPort → PanelPort) : (onPort p f s).steady = s.steady := rfl
@[simp] theorem answerPanel_steady (p : PanelId) (kind tag : Byte) (body : List Byte) :
    (answerPanel p kind tag body s).steady = s.steady := rfl
@[simp] theorem tellPanel_steady (p : PanelId) (kind : Byte) (body : List Byte) :
    (tellPanel p kind body s).steady = s.steady := rfl
@[simp] theorem dropAnswer_steady (lug : LugNo) : (dropAnswer lug s).steady = s.steady := rfl
@[simp] theorem ageMoisture_steady : (ageMoisture s).steady = s.steady := rfl
@[simp] theorem clearHeld_steady : (clearHeld s).steady = s.steady := rfl
@[simp] theorem recordHistory_steady (lug : LugNo) (b : Bool) : (recordHistory lug b s).steady = s.steady := by
  unfold recordHistory; exact onScan_steady s _
@[simp] theorem panelSent_steady (p : PanelId) : (panelSent p s).steady = s.steady := rfl
@[simp] theorem overrideReply_steady (p : PanelId) (tag : Byte) (lug : LugNo) (st : OverrideStatus) (r : Byte) :
    (overrideReply p tag lug st r s).steady = s.steady := rfl
@[simp] theorem clearCounters_steady : (clearCounters s).steady = s.steady := rfl

/-- A change of the governor that leaves all of it but notice pressure, and a notice on the link, are not steady. -/
theorem steady_of_noticed {s t : State} {l : Link} (pressure : OnlyPressure s t) (link : l.steady = s.link.steady)
    (same : t = { s with link := l, governor := t.governor }) : t.steady = s.steady := by
  rw [same]
  unfold OnlyPressure at pressure
  simp only [State.steady, link]
  rw [pressure]

theorem Link.noticed_steady (l : Link) (n : Notice) : (l.noticed n).steady = l.steady := by
  unfold Link.noticed
  dsimp only
  repeat' split
  all_goals rfl

@[simp] theorem queueNotice_steady (n : Notice) : (queueNotice n s).steady = s.steady :=
  steady_of_noticed (queueNotice_onlyPressure s n) (Link.noticed_steady _ n) (queueNotice_eq n s)

@[simp] theorem lineEvent_steady (k : LineEventKind) (c : Option EventCause) (l : Option LineState) :
    (lineEvent k c l s).steady = s.steady := queueNotice_steady s _

@[simp] theorem weighAdmission_steady (lug : LugNo) : (weighAdmission lug s).steady = s.steady := by
  unfold weighAdmission; split <;> simp

@[simp] theorem sendLug_steady (lug : LugNo) : (sendLug lug s).steady = s.steady := by
  unfold sendLug; split <;> simp

@[simp] theorem sendResult_steady (p : PanelId) (tag : Byte) (lug : LugNo) :
    (sendResult p tag lug s).steady = s.steady := by
  unfold sendResult; split <;> simp

@[simp] theorem markPiece_steady (p : PanelId) (lug : LugNo) : (markPiece p lug s).steady = s.steady := by
  unfold markPiece; split <;> simp

@[simp] theorem reportResult_steady (lug : LugNo) (r : Byte) : (reportResult lug r s).steady = s.steady := by
  unfold reportResult; repeat' split
  all_goals simp

@[simp] theorem payLapsed_steady (lug : LugNo) (why : LapseReason) : (payLapsed lug why s).steady = s.steady := by
  unfold payLapsed; split <;> simp

@[simp] theorem updateAnswers_steady (p : PanelId) (tag : Byte) (lug : LugNo) (k : OverrideKind) (r : Byte) (o : Bool) :
    (updateAnswers p tag lug k r o s).steady = s.steady := by
  unfold updateAnswers; dsimp only; repeat' split
  all_goals simp

@[simp] theorem setPresence_steady (p : PanelId) (b : Bool) : (setPresence p b s).steady = s.steady := by
  simp [setPresence]

@[simp] theorem panelHeard_steady (p : PanelId) : (panelHeard p s).steady = s.steady := by
  unfold panelHeard; dsimp only; split <;> simp

@[simp] theorem weighPanelTimer_steady (p : PanelId) : (weighPanelTimer p s).steady = s.steady := by
  unfold weighPanelTimer; split <;> simp

@[simp] theorem panelSilent_steady (p : PanelId) : (panelSilent p s).steady = s.steady := by simp [panelSilent]

@[simp] theorem tickPanel_steady (p : PanelId) : (tickPanel p s).steady = s.steady := by simp [tickPanel]

@[simp] theorem triggerMoisture_steady (lug : LugNo) : (triggerMoisture lug s).steady = s.steady := by
  unfold triggerMoisture; dsimp only; repeat' split
  all_goals simp

/-! ### Records changed before their commit -/

/-- A change of the first item found leaves a view of the list that it leaves of that item. -/
theorem changeFirst_map_of_find {α β : Type} {p : α → Bool} {f : α → α} {v : α → β} {l : List α}
    (h : ∀ a, l.find? p = some a → v (f a) = v a) : (changeFirst p f l).map v = l.map v := by
  induction l with
  | nil => rfl
  | cons a l ih =>
    by_cases ha : p a = true
    · simp [changeFirst, ha, h a (by simp [ha])]
    · simp [changeFirst, ha, ih fun b hb => h b (by simpa [ha] using hb)]

theorem changePiece_steady {s : State} {lug : LugNo} {f : Piece → Piece}
    (h : ∀ p, s.piece? lug = some p → (f p).steady = p.steady) : (changePiece lug f s).steady = s.steady := by
  simp only [changePiece, State.onChain, State.steady]
  rw [changeFirst_map_of_find h]

theorem Piece.isCommitted_of_stage {p q : Piece} (h : q.stage = p.stage) : q.isCommitted = p.isCommitted := by
  simp only [Piece.isCommitted, h]

/-- Only a record's place in the queue, its mark, its destination and outcome, and what it has committed to are steady. -/
theorem Piece.steady_eq {p q : Piece} (committed : q.isCommitted = p.isCommitted)
    (held : p.isCommitted = true → q.stage = p.stage ∧ q.decision = p.decision)
    (rest : (q.lug, q.admitCount, q.bank, q.suspect, q.dest, q.outcome) =
      (p.lug, p.admitCount, p.bank, p.suspect, p.dest, p.outcome)) : q.steady = p.steady := by
  simp only [Prod.mk.injEq] at rest
  unfold Piece.steady
  rw [committed]
  cases h : p.isCommitted <;> simp_all

@[simp] theorem setSolveState_steady (lug : LugNo) (st : SolveState) : (setSolveState lug st s).steady = s.steady :=
  changePiece_steady fun _ _ => rfl

theorem State.piece?_onSolver (f : Solver → Solver) (lug : LugNo) : (s.onSolver f).piece? lug = s.piece? lug := rfl

@[simp] theorem startSolve_steady : (startSolve s).steady = s.steady := by
  unfold startSolve
  dsimp only
  split
  · split
    · simp
    · rename_i p found
      rw [onSolver_steady, changePiece_steady]
      · simp
      · intro x hx
        cases found.symm.trans hx
        rfl
  · rfl

@[simp] theorem joinSolver_steady (lug : LugNo) : (joinSolver lug s).steady = s.steady := by simp [joinSolver]

/-- The records a lug number finds are not committed. -/
def State.openAt (s : State) (lug : LugNo) : Prop := ∀ p, s.piece? lug = some p → p.isCommitted = false

variable {s} {lug : LugNo}

theorem completeEmpty_steady (h : s.openAt lug) : (completeEmpty lug s).steady = s.steady := by
  unfold completeEmpty
  split
  · rfl
  · rw [reportResult_steady, changePiece_steady]
    intro p hp
    exact Piece.steady_eq rfl (fun committed => by simp [h p hp] at committed) rfl

theorem requestAtClose_steady (h : s.openAt lug) : (requestAtClose lug s).steady = s.steady := by
  unfold requestAtClose
  repeat' split
  · rfl
  · exact completeEmpty_steady h
  all_goals simp

theorem requestForOverride_steady (h : s.openAt lug) : (requestForOverride lug s).steady = s.steady := by
  unfold requestForOverride
  repeat' split
  · rfl
  · exact completeEmpty_steady h
  all_goals simp

@[simp] theorem settleDiscard_steady (lug : LugNo) (s : State) : (settleDiscard lug s).steady = s.steady := by
  unfold settleDiscard
  repeat' split
  all_goals simp

@[simp] theorem solverCommitted_steady (lug : LugNo) (s : State) : (solverCommitted lug s).steady = s.steady := by
  unfold solverCommitted
  split
  · exact changePiece_steady fun _ _ => rfl
  · rfl

theorem Piece.isCommitted_eq_false_of_closed {p : Piece} (h : p.stage = .closed) : p.isCommitted = false := by
  simp [Piece.isCommitted, h]

theorem Piece.isCommitted_eq_false_of_scanning {p : Piece} (h : p.stage = .scanning) : p.isCommitted = false := by
  simp [Piece.isCommitted, h]

@[simp] theorem completeSolve_steady (s : State) : (completeSolve s).steady = s.steady := by
  unfold completeSolve
  dsimp only
  repeat' split
  · rfl
  · simp
  · rename_i v _ _ p found wanted
    rw [startSolve_steady, reportResult_steady, changePiece_steady]
    · simp
    · intro x hx
      cases found.symm.trans hx
      have closed : p.stage = .closed := by simp_all [Solve.stillWanted]
      exact Piece.steady_eq rfl (by simp [Piece.isCommitted_eq_false_of_closed closed]) rfl
  · simp

/-! ### Overrides -/

/-- A change of the first item found is what is found, when it is still met by the test. -/
theorem changeFirst_find_of_found {α : Type} {p : α → Bool} {f : α → α} {l : List α}
    (h : ∀ a, l.find? p = some a → p (f a) = true) : (changeFirst p f l).find? p = (l.find? p).map f := by
  induction l with
  | nil => rfl
  | cons a l ih =>
    by_cases ha : p a = true
    · simp [changeFirst, ha, h a (by simp [ha])]
    · simp [changeFirst, ha, ih fun b hb => h b (by simpa [ha] using hb)]

theorem piece?_lug {p : Piece} (h : s.piece? lug = some p) : p.lug = lug :=
  eq_of_beq (List.find?_some (p := fun q : Piece => q.lug == lug) h)

theorem piece?_changePiece {f : Piece → Piece} (keeps : ∀ p, s.piece? lug = some p → (f p).lug = lug) :
    (changePiece lug f s).piece? lug = (s.piece? lug).map f :=
  changeFirst_find_of_found fun p hp => beq_iff_eq.mpr (keeps p hp)

theorem piece?_of_chain {s t : State} (h : t.chain = s.chain) (lug : LugNo) : t.piece? lug = s.piece? lug := by
  simp only [State.piece?, h]

theorem openAt_of_chain {s t : State} (h : t.chain = s.chain) (lug : LugNo) : t.openAt lug ↔ s.openAt lug := by
  simp only [State.openAt, piece?_of_chain h]

theorem acceptOverride_steady {p : PanelId} {tag : Byte} {k : OverrideKind} {value : Nat} {x : Piece}
    (found : s.piece? lug = some x) (open_ : x.isCommitted = false) :
    (acceptOverride p tag lug k value x s).steady = s.steady := by
  have accepted : (changePiece lug (fun y => y.accept p k value) s).steady = s.steady :=
    changePiece_steady fun y hy => by
      cases found.symm.trans hy
      exact Piece.steady_eq rfl (by simp [open_]) rfl
  have stillOpen : (changePiece lug (fun y => y.accept p k value) s).openAt lug := by
    intro y hy
    rw [piece?_changePiece (f := fun y => y.accept p k value) fun _ h => (piece?_lug h :), found] at hy
    cases hy
    exact open_
  unfold acceptOverride
  dsimp only
  generalize hu : updateAnswers _ _ _ _ _ _ _ = u
  have steady : u.steady = s.steady := by rw [← hu]; simp [accepted]
  have openAt : u.openAt lug := by
    refine (openAt_of_chain ?_ lug).mpr stillOpen
    rw [← hu]; simp
  unfold afterAcceptance
  repeat' split
  all_goals simp [steady, requestForOverride_steady openAt]

@[simp] theorem judgeOverride_steady (p : PanelId) (tag : Byte) (lug : LugNo) (k : OverrideKind) (value : Nat)
    (s : State) : (judgeOverride p tag lug k value s).steady = s.steady := by
  unfold judgeOverride
  repeat' split
  any_goals simp
  rename_i found open_ _
  exact acceptOverride_steady found (by simpa using open_)

/-! ### Head reports and moisture readings -/

theorem Piece.closeProfile_steady {p : Piece} (h : p.stage = .scanning) : p.closeProfile.steady = p.steady :=
  Piece.steady_eq (by simp [Piece.isCommitted, Piece.closeProfile, h])
    (by simp [Piece.isCommitted_eq_false_of_scanning h]) rfl

@[simp] theorem closeProfile_steady (lug : LugNo) (cause : CloseCause) (s : State) :
    (closeProfile lug cause s).steady = s.steady := by
  unfold closeProfile
  repeat' split
  · rfl
  · rename_i p found scanning
    have closed : (changePiece lug (fun _ => p.closeProfile) s).openAt lug := by
      intro y hy
      rw [piece?_changePiece (f := fun _ => p.closeProfile) fun _ _ => (piece?_lug found :), found] at hy
      cases hy
      rfl
    rw [onScan_steady, requestAtClose_steady closed]
    exact changePiece_steady fun x hx => by
      cases found.symm.trans hx
      exact Piece.closeProfile_steady scanning
  · rfl

theorem Piece.takeReport_steady {p : Piece} (h : p.stage = .scanning) (head first last : Nat) (f : SegmentFields) :
    (p.takeReport head first last f).steady = p.steady :=
  Piece.steady_eq rfl (by simp [Piece.isCommitted_eq_false_of_scanning h]) rfl

theorem takeReport_steady {p : Piece} (found : s.piece? lug = some p) (scanning : p.stage = .scanning)
    (head first last : Nat) (f : SegmentFields) : (takeReport p head first last f s).steady = s.steady := by
  have number := piece?_lug found
  have reported : (changePiece p.lug (fun _ => p.takeReport head first last f) s).steady = s.steady :=
    changePiece_steady fun x hx => by
      rw [number, found] at hx
      cases hx
      exact p.takeReport_steady scanning head first last f
  unfold takeReport
  dsimp only
  split <;> simp [reported]

@[simp] theorem judgeSegment_steady (head : Fin 8) (body : List Byte) (s : State) :
    (judgeSegment head body s).steady = s.steady := by
  unfold judgeSegment
  repeat' split
  any_goals simp
  rename_i found scanning
  unfold judgeReport
  repeat' split
  any_goals simp
  exact takeReport_steady found scanning _ _ _ _

theorem Piece.takeReading_steady (c v : Nat) (p : Piece) : (p.takeReading c v).steady = p.steady := by
  unfold Piece.takeReading; split <;> rfl

@[simp] theorem completeConversion_steady (raw : Nat) (s : State) : (completeConversion raw s).steady = s.steady := by
  unfold completeConversion
  split
  · rfl
  split
  · rfl
  · exact changePiece_steady fun p _ => p.takeReading_steady _ _

end Sys2Proof.Machine
end

section
/-! PROOF. Every step keeps the law of the lifetime counters (R20): each operation leaves the difference between the
counters and the number of records as it was. -/

namespace Sys2Proof.Machine

/-- The lifetime admitted count less the finished count and the records in the piece queue, modulo 2^64 (log 20). -/
def State.unaccounted (s : State) : BitVec 64 :=
  s.chain.admitted - s.chain.finished - BitVec.ofNat 64 s.chain.pieces.length

theorem lifetimeLaw_iff (s : State) : LifetimeLaw s ↔ s.unaccounted = 0 := by
  unfold LifetimeLaw State.unaccounted
  generalize BitVec.ofNat 64 _ = n
  constructor <;> intro h <;> bv_omega

theorem unaccounted_steady (s : State) : s.steady.unaccounted = s.unaccounted := by
  simp [State.unaccounted, State.steady]

theorem unaccounted_of_steady {s t : State} (h : t.steady = s.steady) : t.unaccounted = s.unaccounted := by
  rw [← unaccounted_steady t, h, unaccounted_steady]

theorem unaccounted_of_chain {s t : State} (h : t.chain = s.chain) : t.unaccounted = s.unaccounted := by
  unfold State.unaccounted; rw [h]

variable (s : State)

/-! ### Operations that leave the queue's length and the counters -/

@[simp] theorem countFault_unaccounted (x : LineFault) : (countFault x s).unaccounted = s.unaccounted := rfl

theorem changeFirst_length {α : Type} (p : α → Bool) (f : α → α) (l : List α) :
    (changeFirst p f l).length = l.length := by
  induction l with
  | nil => rfl
  | cons a l ih =>
    rw [changeFirst]
    split <;> simp [ih]

@[simp] theorem changePiece_unaccounted (lug : LugNo) (f : Piece → Piece) :
    (changePiece lug f s).unaccounted = s.unaccounted := by
  simp [State.unaccounted, changePiece, changeFirst_length]

@[simp] theorem setSuspect_unaccounted (cause : SuspectCause) : (setSuspect cause s).unaccounted = s.unaccounted := by
  simp [State.unaccounted, setSuspect_chain]

@[simp] theorem clearSuspectNoticed_unaccounted : (clearSuspectNoticed s).unaccounted = s.unaccounted := by
  unfold clearSuspectNoticed
  split
  · simp [State.unaccounted]
  · rfl

@[simp] theorem closeProfile_unaccounted (lug : LugNo) (cause : CloseCause) :
    (closeProfile lug cause s).unaccounted = s.unaccounted := unaccounted_of_steady (by simp)

@[simp] theorem endHold_unaccounted : (s.onChain Chain.endHold).unaccounted = s.unaccounted := by
  simp only [State.unaccounted, State.onChain_chain, Chain.endHold]
  repeat' split
  all_goals rfl

/-! ### A piece finished and a piece admitted (R14, R18) -/

/-- A finish takes one record out of the queue and adds one to the finished count. -/
@[simp] theorem finishPiece_unaccounted (lug : LugNo) (o : PieceOutcome) :
    (finishPiece lug o s).unaccounted = s.unaccounted := by
  unfold finishPiece
  split
  · rfl
  · rename_i p found
    have present : p ∈ s.chain.pieces := List.mem_of_find?_eq_some found
    have number := List.length_eraseP_of_mem (p := fun q : Piece => q.lug == lug) present
      (beq_iff_eq.mpr (piece?_lug found))
    obtain ⟨n, hn⟩ := Nat.exists_eq_succ_of_ne_zero (Nat.ne_of_gt (List.length_pos_of_mem present))
    simp only [State.unaccounted, queueNotice_frame, tallyPiece_frame, State.onChain_chain, number]
    rw [hn, Nat.succ_sub_one, Nat.succ_eq_add_one, BitVec.ofNat_add]
    generalize BitVec.ofNat 64 n = n
    bv_omega

/-- An admission adds one record to the queue and one to the admitted count. -/
@[simp] theorem admitPiece_unaccounted (c : Count) (eye : Bool) : (admitPiece c eye s).unaccounted = s.unaccounted := by
  unfold admitPiece
  split
  · rw [unaccounted_of_steady ((recordHistory_steady _ _ _).trans (weighAdmission_steady _ _))]
    simp only [State.unaccounted, State.onChain_chain, List.length_append, List.length_singleton, BitVec.ofNat_add]
    generalize BitVec.ofNat 64 _ = n
    bv_omega
  · exact unaccounted_of_steady (by simp)

/-! ### The stations and the advance (R11, R13) -/

@[simp] theorem writeCommit_unaccounted (lug : LugNo) (d : Dest) (o : Option PieceOutcome) (full : Bool) :
    (writeCommit lug d o full s).unaccounted = s.unaccounted := by
  unfold writeCommit
  rw [unaccounted_of_steady ((payLapsed_steady _ _ _).trans (solverCommitted_steady _ _)), changePiece_unaccounted]

@[simp] theorem commitPiece_unaccounted (g : Geometry) (c : Count) (lug : LugNo) :
    (commitPiece g c lug s).unaccounted = s.unaccounted := by
  have reserved : ∀ bin : Option Nat, (bin.elim s fun b => reserveBin b s).unaccounted = s.unaccounted := by
    rintro (_ | b)
    · rfl
    · exact unaccounted_of_chain (by simp)
  have freed : ∀ (bin : Option Nat) (t : State), (bin.elim t fun b => releaseBin b t).unaccounted = t.unaccounted := by
    rintro (_ | b) t
    · rfl
    · exact unaccounted_of_chain (by simp)
  unfold commitPiece
  dsimp only
  repeat' split
  · rfl
  · simp [reserved]
  · rename_i taken
    simp [unaccounted_of_chain (addEntries_frame taken).1, reserved]
  · simp [freed, reserved]

@[simp] theorem passSaw_unaccounted (lug : LugNo) : (passSaw lug s).unaccounted = s.unaccounted := by
  unfold passSaw
  dsimp only
  repeat' split
  all_goals simp

@[simp] theorem dropPiece_unaccounted (bin : Nat) (lug : LugNo) : (dropPiece bin lug s).unaccounted = s.unaccounted := by
  unfold dropPiece; rw [finishPiece_unaccounted]; rfl

@[simp] theorem runOutPiece_unaccounted (lug : LugNo) : (runOutPiece lug s).unaccounted = s.unaccounted := by
  unfold runOutPiece
  split <;> simp

@[simp] theorem visitStations_unaccounted (g : Geometry) (c : Count) (lug : LugNo) :
    (visitStations g c s lug).unaccounted = s.unaccounted := by
  have moisture : ∀ t, (triggerMoisture lug t).unaccounted = t.unaccounted := fun t =>
    unaccounted_of_chain (by simp)
  have marked : ∀ p t, (markPiece p lug t).unaccounted = t.unaccounted := fun p t => unaccounted_of_chain (by simp)
  unfold visitStations
  dsimp only
  generalize dropAt g _ _ lug = d
  cases d <;> simp [onlyIf_keeps State.unaccounted, moisture, marked]

@[simp] theorem lugAdvance_unaccounted (c : Count) (good eye : Bool) :
    (lugAdvance c good eye s).unaccounted = s.unaccounted := by
  have run : ∀ t, (runStations c t).unaccounted = t.unaccounted := fun t => by
    unfold runStations
    split
    · rfl
    · exact foldl_keeps State.unaccounted _ (fun t lug => visitStations_unaccounted t _ c lug) _ t
  unfold lugAdvance
  dsimp only
  rw [unaccounted_of_chain (stepGovernor_frame _).1, run, unaccounted_of_steady (ageMoisture_steady _),
    admitPiece_unaccounted, unaccounted_of_chain (sendLug_frame _ _).1]
  simp [State.unaccounted]

/-! ### The chain encoder, HALT and the line's moves -/

@[simp] theorem weighMissed_unaccounted (eye : Bool) : (weighMissed eye s).unaccounted = s.unaccounted := by
  unfold weighMissed missedLug
  dsimp only
  repeat' split
  · rfl
  · rw [lugAdvance_unaccounted, countFault_unaccounted, setSuspect_unaccounted]; rfl
  · rfl

@[simp] theorem judgeEdge_unaccounted (eye : Bool) : (judgeEdge eye s).unaccounted = s.unaccounted := by
  unfold judgeEdge extraLug
  repeat' split
  · rfl
  · rfl
  · rw [lugAdvance_unaccounted]; rfl
  · rw [countFault_unaccounted, setSuspect_unaccounted]; rfl
  · rfl
  · exact lugAdvance_unaccounted ..

@[simp] theorem weighReversal_unaccounted : (weighReversal s).unaccounted = s.unaccounted := by
  unfold weighReversal reversal
  repeat' split
  · rfl
  · rw [unaccounted_of_chain (cancelEncoder_frame _ _).1, countFault_unaccounted, setSuspect_unaccounted]; rfl
  · rfl

theorem clearError_counted (c : Chain) : c.clearError.pieces = c.pieces ∧ c.clearError.admitted = c.admitted ∧
    c.clearError.finished = c.finished := by
  unfold Chain.clearError
  split <;> exact ⟨rfl, rfl, rfl⟩

@[simp] theorem chainTransition_unaccounted (forward eye : Bool) :
    (chainTransition forward eye s).unaccounted = s.unaccounted := by
  unfold chainTransition
  dsimp only
  rw [weighMissed_unaccounted, unaccounted_of_chain (weighEntries_frame _ _).1, endHold_unaccounted,
    weighReversal_unaccounted]
  have followed : ∀ c : Chain, (c.followHighest forward).pieces = c.pieces ∧
      (c.followHighest forward).admitted = c.admitted ∧ (c.followHighest forward).finished = c.finished := fun c => by
    unfold Chain.followHighest; split <;> exact ⟨rfl, rfl, rfl⟩
  have run : ∀ c : Chain, c.legalRun.pieces = c.pieces ∧ c.legalRun.admitted = c.admitted ∧
      c.legalRun.finished = c.finished := fun c => by
    unfold Chain.legalRun; split <;> exact ⟨rfl, rfl, rfl⟩
  simp [State.unaccounted, followed, clearError_counted, run, Chain.move]

@[simp] theorem haltingFault_unaccounted (cause : HaltCause) : (haltingFault cause s).unaccounted = s.unaccounted := by
  have entered : ∀ t, (enterHalt cause t).unaccounted = t.unaccounted := fun t => by
    unfold enterHalt
    dsimp only
    rw [unaccounted_of_chain (weighHold_frame _).1, unaccounted_of_chain (State.onLine_chain _ _),
      setSuspect_unaccounted]
    exact unaccounted_of_chain (by simp)
  unfold haltingFault
  dsimp only
  split
  · simp [entered]
  · simp [entered]
  all_goals exact unaccounted_of_chain (by simp)

theorem lineResetState_unaccounted : (lineResetState s).unaccounted = s.unaccounted := by
  have lost : ∀ (t : State) (lug : LugNo), (losePiece t lug).unaccounted = t.unaccounted := fun t lug => by
    unfold losePiece
    dsimp only
    rw [finishPiece_unaccounted, unaccounted_of_chain (payLapsed_frame _ _ _).1]
    cases (t.piece? lug).bind Piece.reservedBin with
    | none => rfl
    | some b => exact unaccounted_of_chain (by simp)
  unfold lineResetState finishAll
  rw [unaccounted_of_chain (resetLine_frame _).1]
  simp only [resetBlocks]
  rw [unaccounted_of_chain (State.onStore_chain _ _), unaccounted_of_chain (abortSequence_frame _).1]
  refine Eq.trans ?_ (foldl_keeps State.unaccounted losePiece lost (s.chain.pieces.map Piece.lug) s)
  simp [State.unaccounted]

/-! ### Every step -/

theorem serve_unaccounted (n : BitVec 64) : ServeKept fun t => t.unaccounted = n := by
  constructor
  case clearSuspect => exact fun s _ hs => (clearSuspectNoticed_unaccounted s).trans hs
  case lineReset => exact fun s hs => (lineResetState_unaccounted s).trans hs
  case enterStandby => 
    intro s _ _ _ hs
    unfold enterStandby armLockOn
    rw [unaccounted_of_chain (clearHeld_frame _).1, clearSuspectNoticed_unaccounted, ← hs]
    simp [State.unaccounted]
  case enterIdle =>
    intro s _ _ hs
    rw [← hs]
    simp [State.unaccounted, enterIdle]
  case outOfService =>
    intro bin s hs
    unfold takeOutOfService
    dsimp only
    rw [unaccounted_of_chain (changeBin_frame _ _ _ _).1]
    refine (foldl_keeps State.unaccounted _ (fun t lug => ?_) _ s).trans hs
    unfold reroute
    dsimp only
    rw [unaccounted_of_chain (cancelOwnerGate_frame _ _).1, unaccounted_of_chain (State.onBins_chain _ _),
      changePiece_unaccounted]
  all_goals
    intros
    simp_all [State.unaccounted, closeSequence, tableReply, openSequence, storeEntries]

theorem kept_unaccounted : Kept fun t => t.unaccounted = 0 := by
  constructor
  case takeRequest =>
    exact fun f s _ hs => takeRequest_kept (P := fun t => t.unaccounted = 0) (Q := fun t => t.unaccounted = 0) hs
      (fun r body _ => (serve_unaccounted 0).serve r body) fun r t ht => 
        (unaccounted_of_chain (makeReply_frame t _).1).trans ht
  case fullReset =>
    intros
    simp [State.unaccounted, State.afterReset]
  case judgeSegment | completeConversion | startSolve | completeSolve | panelHeard | answerPanel | judgeOverride |
      panelSilent | panelSent | tickPanel | countFrameError | setReceiver =>
    intros
    refine Eq.trans ?_ ‹State.unaccounted _ = 0›
    exact unaccounted_of_steady (by simp)
  case clearError =>
    intro s hs
    rwa [show (s.onChain Chain.clearError).unaccounted = s.unaccounted by simp [State.unaccounted, clearError_counted]]
  case chainIllegal =>
    intro s hs
    rw [chainIllegal, haltingFault_unaccounted]
    exact hs
  case assertEstop =>
    intro s hs
    unfold assertEstop
    split
    · exact hs
    · rw [haltingFault_unaccounted]
      exact hs
  case chainTransition | endHold | judgeEdge | weighMissed =>
    intros
    simp_all
  all_goals
    intros
    refine Eq.trans ?_ ‹State.unaccounted _ = 0›
    exact unaccounted_of_chain (by simp [hostTimerReached, tickHost])

/-- Settles O6: each operation keeps the difference between the counters and the number of records. -/
theorem everyStepKeepsLifetimeLaw : Obligations.EveryStepKeepsLifetimeLaw := by
  intro s t hs next
  rw [lifetimeLaw_iff] at hs ⊢
  exact kept_unaccounted.step (fun _ _ h => h) hs next

end Sys2Proof.Machine
end

section
/-! SUPPORT. Calm operations: what most operations leave of the line state, the schedule, the forced hold, the requests,
the bank store and the banks that pieces and logs carry. The laws of HALT, of the banks and of the schedule pass over
every calm operation. -/

namespace Sys2Proof.Machine

/-! ### The relation -/

/-- From `s` to `t` the line state, the causes of forced hold, the requests and the bank store stay; the lines still
follow the entries, and no list of the schedule, the logs or the governor passes its bound; no piece or log of a new bank
joins, and no log at all. -/
structure Calm (s t : State) : Prop where
  state : t.line.state = s.line.state
  faultLine : t.line.faultLine = s.line.faultLine
  lines : LinesFollowEntries s.output → LinesFollowEntries t.output
  empty : s.line.state = .halt → s.output.held = 0 → t.output.held = 0
  held : s.output.held ≤ 48 → t.output.held ≤ 48
  causes : t.governor.causes = s.governor.causes
  permit : s.governor.causes.any = true → s.governor.permit = false → t.governor.permit = false
  record : s.governor.record.length ≤ 2 → t.governor.record.length ≤ 2
  silent : t.link.silent = s.link.silent
  store : t.store = s.store
  pieces : ∀ p ∈ t.chain.pieces, ∃ q ∈ s.chain.pieces, q.bank = p.bank
  logs : ∀ l ∈ t.logs.queue, ∃ m ∈ s.logs.queue, m.bank = l.bank
  logCount : t.logs.queue.length ≤ s.logs.queue.length
  samples : (∀ r ∈ s.logs.queue, r.samples.length ≤ 256) → ∀ r ∈ t.logs.queue, r.samples.length ≤ 256
  goodRun : s.chain.goodRun ≤ 255 → t.chain.goodRun ≤ 255

theorem Calm.refl (s : State) : Calm s s where
  state := rfl
  faultLine := rfl
  lines := id
  empty _ := id
  held := id
  causes := rfl
  permit _ := id
  record := id
  silent := rfl
  store := rfl
  pieces p hp := ⟨p, hp, rfl⟩
  logs l hl := ⟨l, hl, rfl⟩
  logCount := le_rfl
  samples := id
  goodRun := id

theorem Calm.trans {s t u : State} (h : Calm s t) (k : Calm t u) : Calm s u where
  state := k.state.trans h.state
  faultLine := k.faultLine.trans h.faultLine
  lines := k.lines ∘ h.lines
  empty halt none := k.empty (h.state.trans halt) (h.empty halt none)
  held := k.held ∘ h.held
  causes := k.causes.trans h.causes
  permit any off := k.permit (by rw [h.causes, any]) (h.permit any off)
  record := k.record ∘ h.record
  silent := k.silent.trans h.silent
  store := k.store.trans h.store
  pieces p hp := by
    obtain ⟨q, hq, same⟩ := k.pieces p hp
    obtain ⟨r, hr, same'⟩ := h.pieces q hq
    exact ⟨r, hr, same'.trans same⟩
  logs l hl := by
    obtain ⟨m, hm, same⟩ := k.logs l hl
    obtain ⟨n, hn, same'⟩ := h.logs m hm
    exact ⟨n, hn, same'.trans same⟩
  logCount := k.logCount.trans h.logCount
  samples := k.samples ∘ h.samples
  goodRun := k.goodRun ∘ h.goodRun

theorem foldl_calm {α : Type} {f : State → α → State} (h : ∀ t a, Calm t (f t a)) (l : List α) (s : State) :
    Calm s (l.foldl f s) := by
  induction l generalizing s with
  | nil => exact Calm.refl s
  | cons a l ih => exact (h s a).trans (ih _)

/-- An operation on an optional item, calm for each item. -/
theorem elim_calm {α : Type} {f : α → State} {s : State} (h : ∀ a, Calm s (f a)) (o : Option α) :
    Calm s (o.elim s f) := by
  cases o with
  | none => exact Calm.refl s
  | some a => exact h a

/-- An operation that leaves the steady part as it was is calm. -/
theorem Calm.of_steady {s t : State} (h : t.steady = s.steady) : Calm s t := by
  have line : t.line.state = s.line.state ∧ t.line.faultLine = s.line.faultLine :=
    ⟨congrArg (fun x => x.line.state) h, congrArg (fun x => x.line.faultLine) h⟩
  have output : t.output = s.output := congrArg (fun x => x.output) h
  have governor : t.governor.causes = s.governor.causes ∧ t.governor.permit = s.governor.permit ∧
      t.governor.record = s.governor.record :=
    ⟨congrArg (fun x => x.governor.causes) h, congrArg (fun x => x.governor.permit) h,
      congrArg (fun x => x.governor.record) h⟩
  have logs : t.logs = s.logs := congrArg (fun x => x.logs) h
  have records : t.chain.pieces.map Piece.steady = s.chain.pieces.map Piece.steady :=
    congrArg (fun x => x.chain.pieces) h
  refine ⟨line.1, line.2, ?_, ?_, ?_, governor.1, ?_, ?_, congrArg (fun x => x.link.silent) h,
    congrArg (fun x => x.store) h, ?_, ?_, ?_, ?_, ?_⟩
  · rw [output]; exact id
  · rw [output]; exact fun _ => id
  · rw [output]; exact id
  · rw [governor.2.1]; exact fun _ => id
  · rw [governor.2.2]; exact id
  · intro p hp
    have present : p.steady ∈ s.chain.pieces.map Piece.steady := records ▸ List.mem_map_of_mem hp
    obtain ⟨q, hq, same⟩ := List.mem_map.mp present
    exact ⟨q, hq, congrArg (fun x => x.bank) same⟩
  · rw [logs]; exact fun l hl => ⟨l, hl, rfl⟩
  · rw [logs]
  · rw [logs]; exact id
  · rw [show t.chain.goodRun = s.chain.goodRun from congrArg (fun x => x.chain.goodRun) h]; exact id

/-- A change of the piece queue that brings in no new bank is calm, and one of the rest of the chain tracker but its
good-lug run. -/
theorem onChain_calm {s : State} {f : Chain → Chain}
    (pieces : ∀ p ∈ (f s.chain).pieces, ∃ q ∈ s.chain.pieces, q.bank = p.bank)
    (run : s.chain.goodRun ≤ 255 → (f s.chain).goodRun ≤ 255) : Calm s (s.onChain f) :=
  { Calm.refl s with pieces := pieces, goodRun := run }

theorem onBins_calm (s : State) (f : List Bin → List Bin) : Calm s (s.onBins f) := { Calm.refl s with }

theorem onLogs_calm {s : State} {f : Logs → Logs} (logs : ∀ l ∈ (f s.logs).queue, ∃ m ∈ s.logs.queue,
      m.bank = l.bank) (count : (f s.logs).queue.length ≤ s.logs.queue.length)
    (samples : (∀ r ∈ s.logs.queue, r.samples.length ≤ 256) → ∀ r ∈ (f s.logs).queue, r.samples.length ≤ 256) :
    Calm s (s.onLogs f) :=
  { Calm.refl s with logs := logs, logCount := count, samples := samples }

/-- A change of the log measurer's figures that leaves its queue is calm. -/
theorem onLogs_queue_calm {s : State} {f : Logs → Logs} (same : (f s.logs).queue = s.logs.queue) :
    Calm s (s.onLogs f) :=
  onLogs_calm (by rw [same]; exact fun l hl => ⟨l, hl, rfl⟩) (by rw [same]) (by rw [same]; exact id)

/-! ### The schedule (R102 to R106) -/

/-- The lines follow the entries once they are set afresh (R105). -/
theorem linesFollow_refresh (o : Output) : LinesFollowEntries o.refresh := ⟨rfl, rfl, rfl⟩

theorem linesFollow_setEntries (o : Output) (enc : EncoderId) (es : List Entry) :
    LinesFollowEntries (o.setEntries enc es) := by
  cases enc <;> exact linesFollow_refresh _

theorem held_setEntries (o : Output) (enc : EncoderId) (es : List Entry) :
    (o.setEntries enc es).held + (o.entries enc).length = o.held + es.length := by
  cases enc <;> simp only [Output.setEntries, Output.refresh, Output.held, Output.entries] <;> omega

/-- Entries replaced by no more than there were. -/
theorem setEntries_calm (s : State) (enc : EncoderId) (es : List Entry)
    (fewer : es.length ≤ (s.output.entries enc).length) : Calm s (s.onOutput fun o => o.setEntries enc es) := by
  have count := held_setEntries s.output enc es
  exact { Calm.refl s with
    lines := fun _ => linesFollow_setEntries ..
    empty := fun _ none => by simp only [State.onOutput_output]; omega
    held := fun bound => by simp only [State.onOutput_output]; omega }

variable (s : State)

theorem weighEntries_calm (enc : EncoderId) : Calm s (weighEntries enc s) :=
  setEntries_calm s enc _ (List.length_filterMap_le ..)

theorem turnEntriesOn_calm (enc : EncoderId) : Calm s (turnEntriesOn enc s) :=
  setEntries_calm s enc _ (List.length_filterMap_le ..)

theorem endEntries_calm (enc : EncoderId) : Calm s (endEntries enc s) :=
  setEntries_calm s enc _ (List.length_filterMap_le ..)

theorem cancelOwner_calm (lug : LugNo) : Calm s (cancelOwner lug s) :=
  setEntries_calm s .chain _ (List.length_filter_le ..)

theorem cancelOwnerGate_calm (lug : LugNo) : Calm s (cancelOwnerGate lug s) :=
  setEntries_calm s .chain _ (List.length_filter_le ..)

theorem cancelEncoder_calm (enc : EncoderId) : Calm s (cancelEncoder enc s) :=
  setEntries_calm s enc [] (Nat.zero_le _)

theorem insertEntries_length (es joining : List Entry) :
    (joining.foldl (fun acc e => insertEntry e acc) es).length = es.length + joining.length := by
  induction joining generalizing es with
  | nil => rfl
  | cons e joining ih =>
    rw [List.foldl_cons, ih, (insertEntry_perm e es).length_eq]
    simp only [List.length_cons]
    omega

variable {s} in
/-- Entries join only outside HALT, and only while the schedule holds 48 at most (R102, R103). -/
theorem addEntries_calm {enc : EncoderId} {es : List Entry} {t : State} (taken : addEntries enc es s = some t) :
    Calm s t := by
  unfold addEntries at taken
  split at taken
  · cases taken
  · rename_i free
    obtain ⟨running, room⟩ := not_or.mp free
    cases taken
    have count := held_setEntries s.output enc
      ((es.filterMap (Entry.turnOn (s.encoderCount enc))).foldl (fun acc e => insertEntry e acc) (s.output.entries enc))
    have fewer := List.length_filterMap_le (Entry.turnOn (s.encoderCount enc)) es
    rw [insertEntries_length] at count
    unfold scheduleMax at room
    exact { Calm.refl s with
      lines := fun _ => linesFollow_setEntries ..
      empty := fun halt => absurd halt running
      held := fun _ => by simp only [State.onOutput_output]; omega }

theorem cancelAll_calm : Calm s (cancelAll s) := by
  have kicked : ∀ (owners : List LogNo) (l : LogRecord), (l.kickRemoved owners).bank = l.bank ∧
      (l.kickRemoved owners).samples = l.samples := fun owners l => by
    unfold LogRecord.kickRemoved; split <;> exact ⟨rfl, rfl⟩
  have emptied : Calm s (s.onOutput fun o => Output.refresh { o with chain := [], log := [] }) :=
    { Calm.refl s with
      lines := fun _ => linesFollow_refresh _
      empty := fun _ _ => rfl
      held := fun _ => Nat.zero_le _ }
  refine emptied.trans (onLogs_calm
    (f := fun m => { m with queue := m.queue.map (LogRecord.kickRemoved (s.output.log.map Entry.owner)) })
    ?_ (List.length_map _).le ?_)
  · intro l hl
    obtain ⟨m, hm, rfl⟩ := List.mem_map.mp hl
    exact ⟨m, hm, (kicked _ m).1.symm⟩
  · intro bound l hl
    obtain ⟨m, hm, rfl⟩ := List.mem_map.mp hl
    rw [(kicked _ m).2]
    exact bound m hm

/-! ### Bins, pieces and the suspect condition -/

theorem changeBin_calm (i : Nat) (f : Bin → Bin) (cause : BinCause) : Calm s (changeBin i f cause s) := by
  refine (onBins_calm s fun l => setAt l i f).trans ?_
  unfold changeBin weighBin
  split
  · exact Calm.refl _
  · split
    · exact Calm.refl _
    · exact (onBins_calm _ _).trans (Calm.of_steady (queueNotice_steady _ _))

theorem changeFirst_mem {α : Type} {p : α → Bool} {f : α → α} {l : List α} {y : α} (h : y ∈ changeFirst p f l) :
    y ∈ l ∨ ∃ x ∈ l, p x = true ∧ y = f x := by
  induction l with
  | nil => cases h
  | cons x l ih =>
    rw [changeFirst] at h
    split at h
    case isTrue hx =>
      rcases List.mem_cons.mp h with rfl | h
      · exact .inr ⟨x, List.mem_cons_self, hx, rfl⟩
      · exact .inl (List.mem_cons_of_mem _ h)
    case isFalse =>
      rcases List.mem_cons.mp h with rfl | h
      · exact .inl List.mem_cons_self
      · rcases ih h with h | ⟨z, hz, found⟩
        · exact .inl (List.mem_cons_of_mem _ h)
        · exact .inr ⟨z, List.mem_cons_of_mem _ hz, found⟩

theorem changePiece_calm (lug : LugNo) (f : Piece → Piece) (bank : ∀ p, (f p).bank = p.bank) :
    Calm s (changePiece lug f s) := by
  refine onChain_calm ?_ id
  intro p hp
  rcases changeFirst_mem hp with hp | ⟨q, hq, _, rfl⟩
  · exact ⟨p, hp, rfl⟩
  · exact ⟨q, hq, (bank q).symm⟩

theorem setSuspect_calm (cause : SuspectCause) : Calm s (setSuspect cause s) := by
  have marked : Calm s (s.onChain fun c =>
      { c with suspect := some cause, pieces := c.pieces.map (Piece.markSuspect cause) }) := by
    refine onChain_calm (fun p hp => ?_) id
    obtain ⟨q, hq, rfl⟩ := List.mem_map.mp hp
    refine ⟨q, hq, ?_⟩
    unfold Piece.markSuspect
    split <;> rfl
  have cancelled := (marked.trans (foldl_calm (f := fun t b => releaseBin b t) (fun t b => changeBin_calm t b _ _)
    ((s.chain.pieces.filter fun p => p.suspect.isNone).filterMap Piece.reservedBin) _)).trans
    (foldl_calm (f := fun t lug => cancelOwner lug t) (fun t lug => cancelOwner_calm t lug)
      ((s.chain.pieces.filter fun p => p.suspect.isNone).map Piece.lug) _)
  unfold setSuspect
  dsimp only
  split
  · exact cancelled.trans (Calm.of_steady (lineEvent_steady _ _ _ _))
  · exact cancelled

theorem clearSuspectNoticed_calm : Calm s (clearSuspectNoticed s) := by
  unfold clearSuspectNoticed
  split
  · exact (onChain_calm (fun p hp => ⟨p, hp, rfl⟩) id).trans (Calm.of_steady (lineEvent_steady _ _ _ _))
  · exact Calm.refl s

theorem finishPiece_calm (lug : LugNo) (o : PieceOutcome) : Calm s (finishPiece lug o s) := by
  unfold finishPiece
  split
  · exact Calm.refl s
  · have removed : Calm s (s.onChain fun c =>
        { c with pieces := c.pieces.eraseP (fun q => q.lug == lug), finished := c.finished + 1 }) :=
      onChain_calm (fun p hp => ⟨p, List.mem_of_mem_eraseP hp, rfl⟩) id
    refine removed.trans (Calm.of_steady ?_)
    rw [queueNotice_steady, tallyPiece_steady]

theorem reroute_calm (bin : Nat) (lug : LugNo) : Calm s (reroute bin lug s) :=
  ((changePiece_calm s lug (fun p => { p with dest := some .runOut, outcome := some .runOut }) fun _ => rfl).trans
    (onBins_calm _ _)).trans (cancelOwnerGate_calm _ lug)

theorem takeOutOfService_calm (bin : Nat) : Calm s (takeOutOfService bin s) :=
  (foldl_calm (fun t lug => reroute_calm t bin lug) _ s).trans (changeBin_calm _ bin _ _)

/-! ### The stations (R13, R93 to R101, R122, R123) -/

theorem writeCommit_calm (lug : LugNo) (d : Dest) (o : Option PieceOutcome) (full : Bool) :
    Calm s (writeCommit lug d o full s) :=
  (changePiece_calm s lug (fun p => p.committed d o full) fun _ => rfl).trans (Calm.of_steady (by simp [writeCommit]))

theorem commitPiece_calm (g : Geometry) (c : Count) (lug : LugNo) : Calm s (commitPiece g c lug s) := by
  unfold commitPiece
  split
  · exact Calm.refl s
  · rename_i p found
    dsimp only
    have reserved : Calm s ((reservationOf (pathOf s.line.state p) s p).elim s fun b => reserveBin b s) :=
      elim_calm (fun b => changeBin_calm s b _ _) _
    split
    · exact reserved.trans (writeCommit_calm ..)
    · split
      · rename_i taken
        exact (reserved.trans (addEntries_calm taken)).trans (writeCommit_calm ..)
      · refine (reserved.trans ?_).trans (writeCommit_calm ..)
        exact (elim_calm (fun b => changeBin_calm _ b _ _) _).trans (Calm.of_steady (countFault_steady _ _))

theorem passSaw_calm (lug : LugNo) : Calm s (passSaw lug s) := by
  have passed : Calm s (changePiece lug (fun p => { p with stage := .pastSaw }) s) :=
    changePiece_calm s lug _ fun _ => rfl
  unfold passSaw
  dsimp only
  repeat' split
  · exact passed
  · exact passed.trans (finishPiece_calm ..)
  · exact passed

theorem dropPiece_calm (bin : Nat) (lug : LugNo) : Calm s (dropPiece bin lug s) :=
  (onBins_calm s _).trans (finishPiece_calm ..)

theorem runOutPiece_calm (lug : LugNo) : Calm s (runOutPiece lug s) := by
  unfold runOutPiece
  split
  · exact Calm.refl s
  · exact finishPiece_calm ..

theorem onlyIf_calm {b : Bool} {f : State → State} (h : Calm s (f s)) : Calm s (onlyIf b f s) := by
  cases b with
  | false => exact Calm.refl s
  | true => exact h

theorem visitStations_calm (g : Geometry) (c : Count) (lug : LugNo) : Calm s (visitStations g c s lug) := by
  unfold visitStations
  refine Calm.trans ?_ (onlyIf_calm _ (runOutPiece_calm _ _))
  refine Calm.trans ?_ (elim_calm (fun b => dropPiece_calm _ b _) _)
  refine Calm.trans ?_ (onlyIf_calm _ (passSaw_calm _ _))
  refine Calm.trans ?_ (onlyIf_calm _ (commitPiece_calm _ _ _ _))
  refine Calm.trans ?_ (onlyIf_calm _ (Calm.of_steady (markPiece_steady _ _ _)))
  refine Calm.trans ?_ (onlyIf_calm _ (Calm.of_steady (markPiece_steady _ _ _)))
  refine Calm.trans ?_ (onlyIf_calm _ (Calm.of_steady (closeProfile_steady _ _ _)))
  exact onlyIf_calm _ (Calm.of_steady (triggerMoisture_steady _ _))

theorem runStations_calm (c : Count) : Calm s (runStations c s) := by
  unfold runStations
  split
  · exact Calm.refl s
  · exact foldl_calm (fun t lug => visitStations_calm t _ c lug) _ s

/-- The governor's step decides nothing in a forced hold, and keeps the two latest decisions (R155, R156). -/
theorem stepGovernor_calm : Calm s (stepGovernor s) := by
  have ended : ∀ (r : GovernorRow) (bins : List Bin) (g : Governor), (g.endPhase r bins).causes = g.causes ∧
      (g.endPhase r bins).record = g.record := fun r bins g => by
    unfold Governor.endPhase
    dsimp only
    repeat' split
    all_goals exact ⟨rfl, rfl⟩
  have stepped : ∀ (r : GovernorRow) (bins : List Bin) (lug : LugNo) (g : Governor),
      (g.step r bins lug).causes = g.causes ∧ (g.step r bins lug).record.length ≤ 2 := fun r bins lug g => by
    unfold Governor.step Governor.permitFor
    dsimp only
    repeat' split
    all_goals simp [ended]
    all_goals omega
  unfold stepGovernor
  split
  · exact Calm.refl s
  · rename_i free
    split
    · exact Calm.refl s
    · exact { Calm.refl s with
        causes := (stepped _ _ _ _).1
        permit := fun any => absurd any free
        record := fun _ => (stepped _ _ _ _).2 }

/-! ### The chain encoder, EXTRA lugs and reversals (R1 to R3, R7, R9) -/

theorem extraLug_calm : Calm s (extraLug s) :=
  ((onChain_calm (f := fun c => { c with goodRun := 0 }) (fun p hp => ⟨p, hp, rfl⟩) fun _ => Nat.zero_le _).trans
    (setSuspect_calm _ _)).trans (Calm.of_steady (countFault_steady _ _))

theorem reversal_calm : Calm s (reversal s) :=
  (((onChain_calm (f := fun c => { c with goodRun := 0, hold := some c.highest }) (fun p hp => ⟨p, hp, rfl⟩)
    fun _ => Nat.zero_le _).trans (setSuspect_calm _ _)).trans (Calm.of_steady (countFault_steady _ _))).trans
    (cancelEncoder_calm _ _)

theorem weighReversal_calm : Calm s (weighReversal s) := by
  unfold weighReversal
  repeat' split
  · exact Calm.refl s
  · exact reversal_calm s
  · exact Calm.refl s

/-- A change of the chain tracker that leaves the records and the good-lug run is calm. -/
theorem onChain_same_calm {f : Chain → Chain} (pieces : (f s.chain).pieces = s.chain.pieces)
    (run : (f s.chain).goodRun = s.chain.goodRun) : Calm s (s.onChain f) :=
  onChain_calm (by rw [pieces]; exact fun p hp => ⟨p, hp, rfl⟩) (by rw [run]; exact id)

theorem clearError_calm : Calm s (s.onChain Chain.clearError) := by
  refine onChain_same_calm s ?_ ?_ <;> (unfold Chain.clearError; split <;> rfl)

theorem endHold_calm : Calm s (s.onChain Chain.endHold) := by
  refine onChain_same_calm s ?_ ?_ <;> (unfold Chain.endHold; repeat' split) <;> rfl

theorem countMoved_calm (forward : Bool) :
    Calm s (s.onChain fun c => (((c.move forward).legalRun).clearError).followHighest forward) := by
  have moved : Calm s (s.onChain (Chain.move forward)) := onChain_same_calm s rfl rfl
  have run : ∀ t : State, Calm t (t.onChain Chain.legalRun) := fun t => by
    refine onChain_same_calm t ?_ ?_ <;> (unfold Chain.legalRun; split <;> rfl)
  have followed : ∀ t : State, Calm t (t.onChain (Chain.followHighest forward)) := fun t => by
    refine onChain_same_calm t ?_ ?_ <;> (unfold Chain.followHighest; split <;> rfl)
  exact ((moved.trans (run _)).trans (clearError_calm _)).trans (followed _)

/-! ### Logs (R126, R127, R131, R132, R139, R140) -/

theorem finishLog_calm (n : LogNo) (o : LogOutcome) (cause : Option EndCause) : Calm s (finishLog n o cause s) := by
  unfold finishLog
  split
  · exact Calm.refl s
  · have removed : Calm s (s.onLogs fun m =>
        { m with
          queue := m.queue.eraseP fun q => q.number == n
          openLog := if m.openLog = some n then none else m.openLog }) :=
      onLogs_calm (fun l hl => ⟨l, List.mem_of_mem_eraseP hl, rfl⟩) (List.length_eraseP_le ..)
        fun bound l hl => bound l (List.mem_of_mem_eraseP hl)
    refine removed.trans (Calm.of_steady ?_)
    rw [queueNotice_steady, tallyLog_steady]

theorem finishAtKick_calm (n : LogNo) : Calm s (finishAtKick n s) := by
  unfold finishAtKick
  split
  · exact Calm.refl s
  · exact finishLog_calm ..

theorem weighKicks_calm : Calm s (weighKicks s) := foldl_calm (fun t n => finishAtKick_calm t n) _ s

theorem finishAllLogs_calm (cause : EndCause) : Calm s (finishAllLogs cause s) :=
  (foldl_calm (fun t n => finishLog_calm t n _ _) _ s).trans (onLogs_queue_calm rfl)

theorem logEncoderFault_calm : Calm s (logEncoderFault s) := by
  have cancelled : Calm s (cancelEncoder .log (countFault .logEncoder s)) :=
    (Calm.of_steady (countFault_steady s _)).trans (cancelEncoder_calm _ _)
  unfold logEncoderFault
  dsimp only
  split
  · exact cancelled
  · exact cancelled.trans (finishAllLogs_calm _ _)

theorem logTransition_calm (forward : Bool) : Calm s (logTransition forward s) := by
  have weighed : ∀ t, Calm t (weighLogReversal t) := fun t => by
    unfold weighLogReversal
    repeat' split
    · exact Calm.refl t
    · exact logEncoderFault_calm t
    · exact Calm.refl t
  exact (((onLogs_queue_calm rfl).trans (weighed _)).trans (weighEntries_calm _ _)).trans (weighKicks_calm _)

/-- A change of one log that keeps its bank and at most 256 samples is calm. -/
theorem changeLog_calm (n : LogNo) (f : LogRecord → LogRecord) (bank : ∀ r, (f r).bank = r.bank)
    (samples : ∀ r, r.samples.length ≤ 256 → (f r).samples.length ≤ 256) : Calm s (changeLog n f s) := by
  refine onLogs_calm ?_ (changeFirst_length ..).le ?_
  · intro l hl
    rcases changeFirst_mem hl with hl | ⟨m, hm, _, rfl⟩
    · exact ⟨l, hl, rfl⟩
    · exact ⟨m, hm, (bank m).symm⟩
  · intro bound l hl
    rcases changeFirst_mem hl with hl | ⟨m, hm, _, rfl⟩
    · exact bound l hl
    · exact samples m (bound m hm)

theorem takeSection_calm (dx dy : Nat) (cx cy : Int) : Calm s (takeSection dx dy cx cy s) := by
  unfold takeSection
  split
  · exact Calm.of_steady (countFault_steady s _)
  · refine changeLog_calm s _ _ (fun r => ?_) fun r bound => ?_
    · unfold LogRecord.takeSection
      split <;> rfl
    · unfold LogRecord.takeSection
      split
      · exact bound
      · rename_i room
        unfold sampleMax at room
        simp only [List.length_append, List.length_singleton]
        omega

theorem setKick_calm (n : LogNo) (k : KickState) : Calm s (setKick n k s) :=
  changeLog_calm s n _ (fun _ => rfl) fun _ => id

theorem settleKick_calm (r : LogRecord) (d : LogDecision) : Calm s (settleKick r d s) := by
  unfold settleKick
  dsimp only
  repeat' split
  · exact Calm.refl s
  · exact setKick_calm ..
  · exact setKick_calm ..
  · have refused : Calm s (changeLog r.number
        (fun x => { x with kick := .refused, flags := { x.flags with scheduleFull := true } }) s) :=
      changeLog_calm s _ _ (fun _ => rfl) fun _ => id
    exact refused.trans (Calm.of_steady (countFault_steady _ _))
  · rename_i taken
    exact (addEntries_calm taken).trans (setKick_calm ..)

theorem endLog_calm : Calm s (endLog s) := by
  unfold endLog
  split
  · exact Calm.of_steady (countFault_steady s _)
  · dsimp only
    refine Calm.trans ?_ (settleKick_calm ..)
    exact (changeLog_calm s _ (fun x => x.close _ _ _) (fun _ => rfl) fun _ => id).trans (onLogs_queue_calm rfl)

/-! ### Pieces lost (R170) -/

theorem losePiece_calm (lug : LugNo) : Calm s (losePiece s lug) := by
  refine Calm.trans ?_ (finishPiece_calm ..)
  refine Calm.trans ?_ (Calm.of_steady (payLapsed_steady _ _ _))
  exact elim_calm (fun b => changeBin_calm s b _ _) _

theorem finishAll_calm : Calm s (finishAll s) :=
  (foldl_calm losePiece_calm _ s).trans (finishAllLogs_calm _ _)

end Sys2Proof.Machine
end

section
/-! SUPPORT. A property of states that calm operations keep is kept by every step once the few operations that are not
calm keep it: resets, admissions, log starts, moves of the line, host silence, activations and table loads. -/

namespace Sys2Proof.Machine

/-- A property that calm operations keep, and the operations that are not calm, each under its rule's conditions. -/
structure CalmKept (P : State → Prop) : Prop where
  calm : ∀ s t, Calm s t → P s → P t
  fullReset : ∀ rate estop eye l, P { State.afterReset rate estop eye with pending := l }
  admission : ∀ (p : Piece) (s : State), s.activeBank = some p.bank → P s →
    P (s.onChain fun c => { c with pieces := c.pieces ++ [p], admitted := c.admitted + 1 })
  startLog : ∀ s : State, s.line.state ≠ .idle → s.logs.queue.length < 8 → P s → P (startLog s)
  enterHalt : ∀ (cause : HaltCause) (s : State), s.line.state = .standby ∨ s.line.state = .run → P s →
    P (enterHalt cause s)
  silence : ∀ (b : Bool) (s : State), P s → P (weighHold (s.onLink fun l => { l with silent := b }))
  geometry : ∀ (g : Geometry) (s : State), P s → P (s.onStore fun st => { st with geometry := some g })
  takePending : ∀ s, P s → P (takePending s)
  takeActivation : ∀ x s, (s.bank x).state = .valid → P s → P (takeActivation x s)
  setLine : ∀ (st : LineState) (s : State), st ≠ .halt → s.line.state ≠ .halt →
    (s.line.state = .idle → s.activeBank.isSome = true) → P s → P (setLine st s)
  leaveHalt : ∀ s : State, s.line.state = .halt → P s → P (leaveHalt s)
  lineReset : ∀ s, P s → P (lineResetState s)
  openSequence : ∀ (x : BankId) (kind : TableKind) (s : State), s.store.sequence = none → (s.bank x).state ≠ .active →
    s.store.pendingBank ≠ some x → s.referenced x = false → P s → P (openSequence x kind s)
  storeEntries : ∀ (x : BankId) (kind : TableKind) (offset : Nat) (es : List (List Byte)) (s : State),
    s.store.sequence = some ⟨x, kind, offset⟩ → P s → P (storeEntries x kind offset es s)
  closeSequence : ∀ (x : BankId) (kind : TableKind) (next : Nat) (b : Byte) (s : State),
    s.store.sequence = some ⟨x, kind, next⟩ → P s → P (closeSequence x kind b s).state
  leavePending : ∀ (x : BankId) (s : State), (s.bank x).state = .valid → s.store.pendingBank = none →
    P s → P (s.onStore fun st => { st with pendingBank := some x })

/-- The record that a LOG_START makes (R129, R130). -/
def State.logBegun (s : State) : LogRecord :=
  LogRecord.begin_ (s.logs.number + 1) (s.activeBank.getD .a) s.logs.count
    (s.store.geometry.elim 0 Geometry.kickDistance) (s.store.geometry.elim 0 Geometry.cpi)

theorem startLog_eq {s : State} (tracked : s.line.state ≠ .idle) (room : s.logs.queue.length < 8) :
    startLog s = s.onLogs fun m =>
      { m with
        number := m.number + 1, openLog := some (m.number + 1)
        highest := if m.queue.isEmpty then m.count else m.highest
        queue := m.queue ++ [s.logBegun] } := by
  have free : ¬ (s.line.state = .idle ∨ logQueueMax ≤ s.logs.queue.length) :=
    not_or.mpr ⟨tracked, Nat.not_le.mpr room⟩
  unfold startLog
  simp only [free, if_false]
  rfl

/-- The link changed but for host silence is calm. -/
theorem onLink_calm {s : State} {f : Link → Link} (h : (f s.link).silent = s.link.silent) : Calm s (s.onLink f) :=
  { Calm.refl s with silent := h }

theorem arbitrate_calm (s : State) : Calm s (arbitrate s) := by
  have weighed : ∀ n (t : State), Calm t (weighPressure n t) := fun n t => by
    refine Calm.of_steady ?_
    unfold weighPressure
    repeat' split
    all_goals rfl
  unfold arbitrate
  repeat' split
  · exact Calm.refl s
  · exact onLink_calm rfl
  · exact (onLink_calm rfl).trans (weighed _ _)
  · exact Calm.refl s

namespace CalmKept

variable {P : State → Prop} (k : CalmKept P) {s : State}
include k

theorem steady {t : State} (h : t.steady = s.steady) (hs : P s) : P t := k.calm s t (Calm.of_steady h) hs

/-! ### The lug advance (R11, R14) -/

theorem admitPiece (c : Count) (eye : Bool) (hs : P s) : P (admitPiece c eye s) := by
  unfold Machine.admitPiece
  split
  · rename_i x active
    refine k.steady ?_ (k.admission (Piece.admitted s.chain.lug c x s.chain.suspect) s active hs)
    rw [recordHistory_steady, weighAdmission_steady]
    rfl
  · exact k.steady (by simp) hs

theorem lugAdvance (c : Count) (good eye : Bool) (hs : P s) : P (lugAdvance c good eye s) := by
  have advanced : Calm s (s.onChain fun ch =>
      { ch with lug := ch.lug + 1, c0 := c, goodRun := if good then min 255 (ch.goodRun + 1) else ch.goodRun }) := by
    refine onChain_calm (fun p hp => ⟨p, hp, rfl⟩) fun bound => ?_
    dsimp only
    split
    · exact Nat.min_le_left ..
    · exact bound
  have sent : ∀ t, P t → P (sendLug t.chain.lug (t.onScan fun x => { x with eye })) := fun t => k.steady (by simp)
  have admitted := k.admitPiece c eye (sent _ (k.takePending _ (k.calm _ _ advanced hs)))
  exact k.calm _ _ (stepGovernor_calm _) (k.calm _ _ (runStations_calm _ c) (k.steady (ageMoisture_steady _) admitted))

theorem weighMissed (eye : Bool) (hs : P s) : P (weighMissed eye s) := by
  unfold Machine.weighMissed
  repeat' split
  · exact hs
  · refine k.lugAdvance _ _ _ (k.steady (countFault_steady _ _) (k.calm _ _ (setSuspect_calm _ _) ?_))
    exact k.calm _ _ (onChain_calm (fun p hp => ⟨p, hp, rfl⟩) fun _ => Nat.zero_le _) hs
  · exact hs

theorem judgeEdge (eye : Bool) (hs : P s) : P (judgeEdge eye s) := by
  unfold Machine.judgeEdge
  repeat' split
  · exact hs
  · exact hs
  · exact k.lugAdvance _ _ _ (k.calm _ _ (onChain_same_calm s rfl rfl) hs)
  · exact k.calm _ _ (extraLug_calm s) hs
  · exact hs
  · exact k.lugAdvance _ _ _ hs

theorem chainTransition (forward eye : Bool) (hs : P s) : P (chainTransition forward eye s) := by
  refine k.weighMissed eye (k.calm _ _ ?_ hs)
  exact (((countMoved_calm s forward).trans (weighReversal_calm _)).trans (endHold_calm _)).trans
    (weighEntries_calm _ _)

/-! ### Halting faults and host silence -/

theorem haltingFault (cause : HaltCause) (hs : P s) : P (haltingFault cause s) := by
  have counted := k.steady (countFault_steady s cause.fault) hs
  unfold Machine.haltingFault
  dsimp only
  split
  case h_1 standby => exact k.enterHalt cause _ (.inl standby) counted
  case h_2 run => exact k.enterHalt cause _ (.inr run) counted
  all_goals exact k.steady (lineEvent_steady _ _ _ _) counted

theorem weighHost (hs : P s) : P (weighHost s) := by
  unfold Machine.weighHost
  split
  · exact hs
  · split
    · exact k.silence true s hs
    · exact hs

theorem hostHeard (hs : P s) : P (hostHeard s) :=
  k.silence false (s.onLink fun l => { l with timer := 0 }) (k.calm _ _ (onLink_calm rfl) hs)

theorem makeReply (r : Reply) (hs : P s) : P (makeReply r s) :=
  k.calm _ _ ((onLink_calm (s := s) rfl).trans (arbitrate_calm _)) hs

theorem receiveRequest (f : Frame) (hs : P s) : P (receiveRequest f s) := by
  have heard := k.hostHeard hs
  unfold Machine.receiveRequest
  dsimp only
  repeat' split
  · exact k.calm _ _ (onLink_calm rfl) heard
  · exact k.makeReply _ heard
  · exact k.steady (countFrameError_steady _ _) heard

theorem transmitDone (hs : P s) : P (transmitDone s) := by
  unfold Machine.transmitDone
  split
  · exact hs
  · exact k.calm _ _ ((onLink_calm (s := s) rfl).trans (arbitrate_calm _)) hs
  · refine k.calm _ _ (Calm.trans ?_ (arbitrate_calm _)) hs
    unfold replySent
    dsimp only
    repeat' split
    · exact ((onLink_calm rfl).trans (onLink_calm rfl)).trans (Calm.of_steady (onScan_steady _ _))
    · exact (onLink_calm rfl).trans (onLink_calm rfl)
    · exact onLink_calm rfl

/-! ### Every step -/

theorem serve : ServeKept P where
  clearCounters s := k.steady (clearCounters_steady s)
  enterStandby s idle _ active hs := by
    refine k.steady (clearHeld_steady _) (k.calm _ _ (clearSuspectNoticed_calm _) (k.calm _ _ ?_
      (k.setLine .standby s (by decide) (by simp [idle]) (fun _ => active) hs)))
    exact onChain_calm (fun p hp => ⟨p, hp, rfl⟩) fun _ => Nat.zero_le _
  toRun s standby := k.setLine .run s (by decide) (by simp [standby]) (by simp [standby])
  toStandby s run := k.setLine .standby s (by decide) (by simp [run]) (by simp [run])
  enterIdle s standby _ hs := by
    refine k.takePending _ (k.setLine .idle _ (by decide) (by simp [standby]) (by simp [standby]) ?_)
    exact k.calm _ _ (onChain_same_calm s rfl rfl) hs
  lineReset := k.lineReset
  takeGeometry g s _ _ _ hs :=
    k.weighHost (k.steady (weighPanelTimer_steady _ _) (k.steady (weighPanelTimer_steady _ _) (k.geometry g s hs)))
  openSequence := k.openSequence
  storeEntries := k.storeEntries
  closeSequence := k.closeSequence
  takeActivation x s valid _ _ := k.takeActivation x s valid
  leavePending x s valid none _ := k.leavePending x s valid none
  setCapacity bin _ _ s _ _ _ := k.calm _ _ (changeBin_calm s bin _ _)
  openBin _ s := k.calm _ _ (onBins_calm s _)
  closeBin _ s := k.calm _ _ (onBins_calm s _)
  emptied bin s := k.calm _ _ (changeBin_calm s bin _ _)
  outOfService bin s := k.calm _ _ (takeOutOfService_calm s bin)
  lastProfile _ s := k.steady (onScan_steady s _)
  clearSuspect s _ := k.calm _ _ (clearSuspectNoticed_calm s)
  leaveHalt := k.leaveHalt
  tallyClose n s := k.steady (by simp)
  releaseSnapshot s := k.steady (onTally_steady s _)

/-- The property is kept by every operation of a step. -/
theorem kept : Kept P where
  fullReset rate estop s _ := k.fullReset rate estop s.scan.eye s.pending
  chainTransition forward eye _ := k.chainTransition forward eye
  chainIllegal s hs := k.haltingFault .encoder (k.calm _ _ (onChain_same_calm s rfl rfl) hs)
  clearError s := k.calm _ _ (clearError_calm s)
  endHold s := k.calm _ _ (endHold_calm s)
  judgeEdge eye _ := k.judgeEdge eye
  weighMissed eye _ := k.weighMissed eye
  assertEstop s hs := by
    unfold Machine.assertEstop
    split
    · exact hs
    · exact k.haltingFault .estop (k.calm _ _ { Calm.refl s with } hs)
  releaseEstop s := k.calm _ _ { Calm.refl s with }
  turnEntriesOn enc s := k.calm _ _ (turnEntriesOn_calm s enc)
  endEntries enc s := k.calm _ _ (endEntries_calm s enc)
  judgeSegment _ _ _ := k.steady (by simp)
  completeConversion _ _ := k.steady (by simp)
  startSolve _ := k.steady (by simp)
  completeSolve _ := k.steady (by simp)
  panelHeard _ _ := k.steady (by simp)
  answerPanel _ _ _ _ _ := k.steady (by simp)
  judgeOverride _ _ _ _ _ _ := k.steady (by simp)
  panelSilent _ _ := k.steady (by simp)
  panelSent _ _ := k.steady (by simp)
  tickPanel _ _ := k.steady (by simp)
  logTransition forward s := k.calm _ _ (logTransition_calm s forward)
  logEncoderFault s := k.calm _ _ (logEncoderFault_calm s)
  weighKicks s := k.calm _ _ (weighKicks_calm s)
  startLog s hs := by
    by_cases tracked : s.line.state = .idle ∨ logQueueMax ≤ s.logs.queue.length
    · simp only [Machine.startLog, tracked, if_true]
      exact k.steady (countFault_steady _ _) (k.calm _ _ (onLogs_queue_calm (s := s) rfl) hs)
    · rw [not_or, Nat.not_le] at tracked
      exact k.startLog s tracked.1 tracked.2 hs
  takeSection dx dy cx cy s := k.calm _ _ (takeSection_calm s dx dy cx cy)
  endLog s := k.calm _ _ (endLog_calm s)
  countFrameError _ s := k.steady (countFrameError_steady s _)
  setReceiver _ _ s := k.steady (setReceiver_steady s _ _)
  receiveRequest f _ := k.receiveRequest f
  takeRequest f s _ hs := takeRequest_kept (P := P) (Q := P) (k.calm _ _ (onLink_calm rfl) hs)
    (fun r body _ => k.serve.serve r body) fun r _ => k.makeReply _
  hostTimerReached s hs := k.weighHost (k.calm _ _ (onLink_calm (s := s) rfl) hs)
  tickHost s hs := k.weighHost (k.calm _ _ (onLink_calm (s := s) rfl) hs)
  transmitDone _ := k.transmitDone

end CalmKept

end Sys2Proof.Machine
end

section
/-! PROOF. Every step keeps the laws of HALT, the timed lines and the forced hold (R105, R109, R156, R166). -/

namespace Sys2Proof.Machine

/-! ### The law before the causes of forced hold are weighed -/

/-- The law but for the causes of forced hold, which `weighHold` sets. -/
structure Unweighed (s : State) : Prop where
  faultLine : s.line.faultLine = decide (s.line.state = .halt)
  schedule : s.line.state = .halt → s.output.held = 0
  lines : LinesFollowEntries s.output
  permit : s.governor.causes.any = true → s.governor.permit = false
  sequence : ∀ q, s.store.sequence = some q → (s.bank q.bank).state = .loading
  pending : ∀ x, s.store.pendingBank = some x → (s.bank x).state = .valid

theorem held_eq_zero {o : Output} : o.held = 0 ↔ o.chain = [] ∧ o.log = [] := by
  simp [Output.held]

theorem haltLaw_iff (s : State) : HaltLaw s ↔ Unweighed s ∧ s.governor.causes = s.holdCauses := by
  constructor
  · intro h
    exact ⟨⟨h.faultLine, fun halt => held_eq_zero.mpr (h.schedule halt), h.lines, h.permit, h.sequence, h.pending⟩,
      h.causes⟩
  · rintro ⟨h, causes⟩
    exact ⟨h.faultLine, fun halt => held_eq_zero.mp (h.schedule halt), h.lines, causes, h.permit, h.sequence, h.pending⟩

theorem HaltLaw.unweighed {s : State} (h : HaltLaw s) : Unweighed s := ((haltLaw_iff s).mp h).1

/-- Once the causes are weighed the law stands (R156). -/
theorem haltLaw_weighHold {s : State} (h : Unweighed s) : HaltLaw (weighHold s) := by
  rw [haltLaw_iff, weighHold_eq]
  refine ⟨{ h with permit := ?_ }, ?_⟩
  · simp only [Governor.held]
    split
    · exact fun _ => rfl
    · rename_i goesOn
      intro any
      exact h.permit (Bool.of_not_eq_false fun none => goesOn ⟨any, none⟩)
  · simp only [Governor.held]
    split <;> rfl

theorem Calm.activeBank {s t : State} (c : Calm s t) : t.activeBank = s.activeBank := by
  unfold State.activeBank; rw [c.store]

theorem Calm.bank {s t : State} (c : Calm s t) (x : BankId) : t.bank x = s.bank x := by
  cases x <;> simp only [State.bank, c.store]

theorem Unweighed.of_calm {s t : State} (c : Calm s t) (h : Unweighed s) : Unweighed t where
  faultLine := by rw [c.faultLine, c.state]; exact h.faultLine
  schedule halt := c.empty (c.state ▸ halt) (h.schedule (c.state ▸ halt))
  lines := c.lines h.lines
  permit any := c.permit (c.causes ▸ any) (h.permit (c.causes ▸ any))
  sequence q hq := by rw [c.bank]; exact h.sequence q (c.store ▸ hq)
  pending x hx := by rw [c.bank]; exact h.pending x (c.store ▸ hx)

theorem HaltLaw.of_calm {s t : State} (c : Calm s t) (h : HaltLaw s) : HaltLaw t := by
  refine (haltLaw_iff t).mpr ⟨h.unweighed.of_calm c, ?_⟩
  simp only [State.holdCauses, c.causes, c.state, c.silent, c.activeBank, h.causes]

/-! ### HALT entered and left, and the line's moves -/

theorem haltLaw_enterHalt (cause : HaltCause) {s : State} (h : HaltLaw s) : HaltLaw (enterHalt cause s) := by
  refine haltLaw_weighHold ?_
  generalize hu : s.onLine (fun l => { l with state := .halt, haltCause := some cause }) = u
  have noticed : Calm u (lineEvent .haltEntered (some (.halting cause)) (some s.line.state) u) :=
    Calm.of_steady (lineEvent_steady _ _ _ _)
  have calm := (noticed.trans (cancelAll_calm _)).trans (setSuspect_calm _ .halt)
  have emptied := (setSuspect_calm (cancelAll (lineEvent .haltEntered (some (.halting cause)) (some s.line.state) u))
    .halt).empty (by simp [← hu]) rfl
  subst hu
  exact {
    faultLine := by simp
    schedule := fun _ => emptied
    lines := calm.lines h.lines
    permit := fun any => calm.permit (calm.causes ▸ any) (h.permit (calm.causes ▸ any))
    sequence := fun q hq => (congrArg Bank.state (calm.bank q.bank)).trans (h.sequence q (calm.store ▸ hq))
    pending := fun x hx => (congrArg Bank.state (calm.bank x)).trans (h.pending x (calm.store ▸ hx)) }

theorem haltLaw_setLine {st : LineState} {s : State} (goal : st ≠ .halt) (now : s.line.state ≠ .halt)
    (h : HaltLaw s) : HaltLaw (setLine st s) := by
  refine haltLaw_weighHold { h.unweighed with faultLine := ?_, schedule := fun halt => absurd halt goal }
  have off := h.faultLine
  simp_all

theorem haltLaw_leaveHalt {s : State} (h : HaltLaw s) : HaltLaw (leaveHalt s) :=
  haltLaw_weighHold { h.unweighed with faultLine := rfl, schedule := fun halt => by cases halt }

/-! ### The bank store -/

@[simp] theorem onBank_bank_self (x : BankId) (f : Bank → Bank) (s : State) : (onBank x f s).bank x = f (s.bank x) := by
  cases x <;> rfl

theorem onBank_bank_of_ne {x y : BankId} (ne : y ≠ x) (f : Bank → Bank) (s : State) :
    (onBank x f s).bank y = s.bank y := by
  cases x <;> cases y <;> first | rfl | exact absurd rfl ne

theorem onStore_bank {f : Store → Store} {s : State} (a : (f s.store).bankA = s.store.bankA)
    (b : (f s.store).bankB = s.store.bankB) (y : BankId) : (s.onStore f).bank y = s.bank y := by
  cases y
  · exact a
  · exact b

theorem State.bank_of_activeBank {s : State} {x : BankId} (h : s.activeBank = some x) : (s.bank x).state = .active := by
  unfold State.activeBank at h
  split at h
  · cases h; assumption
  · split at h
    · cases h; assumption
    · cases h

theorem State.activeBank_isSome {s : State} : s.activeBank.isSome = true ↔ ∃ x, (s.bank x).state = .active := by
  constructor
  · intro h
    obtain ⟨x, hx⟩ := Option.isSome_iff_exists.mp h
    exact ⟨x, State.bank_of_activeBank hx⟩
  · rintro ⟨x, hx⟩
    unfold State.activeBank
    cases x <;> simp only [State.bank] at hx <;> simp [hx]
    split <;> rfl

/-- Whether a bank is active depends on the states of the banks alone. -/
theorem State.activeBank_congr {s t : State} (h : ∀ x, (t.bank x).state = (s.bank x).state) :
    t.activeBank = s.activeBank := by
  have a := h .a
  have b := h .b
  simp only [State.bank] at a b
  simp only [State.activeBank, a, b]

/-- The state with bank `x` active in place of the bank active before, and no bank pending (R181). -/
def State.activated (x : BankId) (s : State) : State :=
  (onBank x (fun b => { b with state := .active })
    (s.activeBank.elim s fun y => onBank y (fun b => { b with state := .valid }) s)).onStore
    fun st => { st with pendingBank := none }

theorem activated_bankState (x y : BankId) (s : State) : ((s.activated x).bank y).state =
    if y = x then .active else if s.activeBank = some y then .valid else (s.bank y).state := by
  rw [State.activated, onStore_bank (by rfl) (by rfl)]
  by_cases same : y = x
  · simp [same]
  · rw [onBank_bank_of_ne same]
    cases active : s.activeBank with
    | none => simp [same]
    | some z =>
      by_cases was : y = z
      · subst was
        simp [same]
      · simp [onBank_bank_of_ne was, same, Ne.symm was]

theorem activated_store (x : BankId) (s : State) : (s.activated x).store.sequence = s.store.sequence ∧
    (s.activated x).store.pendingBank = none ∧ (s.activated x).store.geometry = s.store.geometry := by
  unfold State.activated
  cases s.activeBank with
  | none => cases x <;> exact ⟨rfl, rfl, rfl⟩
  | some y => cases x <;> cases y <;> exact ⟨rfl, rfl, rfl⟩

theorem activated_frame (x : BankId) (s : State) :
    (s.activated x).chain = s.chain ∧ (s.activated x).output = s.output ∧ (s.activated x).logs = s.logs ∧
    (s.activated x).governor = s.governor ∧ (s.activated x).line = s.line ∧ (s.activated x).link = s.link := by
  unfold State.activated
  cases s.activeBank <;> simp

/-- The settings of a bank adopted by the governor, and notice pressure weighed against its marks (R160, R181). -/
def State.adopted (x : BankId) (s : State) : State :=
  let t := (s.bank x).governorRow.elim s fun r => s.onGovernor (Governor.adopt r)
  weighPressure t.link.notices.length t

theorem takeActivation_eq (x : BankId) (s : State) : takeActivation x s =
    queueNotice (.bankEvent x s.activeBank (weighHold ((s.activated x).adopted x)).chain.lug)
      (weighHold ((s.activated x).adopted x)) := rfl

theorem weighPressure_calm (n : Nat) (s : State) : Calm s (weighPressure n s) := by
  refine Calm.of_steady ?_
  unfold weighPressure
  repeat' split
  all_goals rfl

theorem adopted_calm (x : BankId) (s : State) : Calm s (s.adopted x) := by
  refine Calm.trans ?_ (weighPressure_calm _ _)
  exact elim_calm (f := fun r => s.onGovernor (Governor.adopt r)) (fun r => { Calm.refl s with }) _

theorem haltLaw_takeActivation {x : BankId} {s : State} (valid : (s.bank x).state = .valid) (h : HaltLaw s) :
    HaltLaw (takeActivation x s) := by
  rw [takeActivation_eq]
  refine (haltLaw_weighHold (Unweighed.of_calm (adopted_calm _ _) ?_)).of_calm (Calm.of_steady (queueNotice_steady _ _))
  obtain ⟨_, output, _, governor, line, _⟩ := activated_frame x s
  obtain ⟨sequence, pending, _⟩ := activated_store x s
  refine ⟨by rw [line]; exact h.faultLine, fun halt => ?_, by rw [output]; exact h.lines, by rw [governor]; exact h.permit,
    fun q hq => ?_, fun y hy => ?_⟩
  · rw [output, held_eq_zero]; exact h.schedule (line ▸ halt)
  · have loading := h.sequence q (sequence ▸ hq)
    rw [activated_bankState, if_neg, if_neg, loading]
    · intro active
      rw [State.bank_of_activeBank active] at loading
      cases loading
    · rintro same
      rw [same, valid] at loading
      cases loading
  · rw [pending] at hy
    cases hy

/-! ### Table loads (R180) and LINE_RESET (R170) -/

/-- A load changes the state of one inactive bank, to one that is not ACTIVE, and the open sequence. -/
theorem haltLaw_of_load {s t : State} {x : BankId} (inactive : (s.bank x).state ≠ .active)
    (unpended : s.store.pendingBank ≠ some x) (still : (t.bank x).state ≠ .active)
    (others : ∀ y, y ≠ x → (t.bank y).state = (s.bank y).state)
    (pending : t.store.pendingBank = s.store.pendingBank)
    (sequence : ∀ q, t.store.sequence = some q → (t.bank q.bank).state = .loading)
    (line : t.line = s.line) (output : t.output = s.output) (governor : t.governor = s.governor) (link : t.link = s.link)
    (h : HaltLaw s) : HaltLaw t := by
  have active : t.activeBank.isSome = s.activeBank.isSome := by
    rw [Bool.eq_iff_iff, State.activeBank_isSome, State.activeBank_isSome]
    constructor
    · rintro ⟨y, hy⟩
      have ne : y ≠ x := by rintro rfl; exact still hy
      exact ⟨y, others y ne ▸ hy⟩
    · rintro ⟨y, hy⟩
      have ne : y ≠ x := by rintro rfl; exact inactive hy
      exact ⟨y, (others y ne).trans hy⟩
  refine ⟨by rw [line]; exact h.faultLine, by rw [line, output]; exact h.schedule, by rw [output]; exact h.lines, ?_,
    by rw [governor]; exact h.permit, sequence, fun y hy => ?_⟩
  · rw [governor, h.causes]
    have none : t.activeBank.isNone = s.activeBank.isNone := by
      rw [← Option.not_isSome, ← Option.not_isSome, active]
    simp only [State.holdCauses, line, link, none]
  · rw [pending] at hy
    rw [others y (by rintro rfl; exact unpended hy)]
    exact h.pending y hy

theorem closedState_cases (b : Bank) :
    b.close.state = .valid ∨ b.close.state = .empty ∨ b.close.state = .partlyLoaded := by
  unfold Bank.close Bank.closedState
  dsimp only
  repeat' split
  all_goals simp

theorem closed_ne (b : Bank) : b.close.state ≠ .active ∧ b.close.state ≠ .loading := by
  rcases closedState_cases b with h | h | h <;> rw [h] <;> exact ⟨by decide, by decide⟩

theorem store_state (b : Bank) (offset : Nat) (es : List (List Byte)) (kind : TableKind) :
    (b.store offset es kind).state = b.state := by
  cases kind <;> rfl

theorem abortSequence_store (s : State) : (abortSequence s).store.sequence = none ∧
    (abortSequence s).store.pendingBank = s.store.pendingBank ∧
    (abortSequence s).store.geometry = s.store.geometry := by
  unfold abortSequence
  cases opened : s.store.sequence with
  | none => exact ⟨opened, rfl, rfl⟩
  | some q =>
    obtain ⟨bank, kind, next⟩ := q
    cases bank <;> exact ⟨rfl, rfl, rfl⟩

theorem resetBlocks_store (s : State) :
    (resetBlocks s).store.sequence = none ∧ (resetBlocks s).store.pendingBank = none :=
  ⟨(abortSequence_store _).1, rfl⟩

theorem haltLaw_lineReset {s : State} (h : HaltLaw s) : HaltLaw (lineResetState s) := by
  have calm := (finishAll_calm s).trans (cancelAll_calm _)
  have output : (resetBlocks (cancelAll (finishAll s))).output = (cancelAll (finishAll s)).output := by simp
  refine haltLaw_weighHold ⟨by simp, by simp, ?_, ?_, fun q hq => ?_, fun x hx => ?_⟩
  · rw [State.onGovernor_output, State.onLine_output, output]
    exact calm.lines h.lines
  · intro _
    simp only [State.onGovernor_governor, Governor.lineReset]
    split <;> rfl
  · cases (resetBlocks_store _).1.symm.trans hq
  · cases (resetBlocks_store _).2.symm.trans hx

theorem calmKept_haltLaw : CalmKept HaltLaw where
  calm s t c h := h.of_calm c
  fullReset rate estop eye l :=
    ⟨rfl, fun _ => ⟨rfl, rfl⟩, ⟨rfl, rfl, rfl⟩, rfl, fun _ => rfl, fun q hq => (by cases hq), fun x hx => (by cases hx)⟩
  admission p s _ h := ⟨h.faultLine, h.schedule, h.lines, h.causes, h.permit, h.sequence, h.pending⟩
  startLog s tracked room h := by
    rw [startLog_eq tracked room]
    exact ⟨h.faultLine, h.schedule, h.lines, h.causes, h.permit, h.sequence, h.pending⟩
  enterHalt cause s _ := haltLaw_enterHalt cause
  silence b s h := haltLaw_weighHold { h.unweighed with }
  geometry g s h := ⟨h.faultLine, h.schedule, h.lines, h.causes, h.permit, h.sequence, h.pending⟩
  takePending s h := by
    unfold takePending
    cases pending : s.store.pendingBank with
    | none => exact h
    | some x => exact haltLaw_takeActivation (h.pending x pending) h
  takeActivation x s := haltLaw_takeActivation
  setLine st s goal now _ := haltLaw_setLine goal now
  leaveHalt s _ := haltLaw_leaveHalt
  lineReset s := haltLaw_lineReset
  openSequence x kind s none inactive unpended _ h := by
    have opened : ∀ y, (openSequence x kind s).bank y =
        (onBank x (fun b => { b.clearKind kind with state := .loading }) s).bank y := fun y =>
      onStore_bank (by rfl) (by rfl) y
    refine haltLaw_of_load inactive unpended ?_ (fun y ne => ?_) ?_ ?_ ?_ ?_ ?_ ?_ h
    · rw [opened]; simp
    · rw [opened, onBank_bank_of_ne ne]
    · cases x <;> rfl
    · intro q hq
      obtain rfl : q = ⟨x, kind, 0⟩ := by cases x <;> exact (Option.some.inj hq).symm
      rw [opened]; simp
    all_goals cases x <;> rfl
  storeEntries x kind offset es s opened h := by
    have loading := h.sequence _ opened
    have stored : ∀ y, (storeEntries x kind offset es s).bank y = (onBank x (fun b => b.store offset es kind) s).bank y :=
      fun y => onStore_bank (by rfl) (by rfl) y
    refine haltLaw_of_load (x := x) (by simp [loading]) (fun pending => ?_) ?_ (fun y ne => ?_) ?_ ?_ ?_ ?_ ?_ ?_ h
    · simp [h.pending x pending] at loading
    · rw [stored, onBank_bank_self, store_state]; simp [loading]
    · rw [stored, onBank_bank_of_ne ne]
    · cases x <;> rfl
    · intro q hq
      obtain rfl : q = ⟨x, kind, offset + es.length⟩ := by cases x <;> exact (Option.some.inj hq).symm
      rw [stored, onBank_bank_self, store_state, loading]
    all_goals cases x <;> rfl
  closeSequence x kind next b s opened h := by
    have loading := h.sequence _ opened
    have closed : ∀ y, (closeSequence x kind b s).state.bank y =
        (onBank x (fun b => (b.setLoaded ((s.bank x).kindOk kind) kind).close) s).bank y :=
      fun y => onStore_bank (by rfl) (by rfl) y
    refine haltLaw_of_load (x := x) (by simp [loading]) (fun pending => ?_) ?_ (fun y ne => ?_) ?_ ?_ ?_ ?_ ?_ ?_ h
    · simp [h.pending x pending] at loading
    · rw [closed, onBank_bank_self]; exact (closed_ne _).1
    · rw [closed, onBank_bank_of_ne ne]
    · cases x <;> rfl
    · intro q hq
      cases hq
    all_goals cases x <;> rfl
  leavePending x s valid none h := by
    refine ⟨h.faultLine, h.schedule, h.lines, h.causes, h.permit, h.sequence, fun y hy => ?_⟩
    cases hy
    exact valid

/-- Settles O7: the law passes over every calm operation, and stands where the causes are weighed afresh. -/
theorem everyStepKeepsHaltLaw : Obligations.EveryStepKeepsHaltLaw := by
  intro s t h next
  refine calmKept_haltLaw.kept.step (fun s l h => ?_) h next
  exact ⟨h.faultLine, h.schedule, h.lines, h.causes, h.permit, h.sequence, h.pending⟩

end Sys2Proof.Machine
end

section
/-! PROOF. Every step keeps the laws of the table banks (R179, R180, R181). -/

namespace Sys2Proof.Machine

/-! ### The law, from the states of the banks -/

/-- A bank whose state is ACTIVE is the active one, where the law stands. -/
theorem BankLaw.activeBank {s : State} (h : BankLaw s) {x : BankId} (active : (s.bank x).state = .active) :
    s.activeBank = some x := by
  obtain ⟨y, hy⟩ := Option.isSome_iff_exists.mp (State.activeBank_isSome.mpr ⟨x, active⟩)
  have also := State.bank_of_activeBank hy
  have one := h.oneActive
  cases x <;> cases y <;> simp_all [State.bank]

/-- The law passes to a state whose banks are in the same states, and whose pieces and logs carry no others. -/
theorem BankLaw.of_states {s t : State} (h : BankLaw s) (banks : ∀ x, (t.bank x).state = (s.bank x).state)
    (sequence : ∀ x, (∃ q, t.store.sequence = some q ∧ q.bank = x) ↔ ∃ q, s.store.sequence = some q ∧ q.bank = x)
    (pending : ∀ x, t.store.pendingBank = some x → (s.bank x).state = .valid)
    (pieces : ∀ p ∈ t.chain.pieces, (s.bank p.bank).carried) (logs : ∀ l ∈ t.logs.queue, (s.bank l.bank).carried)
    (running : t.line.state ≠ .idle → s.activeBank.isSome = true) : BankLaw t where
  oneActive := by
    have a := banks .a
    have b := banks .b
    simp only [State.bank] at a b
    rw [a, b]
    exact h.oneActive
  sequence x := by rw [banks, h.sequence, sequence]
  pending x hx := by rw [banks]; exact pending x hx
  pieces p hp := by unfold Bank.carried; rw [banks]; exact pieces p hp
  logs l hl := by unfold Bank.carried; rw [banks]; exact logs l hl
  running tracked := by rw [State.activeBank_congr banks]; exact running tracked

theorem BankLaw.of_calm {s t : State} (c : Calm s t) (h : BankLaw s) : BankLaw t := by
  refine h.of_states (fun x => by rw [c.bank]) (by simp [c.store]) (by rw [c.store]; exact h.pending) (fun p hp => ?_)
    (fun l hl => ?_) (by rw [c.state]; exact h.running)
  · obtain ⟨q, hq, same⟩ := c.pieces p hp
    exact same ▸ h.pieces q hq
  · obtain ⟨m, hm, same⟩ := c.logs l hl
    exact same ▸ h.logs m hm

/-- The governor and the line state change nothing of the law, where a bank is active outside IDLE. -/
theorem BankLaw.weighed {s t : State} (h : BankLaw s) (store : t.store = s.store) (chain : t.chain = s.chain)
    (logs : t.logs = s.logs) (running : t.line.state ≠ .idle → s.activeBank.isSome = true) : BankLaw t := by
  have bank : ∀ x, t.bank x = s.bank x := fun x => by cases x <;> simp only [State.bank, store]
  exact h.of_states (fun x => by rw [bank]) (by simp [store]) (by rw [store]; exact h.pending)
    (by rw [chain]; exact h.pieces) (by rw [logs]; exact h.logs) running

/-! ### Activation and loads -/

theorem bankLaw_takeActivation {x : BankId} {s : State} (valid : (s.bank x).state = .valid) (h : BankLaw s) :
    BankLaw (takeActivation x s) := by
  rw [takeActivation_eq]
  refine BankLaw.of_calm (Calm.of_steady (queueNotice_steady _ _)) ?_
  suffices activated : BankLaw (s.activated x) by
    have adopted := activated.of_calm (adopted_calm x _)
    exact adopted.weighed (by simp) (by simp) (by simp) (by simpa using adopted.running)
  obtain ⟨chain, _, logs, _⟩ := activated_frame x s
  obtain ⟨sequence, pending, _⟩ := activated_store x s
  have carried : ∀ y, (s.bank y).carried → ((s.activated x).bank y).carried := fun y hy => by
    unfold Bank.carried at *
    rw [activated_bankState]
    grind
  refine ⟨?_, fun y => ?_, fun y hy => ?_, fun p hp => carried _ (h.pieces p (chain ▸ hp)),
    fun l hl => carried _ (h.logs l (logs ▸ hl)), fun _ => State.activeBank_isSome.mpr ⟨x, ?_⟩⟩
  · have only : ∀ y, ((s.activated x).bank y).state = .active → y = x := fun y hy => by
      rw [activated_bankState] at hy
      by_contra ne
      rw [if_neg ne] at hy
      split at hy
      · cases hy
      · exact absurd (h.activeBank hy) ‹_›
    rintro ⟨a, b⟩
    cases (only .a a).trans (only .b b).symm
  · rw [sequence, ← h.sequence, activated_bankState]
    split
    · simp_all
    · split
      · rename_i active
        simp [State.bank_of_activeBank active]
      · rfl
  · cases pending.symm.trans hy
  · rw [activated_bankState, if_pos rfl]

/-- A load changes the state of one inactive bank that no piece or log carries. -/
theorem bankLaw_of_load {s t : State} {x : BankId} (h : BankLaw s) (inactive : (s.bank x).state ≠ .active)
    (pieces : ∀ p ∈ s.chain.pieces, p.bank ≠ x) (logs : ∀ l ∈ s.logs.queue, l.bank ≠ x)
    (still : (t.bank x).state ≠ .active) (others : ∀ y, y ≠ x → (t.bank y).state = (s.bank y).state)
    (sequence : ∀ y, (t.bank y).state = .loading ↔ ∃ q, t.store.sequence = some q ∧ q.bank = y)
    (pending : ∀ y, t.store.pendingBank = some y → s.store.pendingBank = some y ∧ y ≠ x)
    (chain : ∀ p ∈ t.chain.pieces, p ∈ s.chain.pieces) (queue : ∀ l ∈ t.logs.queue, l ∈ s.logs.queue)
    (line : t.line.state ≠ .idle → s.line.state ≠ .idle) : BankLaw t where
  oneActive := by
    have a := others .a
    have b := others .b
    have one := h.oneActive
    cases x <;> simp_all [State.bank]
  sequence := sequence
  pending y hy := by
    rw [others y (pending y hy).2]
    exact h.pending y (pending y hy).1
  pieces p hp := by
    unfold Bank.carried
    rw [others _ (pieces p (chain p hp))]
    exact h.pieces p (chain p hp)
  logs l hl := by
    unfold Bank.carried
    rw [others _ (logs l (queue l hl))]
    exact h.logs l (queue l hl)
  running tracked := by
    obtain ⟨y, hy⟩ := State.activeBank_isSome.mp (h.running (line tracked))
    have ne : y ≠ x := by rintro rfl; exact inactive hy
    exact State.activeBank_isSome.mpr ⟨y, (others y ne).trans hy⟩

/-- No piece or log carries the bank of an open sequence. -/
theorem BankLaw.uncarried {s : State} (h : BankLaw s) {x : BankId} (loading : (s.bank x).state = .loading) :
    (∀ p ∈ s.chain.pieces, p.bank ≠ x) ∧ ∀ l ∈ s.logs.queue, l.bank ≠ x := by
  have free : ¬ (s.bank x).carried := by simp [Bank.carried, loading]
  exact ⟨fun p hp same => free (same ▸ h.pieces p hp), fun l hl same => free (same ▸ h.logs l hl)⟩

theorem unreferenced {s : State} {x : BankId} (h : s.referenced x = false) :
    (∀ p ∈ s.chain.pieces, p.bank ≠ x) ∧ ∀ l ∈ s.logs.queue, l.bank ≠ x := by
  simpa [State.referenced, State.pieceRefs, State.logRefs, List.countP_eq_zero] using h

theorem openSequence_bank (x : BankId) (kind : TableKind) (s : State) (y : BankId) :
    ((openSequence x kind s).bank y).state = if y = x then .loading else (s.bank y).state := by
  rw [openSequence, onStore_bank (by rfl) (by rfl)]
  split
  · rename_i same; subst same; simp
  · rename_i ne; rw [onBank_bank_of_ne ne]

theorem storeEntries_bank (x : BankId) (kind : TableKind) (offset : Nat) (es : List (List Byte)) (s : State)
    (y : BankId) : ((storeEntries x kind offset es s).bank y).state = (s.bank y).state := by
  rw [storeEntries, onStore_bank (by rfl) (by rfl)]
  by_cases same : y = x
  · subst same; rw [onBank_bank_self, store_state]
  · rw [onBank_bank_of_ne same]

theorem closeSequence_bank (x : BankId) (kind : TableKind) (b : Byte) (s : State) (y : BankId) :
    ((closeSequence x kind b s).state.bank y).state =
      if y = x then ((s.bank x).setLoaded ((s.bank x).kindOk kind) kind).close.state else (s.bank y).state := by
  have closed : (closeSequence x kind b s).state.bank y =
      (onBank x (fun b => (b.setLoaded ((s.bank x).kindOk kind) kind).close) s).bank y :=
    onStore_bank (by rfl) (by rfl) y
  rw [closed]
  split
  · rename_i same; subst same; simp
  · rename_i ne; rw [onBank_bank_of_ne ne]

/-- The bank of an aborted sequence closes, and every other stays (R180). -/
theorem abortSequence_bank (s : State) (y : BankId) :
    ((abortSequence s).bank y).state = (s.bank y).state ∧ (∀ q, s.store.sequence = some q → q.bank ≠ y) ∨
    ((abortSequence s).bank y).state ≠ .active ∧ ((abortSequence s).bank y).state ≠ .loading ∧
      ∃ q, s.store.sequence = some q ∧ q.bank = y := by
  unfold abortSequence
  cases opened : s.store.sequence with
  | none => exact .inl ⟨rfl, by simp⟩
  | some q =>
    dsimp only
    rw [onStore_bank (by rfl) (by rfl)]
    by_cases same : y = q.bank
    · subst same
      rw [onBank_bank_self]
      exact .inr ⟨(closed_ne _).1, (closed_ne _).2, q, rfl, rfl⟩
    · rw [onBank_bank_of_ne same]
      exact .inl ⟨rfl, fun r hr => by cases hr; exact Ne.symm same⟩

theorem bankLaw_lineReset {s : State} (h : BankLaw s) : BankLaw (lineResetState s) := by
  generalize hu : cancelAll (finishAll s) = u
  have law : BankLaw u := hu ▸ h.of_calm ((finishAll_calm s).trans (cancelAll_calm _))
  have idle : (lineResetState s).line.state = .idle := by simp [lineResetState, resetLine]
  generalize hv : ((clearHeld ((u.onSolver fun _ => { queue := [], running := none }).onChain fun c =>
    { c with suspect := none, goodRun := 0, hold := none, lockOn := false })).onMoisture fun m =>
      { m with converter := none }).onPanels (fun p => { p with answers := [] }) = v
  have store : v.store = u.store := hv ▸ rfl
  have before : ∀ y, v.bank y = u.bank y := fun y => by cases y <;> simp only [State.bank, store]
  have reset : (lineResetState s).store = { (abortSequence v).store with pendingBank := none } := by
    rw [lineResetState, hu, resetLine, ← hv]
    simp [resetBlocks]
  have now : ∀ y, (lineResetState s).bank y = (abortSequence v).bank y := fun y => by
    cases y <;> simp only [State.bank, reset]
  have flight : (lineResetState s).chain.pieces = u.chain.pieces ∧ (lineResetState s).logs = u.logs := by
    simp [lineResetState, hu, resetLine, resetBlocks]
  have after := abortSequence_bank v
  simp only [before, store] at after
  have carried : ∀ y, (u.bank y).carried → ((lineResetState s).bank y).carried := fun y hy => by
    unfold Bank.carried
    rw [now]
    rcases after y with ⟨same, _⟩ | ⟨_, _, opened⟩
    · rwa [same]
    · have loading := (law.sequence y).mpr opened
      rcases hy with hy | hy <;> cases loading.symm.trans hy
  refine ⟨?_, fun y => ?_, fun y hy => ?_, ?_, ?_, fun tracked => absurd idle tracked⟩
  · have still : ∀ y, ((lineResetState s).bank y).state = .active → (u.bank y).state = .active := fun y hy => by
      rw [now] at hy
      rcases after y with ⟨same, _⟩ | ⟨ne, _⟩
      · rwa [← same]
      · exact absurd hy ne
    exact fun both => law.oneActive ⟨still .a both.1, still .b both.2⟩
  · rw [reset]
    simp only [(abortSequence_store v).1, now]
    rcases after y with ⟨same, ne⟩ | ⟨_, ne, _⟩
    · rw [same, law.sequence]
      grind
    · simp [ne]
  · cases (congrArg Store.pendingBank reset).symm.trans hy
  · intro p hp
    rw [flight.1] at hp
    exact carried p.bank (law.pieces p hp)
  · intro l hl
    rw [flight.2] at hl
    exact carried l.bank (law.logs l hl)

theorem calmKept_bankLaw : CalmKept BankLaw where
  calm s t c h := h.of_calm c
  fullReset rate estop eye l := by
    refine ⟨fun both => (by cases both.1), fun x => ?_, fun x hx => (by cases hx), fun p hp => (by cases hp),
      fun l hl => (by cases hl), fun tracked => absurd rfl tracked⟩
    cases x <;> simp [State.bank, State.afterReset, Bank.reset]
  admission p s active h := by
    refine h.of_states (fun _ => rfl) (fun _ => Iff.rfl) h.pending (fun q hq => ?_) h.logs h.running
    rcases List.mem_append.mp hq with hq | hq
    · exact h.pieces q hq
    · rw [List.mem_singleton.mp hq]
      exact .inl (State.bank_of_activeBank active)
  startLog s tracked room h := by
    rw [startLog_eq tracked room]
    refine h.of_states (fun _ => rfl) (fun _ => Iff.rfl) h.pending h.pieces (fun l hl => ?_) h.running
    rcases List.mem_append.mp hl with hl | hl
    · exact h.logs l hl
    · obtain ⟨x, active⟩ := Option.isSome_iff_exists.mp (h.running tracked)
      rw [List.mem_singleton.mp hl]
      refine .inl ?_
      simp only [State.logBegun, LogRecord.begin_, active, Option.getD_some]
      exact State.bank_of_activeBank active
  enterHalt cause s running h := by
    generalize hu : s.onLine (fun l => { l with state := .halt, haltCause := some cause }) = u
    have law : BankLaw u := by
      subst hu
      refine h.weighed rfl rfl rfl fun _ => h.running ?_
      rcases running with st | st <;> simp [st]
    have noticed : Calm u (lineEvent .haltEntered (some (.halting cause)) (some s.line.state) u) :=
      Calm.of_steady (lineEvent_steady _ _ _ _)
    have calm := law.of_calm ((noticed.trans (cancelAll_calm _)).trans (setSuspect_calm _ .halt))
    simp only [enterHalt, hu]
    exact calm.weighed (by simp) (by simp) (by simp) (by simpa using calm.running)
  silence b s h := h.weighed (by simp) (by simp) (by simp) (by simpa using h.running)
  geometry g s h := h.of_states (fun x => by cases x <;> rfl) (fun _ => Iff.rfl) h.pending h.pieces h.logs h.running
  takePending s h := by
    unfold takePending
    cases pending : s.store.pendingBank with
    | none => exact h
    | some x => exact bankLaw_takeActivation (h.pending x pending) h
  takeActivation x s := bankLaw_takeActivation
  setLine st s _ _ ready h := by
    refine h.weighed (by simp) (by simp) (by simp) fun _ => ?_
    by_cases state : s.line.state = .idle
    · exact ready state
    · exact h.running state
  leaveHalt s halt h := h.weighed (by simp) (by simp) (by simp) fun _ => h.running (by simp [halt])
  lineReset s := bankLaw_lineReset
  openSequence x kind s none inactive unpended free h := by
    obtain ⟨pieces, logs⟩ := unreferenced free
    refine bankLaw_of_load h inactive pieces logs (by simp [openSequence_bank])
      (fun y ne => by rw [openSequence_bank, if_neg ne]) (fun y => ?_) (fun y hy => ?_) (by simp [openSequence])
      (by simp [openSequence]) (by simp [openSequence])
    · have unopened := h.sequence y
      rw [openSequence_bank]
      simp only [openSequence, State.onStore_store, Option.some.injEq, exists_eq_left']
      simp only [none] at unopened
      grind
    · have same : s.store.pendingBank = some y := by cases x <;> exact hy
      exact ⟨same, by rintro rfl; exact unpended same⟩
  storeEntries x kind offset es s opened h := by
    refine h.of_states (storeEntries_bank x kind offset es s) (fun y => ?_) ?_ (by simpa [storeEntries] using h.pieces)
      (by simpa [storeEntries] using h.logs) (by simpa [storeEntries] using h.running)
    · simp [storeEntries, opened]
    · cases x <;> exact h.pending
  closeSequence x kind next b s opened h := by
    have loading := (h.sequence x).mpr ⟨_, opened, rfl⟩
    obtain ⟨pieces, logs⟩ := h.uncarried loading
    have ended : (closeSequence x kind b s).state.store.sequence = none := by cases x <;> rfl
    refine bankLaw_of_load h (by simp [loading]) pieces logs (by simpa [closeSequence_bank] using (closed_ne _).1)
      (fun y ne => by rw [closeSequence_bank, if_neg ne]) (fun y => ?_) (fun y hy => ?_)
      (by simp [closeSequence, tableReply]) (by simp [closeSequence, tableReply]) (by simp [closeSequence, tableReply])
    · rw [closeSequence_bank, ended]
      have only := h.sequence y
      simp only [opened] at only
      split
      · simp [(closed_ne _).2]
      · rename_i ne
        simp [only, Ne.symm ne]
    · have same : s.store.pendingBank = some y := by cases x <;> exact hy
      refine ⟨same, ?_⟩
      rintro rfl
      simp [h.pending y same] at loading
  leavePending x s valid none h := by
    refine h.of_states (fun y => by cases y <;> rfl) (fun _ => Iff.rfl) (fun y hy => ?_) h.pieces h.logs h.running
    cases hy
    exact valid

/-- Settles O8: the law passes over every calm operation, and over activations and loads by the states of the banks. -/
theorem everyStepKeepsBankLaw : Obligations.EveryStepKeepsBankLaw := by
  intro s t h next
  refine calmKept_bankLaw.kept.step (fun s l h => ?_) h next
  exact ⟨h.oneActive, h.sequence, h.pending, h.pieces, h.logs, h.running⟩

end Sys2Proof.Machine
end

section
/-! SUPPORT. Quiet operations: what most operations leave of the lists of the scan assembler, the solver, the panel ports
and the supervisor link, and of the answers owed. -/

namespace Sys2Proof.Machine

/-! ### The relation -/

/-- From one link to another the requests and the replies stay, no more than 64 notices wait, and the transmitter begins
no reply but the oldest. -/
structure Link.Quiet (l m : Link) : Prop where
  replies : m.replies = l.replies
  requests : m.requests = l.requests
  taken : m.taken = l.taken
  sending : ∀ r, m.sending = some (.reply r) → l.sending = some (.reply r) ∨ l.replies.head? = some r
  notices : l.notices.length ≤ 64 → m.notices.length ≤ 64

theorem Link.Quiet.refl (l : Link) : l.Quiet l := ⟨rfl, rfl, rfl, fun _ => .inl, id⟩

theorem Link.Quiet.trans {l m n : Link} (h : l.Quiet m) (k : m.Quiet n) : l.Quiet n where
  replies := k.replies.trans h.replies
  requests := k.requests.trans h.requests
  taken := k.taken.trans h.taken
  sending r begun := by
    rcases k.sending r begun with was | first
    · exact h.sending r was
    · exact .inr (h.replies ▸ first)
  notices := k.notices ∘ h.notices

/-- From `s` to `t` no list of the scan assembler, the solver, a panel port or the link passes its bound, no answer comes
to be owed, and the requests and replies stay. -/
structure Quiet (s t : State) : Prop where
  history : s.scan.history.length ≤ 128 → t.scan.history.length ≤ 128
  solver : s.solver.queue.length ≤ 8 → t.solver.queue.length ≤ 8
  ports : ∀ p, (s.panels.port p).queue.length ≤ 160 → (t.panels.port p).queue.length ≤ 160
  answers : t.panels.answers.Sublist s.panels.answers
  link : s.link.Quiet t.link

theorem Quiet.refl (s : State) : Quiet s s := ⟨id, id, fun _ => id, .refl _, .refl _⟩

theorem Quiet.trans {s t u : State} (h : Quiet s t) (k : Quiet t u) : Quiet s u where
  history := k.history ∘ h.history
  solver := k.solver ∘ h.solver
  ports p := k.ports p ∘ h.ports p
  answers := k.answers.trans h.answers
  link := h.link.trans k.link

theorem foldl_quiet {α : Type} {f : State → α → State} (h : ∀ t a, Quiet t (f t a)) (l : List α) (s : State) :
    Quiet s (l.foldl f s) := by
  induction l generalizing s with
  | nil => exact Quiet.refl s
  | cons a l ih => exact (h s a).trans (ih _)

theorem elim_quiet {α : Type} {f : α → State} {s : State} (h : ∀ a, Quiet s (f a)) (o : Option α) :
    Quiet s (o.elim s f) := by
  cases o with
  | none => exact Quiet.refl s
  | some a => exact h a

theorem onlyIf_quiet {b : Bool} {f : State → State} {s : State} (h : Quiet s (f s)) : Quiet s (onlyIf b f s) := by
  cases b with
  | false => exact Quiet.refl s
  | true => exact h

/-- An operation on other blocks is quiet. -/
theorem Quiet.of_blocks {s t : State} (scan : t.scan = s.scan) (solver : t.solver = s.solver)
    (panels : t.panels = s.panels) (link : t.link = s.link) : Quiet s t := by
  refine ⟨?_, ?_, ?_, ?_, ?_⟩
  · rw [scan]; exact id
  · rw [solver]; exact id
  · rw [panels]; exact fun _ => id
  · rw [panels]
  · rw [link]; exact .refl _

theorem onScan_quiet (s : State) {f : Scan → Scan}
    (h : s.scan.history.length ≤ 128 → (f s.scan).history.length ≤ 128) : Quiet s (s.onScan f) :=
  { Quiet.refl s with history := h }

theorem onSolver_quiet (s : State) {f : Solver → Solver}
    (h : s.solver.queue.length ≤ 8 → (f s.solver).queue.length ≤ 8) : Quiet s (s.onSolver f) :=
  { Quiet.refl s with solver := h }

theorem onLink_quiet (s : State) {f : Link → Link} (h : s.link.Quiet (f s.link)) : Quiet s (s.onLink f) :=
  { Quiet.refl s with link := h }

/-! ### Notices and panel frames -/

theorem Link.noticed_quiet (l : Link) (n : Notice) : l.Quiet (l.noticed n) := by
  unfold Link.noticed
  split
  · exact ⟨rfl, rfl, rfl, fun _ => .inl, id⟩
  · rename_i room
    have joined : (l.notices ++ [(⟨l.seq, n⟩ : QueuedNotice)]).length ≤ 64 := by
      rw [List.length_append, List.length_singleton]
      omega
    dsimp only
    split
    · rename_i free replies
      refine ⟨rfl, rfl, rfl, fun q begun => .inr ?_, fun _ => joined⟩
      cases begun
      rw [replies]; rfl
    · rename_i first
      refine ⟨rfl, rfl, rfl, fun q begun => (by cases begun), fun _ => ?_⟩
      rw [first] at joined
      exact Nat.le_of_succ_le joined
    · exact ⟨rfl, rfl, rfl, fun _ => .inl, fun _ => joined⟩

theorem queueNotice_quiet (n : Notice) (s : State) : Quiet s (queueNotice n s) :=
  { Quiet.of_blocks (s := s) (t := { queueNotice n s with link := s.link }) (by simp) (by simp) (by simp) rfl with
    link := by rw [queueNotice_link]; exact Link.noticed_quiet _ n }

theorem start_length (q : PanelPort) : q.start.queue.length ≤ q.queue.length := by
  unfold PanelPort.start
  split
  · rename_i waits
    rw [waits]
    exact Nat.le_succ _
  · exact le_rfl

theorem push_length (q : PanelPort) (f : Frame) (h : q.queue.length ≤ 160) : (q.push f).queue.length ≤ 160 := by
  unfold PanelPort.push panelQueueMax
  split
  · rename_i room
    refine (start_length _).trans ?_
    simpa using room
  · exact h

/-- A panel port changed so that its queue stays within its bound. -/
theorem onPort_quiet (p : PanelId) {f : PanelPort → PanelPort} (s : State)
    (h : ∀ q, q.queue.length ≤ 160 → (f q).queue.length ≤ 160) : Quiet s (onPort p f s) := by
  refine { Quiet.refl s with ports := fun r bound => ?_, answers := ?_ }
  · cases p <;> cases r <;> first | exact h _ bound | exact bound
  · cases p <;> exact List.Sublist.refl _

variable (s : State)

theorem answerPanel_quiet (p : PanelId) (kind tag : Byte) (body : List Byte) :
    Quiet s (answerPanel p kind tag body s) := onPort_quiet p s fun q => push_length q _

theorem tellPanel_quiet (p : PanelId) (kind : Byte) (body : List Byte) : Quiet s (tellPanel p kind body s) := by
  refine onPort_quiet p s fun q bound => ?_
  dsimp only
  split
  · exact push_length q _ bound
  · exact bound

theorem dropAnswer_quiet (lug : LugNo) : Quiet s (dropAnswer lug s) :=
  { Quiet.refl s with ports := fun p => by cases p <;> exact id, answers := List.filter_sublist }

theorem payLapsed_quiet (lug : LugNo) (why : LapseReason) : Quiet s (payLapsed lug why s) := by
  unfold payLapsed
  split
  · exact Quiet.refl s
  · exact (dropAnswer_quiet s lug).trans (tellPanel_quiet _ _ _ _)

theorem sendResult_quiet (p : PanelId) (tag : Byte) (lug : LugNo) : Quiet s (sendResult p tag lug s) := by
  unfold sendResult
  split
  · exact Quiet.refl s
  · exact tellPanel_quiet _ _ _ _

theorem reportResult_quiet (lug : LugNo) (r : Byte) : Quiet s (reportResult lug r s) := by
  unfold reportResult
  repeat' split
  · exact Quiet.refl s
  · exact (dropAnswer_quiet s lug).trans (sendResult_quiet _ _ _ _)
  · exact Quiet.refl s

theorem markPiece_quiet (p : PanelId) (lug : LugNo) : Quiet s (markPiece p lug s) := by
  unfold markPiece
  split
  · exact Quiet.refl s
  · exact tellPanel_quiet _ _ _ _

theorem setPresence_quiet (p : PanelId) (b : Bool) : Quiet s (setPresence p b s) :=
  (onPort_quiet p (f := fun q => { q with present := b }) s fun _ => id).trans (queueNotice_quiet _ _)

theorem panelHeard_quiet (p : PanelId) : Quiet s (panelHeard p s) := by
  have heard : Quiet s (onPort p (fun q => { q with timer := 0 }) s) := onPort_quiet p s fun _ => id
  unfold panelHeard
  dsimp only
  split
  · exact heard
  · exact heard.trans (setPresence_quiet _ p true)

theorem weighPanelTimer_quiet (p : PanelId) : Quiet s (weighPanelTimer p s) := by
  unfold weighPanelTimer
  split
  · exact setPresence_quiet s p false
  · exact Quiet.refl s

theorem panelSent_quiet (p : PanelId) : Quiet s (panelSent p s) := by
  exact onPort_quiet p s fun q bound => (start_length _).trans bound

/-! ### The solver -/

theorem changePiece_quiet (lug : LugNo) (f : Piece → Piece) : Quiet s (changePiece lug f s) :=
  Quiet.of_blocks rfl rfl rfl rfl

theorem startSolve_quiet : Quiet s (startSolve s) := by
  refine { Quiet.of_blocks (s := s) (t := { startSolve s with solver := s.solver }) (by simp) rfl (by simp) (by simp) with
    solver := fun bound => ?_ }
  unfold startSolve
  split
  · rename_i lug rest _ waits
    rw [waits] at bound
    have fewer := Nat.le_of_succ_le bound
    dsimp only
    split <;> exact fewer
  · exact bound

theorem joinSolver_quiet (lug : LugNo) (room : s.solver.queue.length < 8) : Quiet s (joinSolver lug s) := by
  refine Quiet.trans ?_ (startSolve_quiet _)
  refine Quiet.trans (onSolver_quiet s fun _ => ?_) (changePiece_quiet _ lug _)
  rw [List.length_append]
  exact room

theorem completeEmpty_quiet (lug : LugNo) : Quiet s (completeEmpty lug s) := by
  unfold completeEmpty
  split
  · exact Quiet.refl s
  · exact (changePiece_quiet s lug _).trans (reportResult_quiet _ _ _)

theorem countFault_quiet (x : LineFault) : Quiet s (countFault x s) := Quiet.of_blocks rfl rfl rfl rfl

theorem requestAtClose_quiet (lug : LugNo) : Quiet s (requestAtClose lug s) := by
  unfold requestAtClose
  repeat' split
  · exact Quiet.refl s
  · exact completeEmpty_quiet s lug
  · exact Quiet.refl s
  · exact joinSolver_quiet s lug ‹_›
  · exact (changePiece_quiet s lug _).trans (countFault_quiet _ _)

theorem settleDiscard_quiet (lug : LugNo) : Quiet s (settleDiscard lug s) := by
  unfold settleDiscard
  repeat' split
  · exact Quiet.refl s
  · exact changePiece_quiet s lug _
  · exact changePiece_quiet s lug _
  · exact joinSolver_quiet s lug ‹_›
  · exact (changePiece_quiet s lug _).trans (countFault_quiet _ _)

theorem completeSolve_quiet : Quiet s (completeSolve s) := by
  have ended : Quiet s (s.onSolver fun x => { x with running := none }) := onSolver_quiet s id
  unfold completeSolve
  dsimp only
  repeat' split
  · exact Quiet.refl s
  · exact (ended.trans (countFault_quiet _ _)).trans (startSolve_quiet _)
  · exact ((ended.trans (changePiece_quiet _ _ _)).trans (reportResult_quiet _ _ _)).trans (startSolve_quiet _)
  · exact ((ended.trans (countFault_quiet _ _)).trans (settleDiscard_quiet _ _)).trans (startSolve_quiet _)

theorem solverCommitted_quiet (lug : LugNo) : Quiet s (solverCommitted lug s) := by
  unfold solverCommitted
  split
  · refine Quiet.trans (onSolver_quiet s fun bound => ?_) (changePiece_quiet _ _ _)
    exact (List.length_filter_le ..).trans bound
  · exact Quiet.refl s

/-! ### Scanning and moisture -/

theorem closeProfile_quiet (lug : LugNo) (cause : CloseCause) : Quiet s (closeProfile lug cause s) := by
  unfold closeProfile
  repeat' split
  · exact Quiet.refl s
  · exact ((changePiece_quiet s lug _).trans (requestAtClose_quiet _ lug)).trans (onScan_quiet _ id)
  · exact Quiet.refl s

theorem countFrameError_quiet (port : Port) : Quiet s (countFrameError port s) :=
  { Quiet.refl s with link := ⟨rfl, rfl, rfl, fun _ => .inl, id⟩ }

theorem judgeSegment_quiet (port : Fin 8) (body : List Byte) : Quiet s (judgeSegment port body s) := by
  unfold judgeSegment
  split
  · exact countFrameError_quiet s _
  split
  · exact countFault_quiet s _
  · split
    · exact onScan_quiet s id
    · exact Quiet.refl s
  split
  · exact onScan_quiet s id
  split
  · unfold judgeReport takeReport
    dsimp only
    repeat' split
    · exact countFault_quiet s _
    · exact countFault_quiet s _
    · exact (changePiece_quiet s _ _).trans (closeProfile_quiet _ _ _)
    · exact changePiece_quiet s _ _
    · exact onScan_quiet s id
  · exact onScan_quiet s id

theorem triggerMoisture_quiet (lug : LugNo) : Quiet s (triggerMoisture lug s) := by
  unfold triggerMoisture
  dsimp only
  repeat' split
  · exact Quiet.refl s
  · exact Quiet.refl s
  all_goals exact Quiet.of_blocks rfl rfl rfl rfl

theorem completeConversion_quiet (raw : Nat) : Quiet s (completeConversion raw s) :=
  Quiet.of_blocks (by simp) (by simp) (by simp) (by simp)

theorem recordHistory_quiet (lug : LugNo) (b : Bool) : Quiet s (recordHistory lug b s) := by
  unfold recordHistory
  refine onScan_quiet s fun _ => ?_
  simp only [List.length_drop, List.length_append, List.length_singleton]
  omega

theorem sendLug_quiet (lug : LugNo) : Quiet s (sendLug lug s) := by
  unfold sendLug
  split
  · exact Quiet.refl s
  · exact onScan_quiet s id

end Sys2Proof.Machine
end

section
/-! SUPPORT. The quiet operations, continued: the stations, the lug advance, HALT, the logs and the served requests. -/

namespace Sys2Proof.Machine

variable (s : State)

/-! ### Bins, the suspect condition and the finish of a piece -/

theorem changeBin_quiet (i : Nat) (f : Bin → Bin) (cause : BinCause) : Quiet s (changeBin i f cause s) := by
  unfold changeBin weighBin
  split
  · exact Quiet.of_blocks rfl rfl rfl rfl
  · dsimp only
    split
    · exact Quiet.of_blocks rfl rfl rfl rfl
    · refine Quiet.trans ?_ (queueNotice_quiet _ _)
      exact Quiet.of_blocks rfl rfl rfl rfl

theorem cancelOwner_quiet (lug : LugNo) : Quiet s (cancelOwner lug s) := Quiet.of_blocks rfl rfl rfl rfl

theorem setSuspect_quiet (cause : SuspectCause) : Quiet s (setSuspect cause s) := by
  have marked : Quiet s (s.onChain fun c =>
      { c with suspect := some cause, pieces := c.pieces.map (Piece.markSuspect cause) }) :=
    Quiet.of_blocks rfl rfl rfl rfl
  have cancelled := (marked.trans (foldl_quiet (f := fun t b => releaseBin b t) (fun t b => changeBin_quiet t b _ _)
    ((s.chain.pieces.filter fun p => p.suspect.isNone).filterMap Piece.reservedBin) _)).trans
    (foldl_quiet (f := fun t lug => cancelOwner lug t) (fun t lug => cancelOwner_quiet t lug)
      ((s.chain.pieces.filter fun p => p.suspect.isNone).map Piece.lug) _)
  unfold setSuspect
  dsimp only
  split
  · exact cancelled.trans (queueNotice_quiet _ _)
  · exact cancelled

theorem clearSuspectNoticed_quiet : Quiet s (clearSuspectNoticed s) := by
  unfold clearSuspectNoticed
  split
  · refine Quiet.trans ?_ (queueNotice_quiet _ _)
    exact Quiet.of_blocks rfl rfl rfl rfl
  · exact Quiet.refl s

theorem finishPiece_quiet (lug : LugNo) (o : PieceOutcome) : Quiet s (finishPiece lug o s) := by
  unfold finishPiece
  split
  · exact Quiet.refl s
  · refine Quiet.trans ?_ (queueNotice_quiet _ _)
    exact Quiet.of_blocks rfl rfl rfl rfl

theorem takeOutOfService_quiet (bin : Nat) : Quiet s (takeOutOfService bin s) := by
  refine Quiet.trans ?_ (changeBin_quiet _ bin _ _)
  exact foldl_quiet (f := fun t lug => reroute bin lug t) (fun t lug => Quiet.of_blocks rfl rfl rfl rfl) _ s

/-! ### The stations and the lug advance (R11, R13) -/

theorem writeCommit_quiet (lug : LugNo) (d : Dest) (o : Option PieceOutcome) (full : Bool) :
    Quiet s (writeCommit lug d o full s) :=
  ((changePiece_quiet s lug _).trans (solverCommitted_quiet _ lug)).trans (payLapsed_quiet _ _ _)

theorem commitPiece_quiet (g : Geometry) (c : Count) (lug : LugNo) : Quiet s (commitPiece g c lug s) := by
  unfold commitPiece
  split
  · exact Quiet.refl s
  · rename_i p found
    dsimp only
    have reserved : Quiet s ((reservationOf (pathOf s.line.state p) s p).elim s fun b => reserveBin b s) :=
      elim_quiet (fun b => changeBin_quiet s b _ _) _
    split
    · exact reserved.trans (writeCommit_quiet ..)
    · split
      · rename_i taken
        obtain ⟨_, scan, _, solver, panels, _, _, _, _, _, link, _⟩ := addEntries_frame taken
        exact (reserved.trans (Quiet.of_blocks scan solver panels link)).trans (writeCommit_quiet ..)
      · refine (reserved.trans ?_).trans (writeCommit_quiet ..)
        exact (elim_quiet (fun b => changeBin_quiet _ b _ _) _).trans (countFault_quiet _ _)

theorem passSaw_quiet (lug : LugNo) : Quiet s (passSaw lug s) := by
  unfold passSaw
  dsimp only
  repeat' split
  · exact changePiece_quiet s lug _
  · exact (changePiece_quiet s lug _).trans (finishPiece_quiet ..)
  · exact changePiece_quiet s lug _

theorem dropPiece_quiet (bin : Nat) (lug : LugNo) : Quiet s (dropPiece bin lug s) := by
  refine Quiet.trans ?_ (finishPiece_quiet ..)
  exact Quiet.of_blocks rfl rfl rfl rfl

theorem runOutPiece_quiet (lug : LugNo) : Quiet s (runOutPiece lug s) := by
  unfold runOutPiece
  split
  · exact Quiet.refl s
  · exact finishPiece_quiet ..

theorem visitStations_quiet (g : Geometry) (c : Count) (lug : LugNo) : Quiet s (visitStations g c s lug) := by
  unfold visitStations
  refine Quiet.trans ?_ (onlyIf_quiet (runOutPiece_quiet _ _))
  refine Quiet.trans ?_ (elim_quiet (fun b => dropPiece_quiet _ b _) _)
  refine Quiet.trans ?_ (onlyIf_quiet (passSaw_quiet _ _))
  refine Quiet.trans ?_ (onlyIf_quiet (commitPiece_quiet _ _ _ _))
  refine Quiet.trans ?_ (onlyIf_quiet (markPiece_quiet _ _ _))
  refine Quiet.trans ?_ (onlyIf_quiet (markPiece_quiet _ _ _))
  refine Quiet.trans ?_ (onlyIf_quiet (closeProfile_quiet _ _ _))
  exact onlyIf_quiet (triggerMoisture_quiet _ _)

theorem runStations_quiet (c : Count) : Quiet s (runStations c s) := by
  unfold runStations
  split
  · exact Quiet.refl s
  · exact foldl_quiet (fun t lug => visitStations_quiet t _ c lug) _ s

theorem takeActivation_quiet (x : BankId) : Quiet s (takeActivation x s) := by
  rw [takeActivation_eq]
  refine Quiet.trans ?_ (queueNotice_quiet _ _)
  have activated : (s.activated x).scan = s.scan ∧ (s.activated x).solver = s.solver ∧
      (s.activated x).panels = s.panels ∧ (s.activated x).link = s.link := by
    unfold State.activated
    cases s.activeBank <;> simp
  have adopted : ∀ t : State, (t.adopted x).scan = t.scan ∧ (t.adopted x).solver = t.solver ∧
      (t.adopted x).panels = t.panels ∧ (t.adopted x).link = t.link := fun t => by
    unfold State.adopted
    cases (t.bank x).governorRow <;> simp
  refine Quiet.of_blocks ?_ ?_ ?_ ?_ <;> simp [activated, adopted]

theorem takePending_quiet : Quiet s (takePending s) := elim_quiet (fun x => takeActivation_quiet s x) _

theorem admitPiece_quiet (c : Count) (eye : Bool) : Quiet s (admitPiece c eye s) := by
  have weighed : ∀ lug t, Quiet t (weighAdmission lug t) := fun lug t => by
    unfold weighAdmission
    split
    · exact Quiet.refl t
    · exact countFault_quiet t _
  unfold admitPiece
  split
  · refine Quiet.trans (Quiet.trans ?_ (weighed _ _)) (recordHistory_quiet _ _ _)
    exact Quiet.of_blocks rfl rfl rfl rfl
  · exact recordHistory_quiet s _ _

theorem lugAdvance_quiet (c : Count) (good eye : Bool) : Quiet s (lugAdvance c good eye s) := by
  have governed : ∀ t, Quiet t (stepGovernor t) := fun t => Quiet.of_blocks (by simp) (by simp) (by simp) (by simp)
  have aged : ∀ t, Quiet t (ageMoisture t) := fun t => Quiet.of_blocks rfl rfl rfl rfl
  have eyed : ∀ t : State, Quiet t (t.onScan fun x => { x with eye }) := fun t => onScan_quiet t id
  refine Quiet.trans ?_ (governed _)
  refine Quiet.trans ?_ (runStations_quiet _ c)
  refine Quiet.trans ?_ (aged _)
  refine Quiet.trans ?_ (admitPiece_quiet _ c eye)
  refine Quiet.trans ?_ (sendLug_quiet _ _)
  refine Quiet.trans ?_ (eyed _)
  refine Quiet.trans ?_ (takePending_quiet _)
  exact Quiet.of_blocks rfl rfl rfl rfl

/-! ### The chain encoder, HALT and the line's moves -/

theorem weighMissed_quiet (eye : Bool) : Quiet s (weighMissed eye s) := by
  unfold weighMissed
  repeat' split
  · exact Quiet.refl s
  · refine Quiet.trans ?_ (lugAdvance_quiet ..)
    refine Quiet.trans (Quiet.trans ?_ (setSuspect_quiet _ _)) (countFault_quiet _ _)
    exact Quiet.of_blocks rfl rfl rfl rfl
  · exact Quiet.refl s

theorem extraLug_quiet : Quiet s (extraLug s) := by
  refine Quiet.trans (Quiet.trans ?_ (setSuspect_quiet _ _)) (countFault_quiet _ _)
  exact Quiet.of_blocks rfl rfl rfl rfl

theorem judgeEdge_quiet (eye : Bool) : Quiet s (judgeEdge eye s) := by
  unfold judgeEdge
  repeat' split
  · exact Quiet.refl s
  · exact Quiet.refl s
  · refine Quiet.trans ?_ (lugAdvance_quiet ..)
    exact Quiet.of_blocks rfl rfl rfl rfl
  · exact extraLug_quiet s
  · exact Quiet.refl s
  · exact lugAdvance_quiet ..

theorem weighReversal_quiet : Quiet s (weighReversal s) := by
  have cancelled : ∀ t, Quiet t (cancelEncoder .chain t) := fun t => Quiet.of_blocks rfl rfl rfl rfl
  unfold weighReversal
  repeat' split
  · exact Quiet.refl s
  · refine Quiet.trans (Quiet.trans (Quiet.trans ?_ (setSuspect_quiet _ _)) (countFault_quiet _ _)) (cancelled _)
    exact Quiet.of_blocks rfl rfl rfl rfl
  · exact Quiet.refl s

theorem chainTransition_quiet (forward eye : Bool) : Quiet s (chainTransition forward eye s) := by
  have entries : ∀ t, Quiet t (weighEntries .chain t) := fun t => Quiet.of_blocks rfl rfl rfl rfl
  have held : ∀ t : State, Quiet t (t.onChain Chain.endHold) := fun t => Quiet.of_blocks rfl rfl rfl rfl
  refine Quiet.trans ?_ (weighMissed_quiet _ eye)
  refine Quiet.trans ?_ (entries _)
  refine Quiet.trans ?_ (held _)
  refine Quiet.trans ?_ (weighReversal_quiet _)
  exact Quiet.of_blocks rfl rfl rfl rfl

theorem haltingFault_quiet (cause : HaltCause) : Quiet s (haltingFault cause s) := by
  have weighed : ∀ t, Quiet t (weighHold t) := fun t => Quiet.of_blocks (by simp) (by simp) (by simp) (by simp)
  have cancelled : ∀ t, Quiet t (cancelAll t) := fun t => Quiet.of_blocks rfl rfl rfl rfl
  have lit : ∀ t : State, Quiet t (t.onLine fun l => { l with faultLine := true }) := fun t =>
    Quiet.of_blocks rfl rfl rfl rfl
  have entered : ∀ t, Quiet t (enterHalt cause t) := fun t => by
    refine Quiet.trans ?_ (weighed _)
    refine Quiet.trans ?_ (lit _)
    refine Quiet.trans ?_ (setSuspect_quiet _ .halt)
    refine Quiet.trans ?_ (cancelled _)
    refine Quiet.trans ?_ (queueNotice_quiet _ _)
    exact Quiet.of_blocks rfl rfl rfl rfl
  unfold haltingFault
  dsimp only
  split
  · exact (countFault_quiet s _).trans (entered _)
  · exact (countFault_quiet s _).trans (entered _)
  all_goals exact (countFault_quiet s _).trans (queueNotice_quiet _ _)

/-! ### Logs -/

theorem finishLog_quiet (n : LogNo) (o : LogOutcome) (cause : Option EndCause) : Quiet s (finishLog n o cause s) := by
  unfold finishLog
  split
  · exact Quiet.refl s
  · refine Quiet.trans ?_ (queueNotice_quiet _ _)
    exact Quiet.of_blocks rfl rfl rfl rfl

theorem weighKicks_quiet : Quiet s (weighKicks s) := by
  refine foldl_quiet (fun t n => ?_) _ s
  unfold finishAtKick
  split
  · exact Quiet.refl t
  · exact finishLog_quiet ..

theorem finishAllLogs_quiet (cause : EndCause) : Quiet s (finishAllLogs cause s) :=
  (foldl_quiet (f := fun t n => finishLog n .unmeasured (some cause) t) (fun t n => finishLog_quiet t n _ _) _ s).trans
    (Quiet.of_blocks rfl rfl rfl rfl)

theorem logEncoderFault_quiet : Quiet s (logEncoderFault s) := by
  have cancelled : Quiet s (cancelEncoder .log (countFault .logEncoder s)) := Quiet.of_blocks rfl rfl rfl rfl
  unfold logEncoderFault
  dsimp only
  split
  · exact cancelled
  · exact cancelled.trans (finishAllLogs_quiet _ _)

theorem logTransition_quiet (forward : Bool) : Quiet s (logTransition forward s) := by
  have weighed : ∀ t, Quiet t (weighLogReversal t) := fun t => by
    unfold weighLogReversal
    repeat' split
    · exact Quiet.refl t
    · exact logEncoderFault_quiet t
    · exact Quiet.refl t
  have entries : ∀ t, Quiet t (weighEntries .log t) := fun t => Quiet.of_blocks rfl rfl rfl rfl
  refine Quiet.trans ?_ (weighKicks_quiet _)
  refine Quiet.trans ?_ (entries _)
  refine Quiet.trans ?_ (weighed _)
  exact Quiet.of_blocks rfl rfl rfl rfl

/-! ### Pieces lost and the blocks reset (R170) -/

theorem losePiece_quiet (lug : LugNo) : Quiet s (losePiece s lug) := by
  refine Quiet.trans ?_ (finishPiece_quiet ..)
  refine Quiet.trans ?_ (payLapsed_quiet ..)
  exact elim_quiet (fun b => changeBin_quiet s b _ _) _

theorem finishAll_quiet : Quiet s (finishAll s) :=
  (foldl_quiet losePiece_quiet _ s).trans (finishAllLogs_quiet _ _)

theorem lineResetState_quiet : Quiet s (lineResetState s) := by
  have cancelled : ∀ t, Quiet t (cancelAll t) := fun t => Quiet.of_blocks rfl rfl rfl rfl
  have line : ∀ t, Quiet t (resetLine t) := fun t => Quiet.of_blocks (by simp) (by simp) (by simp) (by simp)
  have blocks : ∀ t, Quiet t (resetBlocks t) := fun t => by
    have aborted : ∀ u, Quiet u (abortSequence u) := fun u =>
      Quiet.of_blocks (by simp) (by simp) (by simp) (by simp)
    have unanswered : ∀ u : State, Quiet u (u.onPanels fun p => { p with answers := [] }) := fun u =>
      { Quiet.refl u with ports := fun p => by cases p <;> exact id, answers := List.nil_sublist _ }
    have unpended : ∀ u : State, Quiet u (u.onStore fun st => { st with pendingBank := none }) := fun u =>
      Quiet.of_blocks rfl rfl rfl rfl
    refine Quiet.trans ?_ (unpended _)
    refine Quiet.trans ?_ (aborted _)
    refine Quiet.trans ?_ (unanswered _)
    exact (onSolver_quiet t (f := fun _ => { queue := [], running := none }) fun _ => Nat.zero_le _).trans
      (Quiet.of_blocks rfl rfl rfl rfl)
  exact (((finishAll_quiet s).trans (cancelled _)).trans (blocks _)).trans (line _)

end Sys2Proof.Machine
end

section
/-! PROOF. Every step keeps the bounds of the lists that quiet operations do not lengthen, and the laws behind the bound
of the reply list (R30, R61, R74, R173, R175). -/

namespace Sys2Proof.Machine

/-- The bounds of the lists of the scan assembler, the solver, the panel ports and the link, with the law of replies. -/
structure ListLaw (s : State) : Prop where
  history : s.scan.history.length ≤ 128
  solver : s.solver.queue.length ≤ 8
  ports : ∀ p, (s.panels.port p).queue.length ≤ 160
  notices : s.link.notices.length ≤ 64
  requests : s.link.requests.length ≤ 4
  reply : ReplyLaw s.link

theorem ReplyLaw.of_quiet {l m : Link} (q : l.Quiet m) (h : ReplyLaw l) : ReplyLaw m where
  bound := by rw [q.replies, q.requests, q.taken]; exact h.bound
  sending r begun := by
    rw [q.replies]
    rcases q.sending r begun with was | first
    · exact h.sending r was
    · exact first
  taken is := by rw [q.replies, q.requests]; exact h.taken (q.taken ▸ is)
  waiting not := by rw [q.replies, q.requests]; exact h.waiting (q.taken ▸ not)

theorem ListLaw.of_quiet {s t : State} (q : Quiet s t) (h : ListLaw s) : ListLaw t where
  history := q.history h.history
  solver := q.solver h.solver
  ports p := q.ports p (h.ports p)
  notices := q.link.notices h.notices
  requests := by rw [q.link.requests]; exact h.requests
  reply := h.reply.of_quiet q.link

/-! ### An accepted override (R83 to R88) -/

theorem updateAnswers_listLaw {s : State} (h : ListLaw s) (p : PanelId) (tag : Byte) (lug : LugNo) (k : OverrideKind)
    (r : Byte) (owed : Bool) : ListLaw (updateAnswers p tag lug k r owed s) := by
  have added : ListLaw (if owed then (dropAnswer lug s).onPanels fun x =>
      { x with answers := x.answers ++ [⟨lug, r, p, tag⟩] } else dropAnswer lug s) := by
    have dropped := h.of_quiet (dropAnswer_quiet s lug)
    split
    · exact { dropped with ports := fun q => by cases q; exacts [dropped.ports .p1, dropped.ports .p2] }
    · exact dropped
  unfold updateAnswers
  dsimp only
  generalize (if owed then _ else _ : State) = u at added ⊢
  repeat' split
  · exact added
  · exact added.of_quiet (tellPanel_quiet _ _ _ _)
  · exact added

/-- What an accepted override asks for after the answer list is quiet, since a re-solve is asked for only with room in
the solver queue (R82). -/
theorem afterAcceptance_quiet {p : PanelId} {tag : Byte} {lug : LugNo} {k : OverrideKind} {x y : Piece} {u : State}
    (room : needsResolve k x = true → canTakeRequest lug u = true) (found : u.piece? lug = some y)
    (same : y.profile = x.profile) : Quiet u (afterAcceptance p tag lug k x u) := by
  have asked : k ≠ .slash → k ≠ .regrade → x.stage = .closed → Quiet u (requestForOverride lug u) := by
    intro notSlash notRegrade closed
    unfold requestForOverride
    rw [found]
    dsimp only
    split
    · exact completeEmpty_quiet u lug
    · rename_i filled
      split
      · exact changePiece_quiet u lug _
      · rename_i absent
        refine joinSolver_quiet u lug ?_
        have profile : x.emptyProfile = false := by
          simpa [Piece.emptyProfile, same] using filled
        have needed : needsResolve k x = true := by
          cases k <;> simp_all [needsResolve]
        have able := room needed
        rw [canTakeRequest, decide_eq_false absent, Bool.false_or] at able
        exact of_decide_eq_true able
  unfold afterAcceptance
  cases k with
  | slash => exact sendResult_quiet u p tag lug
  | regrade =>
    dsimp only
    split
    · exact Quiet.refl u
    · exact sendResult_quiet u p tag lug
  | gradeSet | gradeDown | lengthLimit | cancel =>
    dsimp only
    split
    · exact asked (by simp) (by simp) ‹_›
    · exact Quiet.refl u

/-- An accepted override: its record, its reply and its answer list, then what its kind asks for. -/
theorem acceptOverride_quiet {p : PanelId} {tag : Byte} {lug : LugNo} {k : OverrideKind} {value : Nat} {x : Piece}
    {s : State} (found : s.piece? lug = some x) (room : needsResolve k x = true → canTakeRequest lug s = true) :
    Quiet (updateAnswers p tag lug k (x.revision + 1) (answerOwed k x.solveState)
        (overrideReply p tag lug .accepted (x.revision + 1) (changePiece lug (fun y => y.accept p k value) s)))
      (acceptOverride p tag lug k value x s) := by
  refine afterAcceptance_quiet (y := x.accept p k value) ?_ ?_ rfl
  · intro needed
    have taken := room needed
    simpa [canTakeRequest, overrideReply] using taken
  · rw [piece?_of_chain (s := changePiece lug (fun y => y.accept p k value) s) (by simp),
      piece?_changePiece (f := fun y => y.accept p k value) fun _ h => (piece?_lug h :), found]
    rfl

theorem judgeOverride_listLaw {s : State} (h : ListLaw s) (p : PanelId) (tag : Byte) (lug : LugNo) (k : OverrideKind)
    (value : Nat) : ListLaw (judgeOverride p tag lug k value s) := by
  have answered : ∀ st r, ListLaw (overrideReply p tag lug st r s) := fun st r => h.of_quiet (answerPanel_quiet ..)
  unfold judgeOverride
  split
  · exact answered ..
  split
  · exact answered ..
  · rename_i x found
    split
    · exact answered ..
    split
    · exact answered ..
    · rename_i room
      refine ListLaw.of_quiet (acceptOverride_quiet found fun needed => ?_) ?_
      · simpa [needed] using room
      · exact updateAnswers_listLaw (h.of_quiet ((changePiece_quiet s lug _).trans (answerPanel_quiet ..))) ..

/-! ### The reply list (R173, R174) -/

/-- The arbiter begins the oldest reply, or else a notice. -/
theorem arbitrate_quiet (s : State) : Quiet s (arbitrate s) := by
  refine { Quiet.of_blocks (s := s) (t := { arbitrate s with link := s.link }) (by simp) (by simp) (by simp) rfl with
    link := ?_ }
  cases free : s.link.sending with
  | some x => rw [arbitrate_busy s free]; exact .refl _
  | none =>
    rw [arbitrate_link_free s free]
    unfold Link.next
    split
    · rename_i replies
      refine ⟨rfl, rfl, rfl, fun q begun => .inr ?_, id⟩
      cases begun
      rw [replies]; rfl
    · rename_i notices
      refine ⟨rfl, rfl, rfl, fun q begun => (by cases begun), fun bound => ?_⟩
      rw [notices] at bound
      exact Nat.le_of_succ_le bound
    · exact ⟨rfl, rfl, rfl, fun q begun => (by cases begun), id⟩

/-- A BUSY reply stands behind the others while 4 requests wait and fewer than 8 replies are made or owed. -/
theorem replyLaw_busy {l : Link} {r : Reply} (h : ReplyLaw l) (full : l.requests.length = 4) (own : r.own = false)
    (room : l.replies.length + (if l.taken = false ∧ l.requests ≠ [] then 1 else 0) < 8) :
    ReplyLaw { l with replies := l.replies ++ [r] } where
  bound := by simp only [List.length_append, List.length_singleton]; omega
  sending q begun := by
    have first := h.sending q begun
    cases old : l.replies <;> simp_all
  taken is := by
    obtain ⟨some, before, after, q, split, owned, others, _⟩ := h.taken is
    refine ⟨some, before, after ++ [r], q, by simp [split], owned, fun x hx => ?_, fun _ => full⟩
    simp only [List.mem_append, List.mem_singleton] at hx others
    rcases hx with hx | hx | rfl
    · exact others x (.inl hx)
    · exact others x (.inr hx)
    · exact own
  waiting not := by
    refine ⟨fun x hx => ?_, .inr (by simp [full])⟩
    rcases List.mem_append.mp hx with hx | hx
    · exact (h.waiting not).1 x hx
    · rw [List.mem_singleton.mp hx]; exact own

/-- A request joins while fewer than 4 wait. -/
theorem replyLaw_joined {l : Link} {f : Frame} (h : ReplyLaw l) (room : l.requests.length < 4) :
    ReplyLaw { l with requests := l.requests ++ [f] } where
  bound := by
    have bound := h.bound
    have waiting := h.waiting
    by_cases none : l.requests = []
    · by_cases taken : l.taken = true
      · exact absurd none (h.taken taken).1
      · have quiet := (waiting (by simpa using taken)).2
        simp [none] at quiet
        simp [quiet]
        split <;> omega
    · simpa [none] using bound
  sending := h.sending
  taken is := by
    obtain ⟨_, before, after, q, split, owned, others, last⟩ := h.taken is
    refine ⟨by simp, before, after, q, split, owned, others, fun some => ?_⟩
    have := last some
    omega
  waiting not := by
    refine ⟨(h.waiting not).1, ?_⟩
    rcases (h.waiting not).2 with none | three
    · exact .inl none
    · exact .inr (by simp only [List.length_append]; omega)

/-- The reply of the oldest request joins when it is taken. -/
theorem replyLaw_taken {l m : Link} {r : Reply} (h : ReplyLaw l) (not : l.taken = false) (some : l.requests ≠ [])
    (replies : m.replies = l.replies ++ [r]) (requests : m.requests = l.requests) (taken : m.taken = true)
    (sending : ∀ q, m.sending = .some (.reply q) → l.sending = .some (.reply q) ∨ m.replies.head? = .some q)
    (own : r.own = true) : ReplyLaw m where
  bound := by
    have bound := h.bound
    rw [if_pos ⟨not, some⟩] at bound
    rw [replies, taken]
    simpa using bound
  sending q begun := by
    rcases sending q begun with was | first
    · have old := h.sending q was
      rw [replies]
      cases stand : l.replies <;> simp_all
    · exact first
  taken _ := by
    refine ⟨requests ▸ some, l.replies, [], r, by simp [replies], own, fun x hx => ?_, fun none => absurd rfl none⟩
    exact (h.waiting not).1 x (by simpa using hx)
  waiting isnt := by rw [taken] at isnt; cases isnt

/-- A reply sent leaves the list, and a request's own reply takes its request out of the queue. -/
theorem replyLaw_sent {l : Link} {r : Reply} (h : ReplyLaw l) (begun : l.sending = some (.reply r)) :
    ReplyLaw (if r.own then
        { l with replies := l.replies.drop 1, sending := none, requests := l.requests.drop 1, taken := false }
      else { l with replies := l.replies.drop 1, sending := none }) := by
  have first := h.sending r begun
  obtain ⟨rest, replies⟩ : ∃ rest, l.replies = r :: rest := by
    cases old : l.replies <;> simp_all
  have bound := h.bound
  by_cases own : r.own = true
  · have taken : l.taken = true := by
      by_contra not
      have others := (h.waiting (by simpa using not)).1 r (by simp [replies])
      simp [own] at others
    obtain ⟨_, before, after, q, split, _, others, last⟩ := h.taken taken
    have none : before = [] := by
      cases before with
      | nil => rfl
      | cons b before =>
        rw [replies] at split
        cases split
        have := others r (by simp)
        simp [own] at this
    subst none
    obtain ⟨rfl, rfl⟩ : r = q ∧ rest = after := by simpa [replies] using split
    rw [if_pos own]
    refine ⟨?_, fun _ sent => (by cases sent), fun is => (by cases is), fun _ => ⟨?_, ?_⟩⟩
    · simp only [replies, List.length_cons, List.drop_succ_cons, List.drop_zero] at bound ⊢
      split <;> omega
    · simpa [replies] using others
    · by_cases some : rest = []
      · exact .inl (by simp [replies, some])
      · refine .inr ?_
        have four := last some
        simp [four]
  · rw [if_neg own]
    refine ⟨?_, fun _ sent => (by cases sent), fun is => ?_, fun not => ?_⟩
    · simp only [replies, List.length_cons, List.drop_succ_cons, List.drop_zero] at bound ⊢
      omega
    · obtain ⟨some, before, after, q, split, owned, others, last⟩ := h.taken is
      cases before with
      | nil =>
        rw [replies] at split
        cases split
        exact absurd owned own
      | cons b before =>
        rw [replies] at split
        cases split
        exact ⟨some, before, after, q, by simp [replies], owned, fun x hx => others x (by simp at hx ⊢; tauto), last⟩
    · obtain ⟨others, few⟩ := h.waiting not
      refine ⟨fun x hx => others x (List.mem_of_mem_drop hx), ?_⟩
      rcases few with none | three
      · simp [replies] at none
      · exact .inr three

/-! ### Every step -/

/-- A reply that joins, and the arbiter. -/
theorem makeReply_listLaw {s : State} {r : Reply} (h : ListLaw s)
    (reply : ReplyLaw { s.link with replies := s.link.replies ++ [r] }) : ListLaw (makeReply r s) :=
  ListLaw.of_quiet (arbitrate_quiet _) { h with reply := reply }

theorem hostHeard_listLaw {s : State} (h : ListLaw s) : ListLaw (hostHeard s) := by
  have weighed : Quiet (s.onLink fun l => { l with timer := 0, silent := false }) (hostHeard s) :=
    Quiet.of_blocks (by simp [hostHeard]) (by simp [hostHeard]) (by simp [hostHeard]) (by simp [hostHeard])
  exact ListLaw.of_quiet weighed { h with reply := { h.reply with } }

theorem waiting_isSome (s : State) : s.waiting.isSome = true ↔ s.link.taken = false ∧ s.link.requests ≠ [] := by
  unfold State.waiting
  cases s.link.taken <;> cases s.link.requests <;> simp

theorem receiveRequest_listLaw {s : State} (h : ListLaw s) (f : Frame) : ListLaw (receiveRequest f s) := by
  have heard := hostHeard_listLaw h
  unfold receiveRequest requestMax replyMax
  dsimp only
  generalize hostHeard s = u at heard ⊢
  split
  · rename_i room
    exact { heard with requests := by simpa using room, reply := replyLaw_joined heard.reply room }
  · rename_i full
    have four : u.link.requests.length = 4 := by have := heard.requests; omega
    split
    · rename_i room
      refine makeReply_listLaw heard (replyLaw_busy heard.reply four rfl ?_)
      simpa [State.repliesHeld, waiting_isSome] using room
    · exact heard.of_quiet (countFrameError_quiet u _)

theorem weighHost_quiet (s : State) : Quiet s (weighHost s) := by
  have set : Quiet s (setHostSilence s) := by
    have silent : Quiet s (s.onLink fun l => { l with silent := true }) :=
      onLink_quiet s ⟨rfl, rfl, rfl, fun _ => .inl, id⟩
    exact silent.trans (Quiet.of_blocks (by simp [setHostSilence]) (by simp [setHostSilence]) (by simp [setHostSilence])
      (by simp [setHostSilence]))
  unfold weighHost
  repeat' split
  · exact Quiet.refl s
  · exact set
  · exact Quiet.refl s

theorem cleared (s : State) : Quiet s (clearHeld s) := Quiet.of_blocks rfl rfl rfl rfl

theorem serve_quiet (u : State) : ServeKept (Quiet u) where
  clearCounters s q := q.trans { Quiet.refl s with link := ⟨rfl, rfl, rfl, fun _ => .inl, id⟩
                                                   ports := fun p => by cases p <;> exact id
                                                   answers := .refl _ }
  enterStandby s _ _ _ q := by
    refine Quiet.trans (Quiet.trans q ?_) (cleared _)
    refine Quiet.trans ?_ (clearSuspectNoticed_quiet _)
    exact Quiet.of_blocks (by simp) (by simp) (by simp) (by simp)
  toRun s _ q := q.trans (Quiet.of_blocks (by simp) (by simp) (by simp) (by simp))
  toStandby s _ q := q.trans (Quiet.of_blocks (by simp) (by simp) (by simp) (by simp))
  enterIdle s _ _ q := by
    refine (q.trans ?_).trans (takePending_quiet _)
    exact Quiet.of_blocks (by simp) (by simp) (by simp) (by simp)
  lineReset s q := q.trans (lineResetState_quiet s)
  takeGeometry g s _ _ _ q := by
    refine Quiet.trans (Quiet.trans ?_ (weighPanelTimer_quiet _ .p1)) ((weighPanelTimer_quiet _ .p2).trans (weighHost_quiet _))
    exact q.trans (Quiet.of_blocks rfl rfl rfl rfl)
  openSequence x kind s _ _ _ _ q :=
    q.trans (Quiet.of_blocks (by simp [openSequence]) (by simp [openSequence]) (by simp [openSequence])
      (by simp [openSequence]))
  storeEntries x kind offset es s _ q :=
    q.trans (Quiet.of_blocks (by simp [storeEntries]) (by simp [storeEntries]) (by simp [storeEntries])
      (by simp [storeEntries]))
  closeSequence x kind next b s _ q :=
    q.trans (Quiet.of_blocks (by simp [closeSequence, tableReply]) (by simp [closeSequence, tableReply])
      (by simp [closeSequence, tableReply]) (by simp [closeSequence, tableReply]))
  takeActivation x s _ _ _ q := q.trans (takeActivation_quiet s x)
  leavePending x s _ _ _ q := q.trans (Quiet.of_blocks rfl rfl rfl rfl)
  setCapacity bin _ _ s _ _ _ q := q.trans (changeBin_quiet s bin _ _)
  openBin _ s q := q.trans (Quiet.of_blocks rfl rfl rfl rfl)
  closeBin _ s q := q.trans (Quiet.of_blocks rfl rfl rfl rfl)
  emptied bin s q := q.trans (changeBin_quiet s bin _ _)
  outOfService bin s q := q.trans (takeOutOfService_quiet s bin)
  lastProfile _ s q := q.trans (onScan_quiet s id)
  clearSuspect s _ q := q.trans (clearSuspectNoticed_quiet s)
  leaveHalt s _ q := q.trans (Quiet.of_blocks (by simp) (by simp) (by simp) (by simp))
  tallyClose n s q := by
    refine (q.trans ?_).trans (queueNotice_quiet _ _)
    exact Quiet.of_blocks rfl rfl rfl rfl
  releaseSnapshot s q := q.trans (Quiet.of_blocks rfl rfl rfl rfl)

theorem takeRequest_listLaw {s : State} {f : Frame} (waits : s.waiting = some f) (h : ListLaw s) :
    ListLaw (takeRequest f s) := by
  obtain ⟨not, stands⟩ := (waiting_isSome s).mp (by rw [waits]; rfl)
  refine takeRequest_kept (P := ListLaw) (Q := Quiet s.serving) (.refl _) (fun r body t => (serve_quiet _).serve r body)
    fun r t q => ?_
  have law : ReplyLaw { t.link with replies := t.link.replies ++ [⟨r, true⟩] } :=
    replyLaw_taken h.reply not stands (by rw [q.link.replies]; rfl) (by rw [q.link.requests]; rfl)
      (by rw [q.link.taken]; rfl) (fun x begun => ?_) rfl
  · refine ListLaw.of_quiet (arbitrate_quiet _) ⟨q.history h.history, q.solver h.solver, fun p => q.ports p (h.ports p),
      q.link.notices h.notices, ?_, law⟩
    rw [State.onLink_link, q.link.requests]
    exact h.requests
  · rcases q.link.sending x begun with was | first
    · exact .inl was
    · have first' : t.link.replies.head? = some x := q.link.replies ▸ first
      refine .inr ?_
      cases replies : t.link.replies <;> simp_all

theorem replySent_listLaw {s : State} {r : Reply} (begun : s.link.sending = some (.reply r)) (h : ListLaw s) :
    ListLaw (replySent r s) := by
  have law := replyLaw_sent h.reply begun
  have fewer : (s.link.requests.drop 1).length ≤ 4 := by rw [List.length_drop]; have := h.requests; omega
  unfold replySent
  dsimp only
  split
  · rename_i own
    rw [if_pos own] at law
    have dropped : ListLaw ((s.onLink fun l => { l with replies := l.replies.drop 1, sending := none }).onLink fun l =>
        { l with requests := l.requests.drop 1, taken := false }) := { h with requests := fewer, reply := law }
    split
    · exact dropped.of_quiet (onScan_quiet _ id)
    · exact dropped
  · rename_i own
    rw [if_neg own] at law
    exact { h with reply := law }

theorem listLaw_reset (rate : Nat) (estop eye : Bool) (l : List Instr) :
    ListLaw { State.afterReset rate estop eye with pending := l } := by
  refine ⟨Nat.zero_le _, Nat.zero_le _, fun p => by cases p <;> exact Nat.zero_le _, Nat.zero_le _, Nat.zero_le _, ?_⟩
  refine ⟨by simp [State.afterReset], fun r begun => (by cases begun), fun taken => (by cases taken), fun _ => ?_⟩
  exact ⟨fun x hx => (by cases hx), .inl rfl⟩

theorem kept_listLaw : Kept ListLaw where
  fullReset rate estop s _ := listLaw_reset rate estop s.scan.eye s.pending
  chainTransition forward eye s h := h.of_quiet (chainTransition_quiet s forward eye)
  chainIllegal s h := by
    refine ListLaw.of_quiet ?_ h
    refine Quiet.trans ?_ (haltingFault_quiet _ _)
    exact Quiet.of_blocks rfl rfl rfl rfl
  clearError s h := h.of_quiet (Quiet.of_blocks (s := s) rfl rfl rfl rfl)
  endHold s h := h.of_quiet (Quiet.of_blocks (s := s) rfl rfl rfl rfl)
  judgeEdge eye s h := h.of_quiet (judgeEdge_quiet s eye)
  weighMissed eye s h := h.of_quiet (weighMissed_quiet s eye)
  assertEstop s h := by
    unfold assertEstop
    split
    · exact h
    · refine ListLaw.of_quiet ?_ h
      refine Quiet.trans ?_ (haltingFault_quiet _ _)
      exact Quiet.of_blocks rfl rfl rfl rfl
  releaseEstop s h := h.of_quiet (Quiet.of_blocks (s := s) rfl rfl rfl rfl)
  turnEntriesOn enc s h := h.of_quiet (Quiet.of_blocks (s := s) rfl rfl rfl rfl)
  endEntries enc s h := h.of_quiet (Quiet.of_blocks (s := s) rfl rfl rfl rfl)
  judgeSegment head body s h := h.of_quiet (judgeSegment_quiet s head body)
  completeConversion raw s h := h.of_quiet (completeConversion_quiet s raw)
  startSolve s h := h.of_quiet (startSolve_quiet s)
  completeSolve s h := h.of_quiet (completeSolve_quiet s)
  panelHeard p s h := h.of_quiet (panelHeard_quiet s p)
  answerPanel p kind tag body s h := h.of_quiet (answerPanel_quiet s p kind tag body)
  judgeOverride p tag lug k value s h := judgeOverride_listLaw h p tag lug k value
  panelSilent p s h := by
    refine ListLaw.of_quiet (weighPanelTimer_quiet _ p) (h.of_quiet (onPort_quiet p s fun _ => id))
  panelSent p s h := h.of_quiet (panelSent_quiet s p)
  tickPanel p s h := ListLaw.of_quiet (weighPanelTimer_quiet _ p) (h.of_quiet (onPort_quiet p s fun _ => id))
  logTransition forward s h := h.of_quiet (logTransition_quiet s forward)
  logEncoderFault s h := h.of_quiet (logEncoderFault_quiet s)
  weighKicks s h := h.of_quiet (weighKicks_quiet s)
  startLog s h := h.of_quiet (Quiet.of_blocks (by simp) (by simp) (by simp) (by simp))
  takeSection dx dy cx cy s h := h.of_quiet (Quiet.of_blocks (by simp) (by simp) (by simp) (by simp))
  endLog s h := h.of_quiet (Quiet.of_blocks (by simp) (by simp) (by simp) (by simp))
  countFrameError port s h := h.of_quiet (countFrameError_quiet s port)
  setReceiver port r s h := h.of_quiet (onLink_quiet s ⟨rfl, rfl, rfl, fun _ => .inl, id⟩)
  receiveRequest f s h := receiveRequest_listLaw h f
  takeRequest f s waits h := takeRequest_listLaw waits h
  hostTimerReached s h := by
    refine ListLaw.of_quiet (weighHost_quiet _) (h.of_quiet (onLink_quiet s ⟨rfl, rfl, rfl, fun _ => .inl, id⟩))
  tickHost s h := by
    refine ListLaw.of_quiet (weighHost_quiet _) (h.of_quiet (onLink_quiet s ⟨rfl, rfl, rfl, fun _ => .inl, id⟩))
  transmitDone s h := by
    unfold transmitDone
    split
    · exact h
    · refine ListLaw.of_quiet (arbitrate_quiet _) { h with reply := { h.reply with sending := ?_ } }
      exact fun r begun => (by cases begun)
    · rename_i r begun
      exact ListLaw.of_quiet (arbitrate_quiet _) (replySent_listLaw begun h)

end Sys2Proof.Machine
end

section
/-! PROOF. Every step keeps the bounds of the schedule, the logs, the permit record and the good-lug run (R10, R102,
R130, R155). -/

namespace Sys2Proof.Machine

/-- The bounds that calm operations keep. -/
structure ScheduleLaw (s : State) : Prop where
  schedule : s.output.held ≤ 48
  logQueue : s.logs.queue.length ≤ 8
  samples : ∀ r ∈ s.logs.queue, r.samples.length ≤ 256
  record : s.governor.record.length ≤ 2
  goodRun : s.chain.goodRun ≤ 255

theorem ScheduleLaw.of_calm {s t : State} (c : Calm s t) (h : ScheduleLaw s) : ScheduleLaw t :=
  ⟨c.held h.schedule, c.logCount.trans h.logQueue, c.samples h.samples, c.record h.record, c.goodRun h.goodRun⟩

/-- The causes weighed afresh leave the permit record or empty it. -/
theorem weighHold_record (s : State) : (weighHold s).governor.record = s.governor.record ∨
    (weighHold s).governor.record = [] := by
  rw [weighHold_eq]
  unfold Governor.held
  dsimp only
  split
  · exact .inr rfl
  · exact .inl rfl

theorem scheduleLaw_weighHold {s : State} (h : ScheduleLaw s) : ScheduleLaw (weighHold s) := by
  refine ⟨by simpa using h.schedule, by simpa using h.logQueue, by simpa using h.samples, ?_, by simpa using h.goodRun⟩
  rcases weighHold_record s with same | none
  · rw [same]; exact h.record
  · rw [none]; exact Nat.zero_le _

theorem scheduleLaw_takeActivation (x : BankId) {s : State} (h : ScheduleLaw s) : ScheduleLaw (takeActivation x s) := by
  obtain ⟨chain, output, logs, governor, _⟩ := activated_frame x s
  rw [takeActivation_eq]
  refine ScheduleLaw.of_calm (Calm.of_steady (queueNotice_steady _ _)) (scheduleLaw_weighHold ?_)
  refine ScheduleLaw.of_calm (adopted_calm _ _) ?_
  exact ⟨by rw [output]; exact h.schedule, by rw [logs]; exact h.logQueue, by rw [logs]; exact h.samples,
    by rw [governor]; exact h.record, by rw [chain]; exact h.goodRun⟩

theorem calmKept_scheduleLaw : CalmKept ScheduleLaw where
  calm s t c h := h.of_calm c
  fullReset rate estop eye l := ⟨Nat.zero_le _, Nat.zero_le _, fun r hr => (by cases hr), Nat.zero_le _, Nat.zero_le _⟩
  admission p s _ h := { h with }
  startLog s tracked room h := by
    rw [startLog_eq tracked room]
    refine { h with logQueue := ?_, samples := fun r hr => ?_ }
    · simpa using room
    · rcases List.mem_append.mp hr with hr | hr
      · exact h.samples r hr
      · rw [List.mem_singleton.mp hr]; exact Nat.zero_le _
  enterHalt cause s _ h := by
    have entered : ScheduleLaw (s.onLine fun l => { l with state := .halt, haltCause := some cause }) := { h with }
    have noticed := entered.of_calm (Calm.of_steady (lineEvent_steady _ .haltEntered (some (.halting cause))
      (some s.line.state)))
    have suspected := (noticed.of_calm (cancelAll_calm _)).of_calm (setSuspect_calm _ .halt)
    exact scheduleLaw_weighHold { suspected with }
  silence b s h := scheduleLaw_weighHold { h with }
  geometry g s h := { h with }
  takePending s h := by
    unfold takePending
    cases s.store.pendingBank with
    | none => exact h
    | some x => exact scheduleLaw_takeActivation x h
  takeActivation x s _ := scheduleLaw_takeActivation x
  setLine st s _ _ _ h := scheduleLaw_weighHold { h with }
  leaveHalt s _ h := scheduleLaw_weighHold { h with }
  lineReset s h := by
    have calm := h.of_calm ((finishAll_calm s).trans (cancelAll_calm _))
    refine scheduleLaw_weighHold ⟨?_, ?_, ?_, ?_, ?_⟩
    · simpa using calm.schedule
    · simpa using calm.logQueue
    · simpa using calm.samples
    · simp only [State.onGovernor_governor, Governor.lineReset]
      split <;> exact Nat.zero_le _
    · simp [resetBlocks]
  openSequence x kind s _ _ _ _ h := by
    cases x <;> exact { h with }
  storeEntries x kind offset es s _ h := by
    cases x <;> exact { h with }
  closeSequence x kind next b s _ h := by
    cases x <;> exact { h with }
  leavePending x s _ _ h := { h with }

end Sys2Proof.Machine
end

section
/-! PROOF. OUT_OF_SERVICE reroutes every piece bound for the bin (R118): what a reroute of each of a list of pieces leaves,
and the request as a whole. -/

namespace Sys2Proof.Machine

/-- The one record of a lug changed in a queue that names no lug twice is changed wherever it stands. -/
theorem changeFirst_lug_eq_map {l : List Piece} (distinct : (l.map Piece.lug).Nodup) (lug : LugNo) (f : Piece → Piece) :
    changeFirst (fun p => p.lug == lug) f l = l.map fun p => if p.lug = lug then f p else p := by
  induction l with
  | nil => rfl
  | cons p l ih =>
    rw [List.map_cons, List.nodup_cons] at distinct
    rw [changeFirst, List.map_cons]
    by_cases here : p.lug = lug
    · have rest : l.map (fun q => if q.lug = lug then f q else q) = l := by
        conv_rhs => rw [← List.map_id l]
        refine List.map_congr_left fun q hq => if_neg fun same => distinct.1 ?_
        rw [here, ← same]
        exact List.mem_map_of_mem hq
      simp [here, rest]
    · simp [here, ih distinct.2]

/-- A record rerouted to the run-out (R118 step 1). -/
def Piece.rerouted (p : Piece) : Piece := { p with dest := some .runOut, outcome := some .runOut }

/-- The pieces of a list of lugs rerouted, one after another (R118). -/
def reroutes (bin : Nat) (l : List LugNo) (s : State) : State := l.foldl (fun t lug => reroute bin lug t) s

theorem reroutes_pieces (bin : Nat) (l : List LugNo) (s : State) (distinct : (s.chain.pieces.map Piece.lug).Nodup) :
    (reroutes bin l s).chain = { s.chain with
      pieces := s.chain.pieces.map fun p => if p.lug ∈ l then p.rerouted else p } := by
  induction l generalizing s with
  | nil => simp [reroutes]
  | cons lug l ih =>
    have first : (reroute bin lug s).chain = { s.chain with
        pieces := s.chain.pieces.map fun p => if p.lug = lug then p.rerouted else p } := by
      rw [← changeFirst_lug_eq_map distinct]; rfl
    have lugs : (reroute bin lug s).chain.pieces.map Piece.lug = s.chain.pieces.map Piece.lug := by
      rw [first, List.map_map]
      refine List.map_congr_left fun p _ => ?_
      simp only [Function.comp]
      split <;> rfl
    have step : reroutes bin (lug :: l) s = reroutes bin l (reroute bin lug s) := rfl
    have both : (s.chain.pieces.map fun p => if p.lug = lug then p.rerouted else p).map
        (fun p => if p.lug ∈ l then p.rerouted else p) =
        s.chain.pieces.map fun p => if p.lug ∈ lug :: l then p.rerouted else p := by
      rw [List.map_map]
      refine List.map_congr_left fun p _ => ?_
      by_cases here : p.lug = lug
      · simp [here, Piece.rerouted]
      · simp [here]
    rw [step, ih _ (lugs ▸ distinct), first, ← both]

theorem reroutes_bins (bin : Nat) (l : List LugNo) (s : State) :
    (reroutes bin l s).bins = setAt s.bins bin fun x => { x with reserved := x.reserved - l.length } := by
  induction l generalizing s with
  | nil => exact (List.modify_id _ _).symm
  | cons lug l ih =>
    have step : reroutes bin (lug :: l) s = reroutes bin l (reroute bin lug s) := rfl
    have first : (reroute bin lug s).bins = setAt s.bins bin fun x => { x with reserved := x.reserved - 1 } := by
      simp [reroute]
    rw [step, ih, first, setAt, setAt, setAt, List.modify_modify_eq]
    congr 1
    funext x
    simp only [Function.comp, List.length_cons, Nat.sub_sub, Nat.add_comm 1]

theorem reroutes_output_chain (bin : Nat) (l : List LugNo) (s : State) : (reroutes bin l s).output.chain =
    s.output.chain.filter fun e => e.on || !l.contains e.owner || e.kind != .gate := by
  induction l generalizing s with
  | nil => simp [reroutes]
  | cons lug l ih =>
    have step : reroutes bin (lug :: l) s = reroutes bin l (reroute bin lug s) := rfl
    have first : (reroute bin lug s).output.chain =
        s.output.chain.filter fun e => e.on || e.owner != lug || e.kind != .gate := rfl
    rw [step, ih, first, List.filter_filter]
    refine List.filter_congr fun e _ => ?_
    rw [List.contains_cons]
    cases e.on <;> cases same : e.owner == lug <;> cases e.kind != .gate <;> simp [bne, same]

theorem reroutes_frame (bin : Nat) (l : List LugNo) (s : State) :
    (reroutes bin l s).output.log = s.output.log ∧ (reroutes bin l s).link = s.link ∧
    (reroutes bin l s).governor = s.governor ∧ (reroutes bin l s).line = s.line ∧
    reroutes bin l s = { s with chain := (reroutes bin l s).chain, bins := (reroutes bin l s).bins
                                output := (reroutes bin l s).output } := by
  induction l generalizing s with
  | nil => exact ⟨rfl, rfl, rfl, rfl, rfl⟩
  | cons lug l ih =>
    obtain ⟨log, link, governor, line, rest⟩ := ih (reroute bin lug s)
    refine ⟨log, link, governor, line, ?_⟩
    have step : reroutes bin (lug :: l) s = reroutes bin l (reroute bin lug s) := rfl
    rw [step, rest]
    rfl

/-- A bin changed in anything but its full flag, in terms of what it becomes. -/
theorem changeBin_becomes {s : State} {i : Nat} {x y : Bin} {f : Bin → Bin} (cause : BinCause) (h : s.bins[i]? = some x)
    (flag : (f x).full = x.full) (becomes : y = { f x with full := (f x).fullNow }) :
    (changeBin i f cause s).bins = s.bins.set i y ∧ (changeBin i f cause s).link = s.binLink i x y cause ∧
    OnlyPressure s (changeBin i f cause s) ∧ changeBin i f cause s = { s with
      bins := (changeBin i f cause s).bins, link := (changeBin i f cause s).link
      governor := (changeBin i f cause s).governor } := by
  subst becomes
  exact changeBin_spec cause h flag

/-- Settles O59: the pieces bound for the bin rerouted, its reservations given up, and the bin changed once. -/
theorem binGoesOutOfService : Obligations.BinGoesOutOfService := by
  intro s tag bin value x y bound waits present distinct named changed
  have pieces := reroutes_pieces bin.toNat bound s.serving distinct
  have bins := reroutes_bins bin.toNat bound s.serving
  obtain ⟨log, link, governor, line, frame⟩ := reroutes_frame bin.toNat bound s.serving
  generalize hu : reroutes bin.toNat bound s.serving = u at *
  have stands : u.bins[bin.toNat]? = some { x with reserved := x.reserved - bound.length } := by
    rw [bins]; exact setAt_getElem?_self _ present
  have done : binAction bin.toNat x .outOfService value.toNat s.serving =
      some (changeBin bin.toNat (fun b => { b with state := .outOfService }) .outOfService u) := by
    rw [← hu, named]; rfl
  obtain ⟨binsAfter, linkAfter, pressure, frameAfter⟩ :=
    changeBin_becomes (f := fun b => { b with state := .outOfService }) .outOfService stands rfl changed
  have same : u.binLink bin.toNat { x with reserved := x.reserved - bound.length } y .outOfService =
      s.serving.binLink bin.toNat x y .outOfService := by
    simp only [State.binLink, Link.binNoticed, link, pieces]
  rw [same, State.binLink_serving] at linkAfter
  have there : (changeBin bin.toNat (fun b => { b with state := .outOfService }) .outOfService u).bins[bin.toNat]? =
      some y := by
    rw [binsAfter]; exact List.getElem?_set_self (List.getElem?_eq_some_iff.mp stands).1
  refine ⟨_, (exec_binAction_request (by simp) s).trans (congrArg Host.Outcome.next
    (binRequest_carried_out waits present rfl done there (by rw [linkAfter]))), ?_, ?_, ?_, ?_, ?_, ?_, ?_⟩
  · unfold OnlyPressure at pressure ⊢
    rw [governor] at pressure
    exact pressure
  · rw [frameAfter]
    refine pieces.trans ?_
    have rerouted : s.chain.pieces.map (fun p => if p.lug ∈ bound then p.rerouted else p) =
        s.chain.pieces.map fun p => if p.dest = some (.bin bin.toNat) then p.rerouted else p := by
      refine List.map_congr_left fun p hp => ?_
      have same : p.lug ∈ bound ↔ p.dest = some (.bin bin.toNat) := by
        rw [named, List.mem_map]
        constructor
        · rintro ⟨q, hq, lug⟩
          obtain ⟨stands, dest⟩ := List.mem_filter.mp hq
          rw [← List.inj_on_of_nodup_map distinct stands hp lug]
          exact eq_of_beq dest
        · intro dest
          exact ⟨p, List.mem_filter.mpr ⟨hp, by simp [dest]⟩, rfl⟩
      simp only [same]
    exact congrArg (fun l => { s.chain with pieces := l }) rerouted
  · refine binsAfter.trans ?_
    rw [bins, setAt_eq_set _ _ _ _ (show s.serving.bins[bin.toNat]? = some x from present), List.set_set]
    rfl
  · rw [frameAfter, ← hu]
    exact reroutes_output_chain ..
  · rw [frameAfter]
    exact log
  · rw [linkAfter]
    rfl
  · generalize changeBin bin.toNat _ _ u = v at *
    apply State.eq_of_blocks
    case chain | output | bins | governor | link => rfl
    all_goals
      rw [frameAfter, frame]
      rfl

end Sys2Proof.Machine
end

section
/-! SUPPORT. The laws of the pieces in flight (R13, R16, R88, R112, R118, R121, R178): the law of one record at its
position, of one bin with its reservations, and of the answers owed; and how they pass when one record changes. -/

namespace Sys2Proof.Machine

/-! ### One record at its position -/

/-- How far a record may still be behind its commit, its bin's drop and the run-out, in lugs: 0 between advances, and 1
where the advance has moved it and its station has not acted yet. -/
structure Slack where
  commit : Nat
  drop : Nat
  runOut : Nat

/-- Every record between two advances. -/
def Slack.settled : Slack := ⟨0, 0, 0⟩

/-- The law of a record `n` lugs past the scan station (R13, R118, R178). -/
structure Piece.InPlace (g : Geometry) (n : Nat) (k : Slack) (p : Piece) : Prop where
  standing : n < g.runOut + k.runOut
  uncommitted : p.isCommitted = false → n < g.commit + k.commit ∧ p.dest = none
  committed : p.stage = .committed ∨ p.stage = .pastSaw → g.commit + k.commit ≤ n
  bound : ∀ b, p.dest = some (.bin b) → (p.stage = .committed ∨ p.stage = .pastSaw) ∧ p.suspect = none ∧
    (∃ l r grade product value, p.decision = some (.keep l r grade product value)) ∧ n < g.drops.getD b 0 + k.drop

theorem Piece.isCommitted_eq_false {p : Piece} : p.isCommitted = false ↔ p.stage = .scanning ∨ p.stage = .closed := by
  cases stage : p.stage <;> simp [Piece.isCommitted, stage]

@[simp] theorem Piece.steady_isCommitted (p : Piece) : p.steady.isCommitted = p.isCommitted := by
  unfold Piece.isCommitted Piece.steady
  cases stage : p.stage <;> simp [Piece.isCommitted, stage]

/-- The law speaks of the steady part of a record alone. -/
theorem Piece.InPlace.steady_iff (g : Geometry) (n : Nat) (k : Slack) (p : Piece) :
    p.steady.InPlace g n k ↔ p.InPlace g n k := by
  have stage : (p.steady.stage = .committed ∨ p.steady.stage = .pastSaw) ↔
      (p.stage = .committed ∨ p.stage = .pastSaw) := by
    unfold Piece.steady
    cases h : p.stage <;> simp [Piece.isCommitted, h]
  have decision : p.stage = .committed ∨ p.stage = .pastSaw → p.steady.decision = p.decision := by
    rintro (h | h) <;> simp [Piece.steady, Piece.isCommitted, h]
  constructor
  · intro h
    refine ⟨h.standing, fun open_ => h.uncommitted (by rwa [Piece.steady_isCommitted]), fun c => h.committed (stage.mpr c),
      fun b hb => ?_⟩
    obtain ⟨committed, suspect, keep, n⟩ := h.bound b hb
    exact ⟨stage.mp committed, suspect, decision (stage.mp committed) ▸ keep, n⟩
  · intro h
    refine ⟨h.standing, fun open_ => h.uncommitted (by rwa [Piece.steady_isCommitted] at open_),
      fun c => h.committed (stage.mp c), fun b hb => ?_⟩
    obtain ⟨committed, suspect, keep, n⟩ := h.bound b hb
    exact ⟨stage.mpr committed, suspect, (decision committed).symm ▸ keep, n⟩

/-! ### The bins (R112, R118, R121) -/

/-- The records bound for bin `b`. -/
def boundFor (b : Nat) (l : List Piece) : Nat := l.countP fun p => p.dest == some (.bin b)

/-- The law of a bin that `n` records are bound for. -/
structure Bin.Sound (n : Nat) (x : Bin) : Prop where
  room : x.count + x.reserved ≤ x.capacity ∧ x.capacity ≤ 65535
  full : x.full = decide (x.capacity ≤ x.count + x.reserved)
  reserved : x.reserved = n
  outOfService : x.state = .outOfService → x.reserved = 0

/-- The law of the bins and the records bound for them. -/
structure BinsSound (bins : List Bin) (l : List Piece) : Prop where
  number : bins.length = 48
  each : ∀ (b : Nat) (x : Bin), bins[b]? = some x → x.Sound (boundFor b l)

theorem BinsSound.of_bound {bins : List Bin} {l m : List Piece} (h : BinsSound bins l)
    (same : ∀ b, boundFor b m = boundFor b l) : BinsSound bins m :=
  ⟨h.number, fun b x hx => by rw [same]; exact h.each b x hx⟩

/-- One bin changed, with the records bound for it alone. -/
theorem BinsSound.setAt {bins : List Bin} {l m : List Piece} {i : Nat} {f : Bin → Bin} (h : BinsSound bins l)
    (others : ∀ b, b ≠ i → boundFor b m = boundFor b l)
    (this : ∀ x, bins[i]? = some x → x.Sound (boundFor i l) → (f x).Sound (boundFor i m)) :
    BinsSound (setAt bins i f) m := by
  refine ⟨by simp [Machine.setAt, h.number], fun b x hx => ?_⟩
  rw [Machine.setAt, List.getElem?_modify] at hx
  by_cases here : i = b
  · subst here
    obtain ⟨y, hy, rfl⟩ := Option.map_eq_some_iff.mp hx
    simp only [if_true]
    exact this y hy (h.each i y hy)
  · have same : bins[b]? = some x := by simpa [here] using hx
    rw [others b (Ne.symm here)]
    exact h.each b x same

/-- What a change of a bin with its flag weighed leaves of the bins. -/
theorem changeBin_bins (i : Nat) (f : Bin → Bin) (cause : BinCause) (s : State) :
    (changeBin i f cause s).bins = setAt s.bins i fun x => { f x with full := (f x).fullNow } := by
  unfold changeBin
  cases h : s.bins[i]? with
  | none =>
    have short : s.bins.length ≤ i := List.getElem?_eq_none_iff.mp h
    rw [weighBin_absent] <;> simp [setAt, List.modify_eq_self, short]
  | some x =>
    obtain ⟨bins, _⟩ := weighBin_spec i cause (s.onBins fun l => setAt l i f) (f x) (setAt_getElem?_self f h)
    rw [bins]
    simp only [State.onBins_bins, setAt_eq_set _ _ _ _ h, List.set_set]

/-! ### The records in flight, the bins and the answers -/

/-- An answer may be owed for lug `l`: its record has not committed (R88). -/
def State.owable (s : State) (l : LugNo) : Prop := ∃ p ∈ s.chain.pieces, p.lug = l ∧ p.isCommitted = false

/-- The laws of the records in flight with the slack of each lug. -/
structure InFlight (slack : LugNo → Slack) (s : State) : Prop where
  distinct : (s.chain.pieces.map Piece.lug).Nodup
  pieces : ∀ g, s.store.geometry = some g → ∀ p ∈ s.chain.pieces, p.InPlace g (s.position p.lug) (slack p.lug)
  bins : BinsSound s.bins s.chain.pieces
  answers : (s.panels.answers.map Answer.lug).Nodup
  owed : ∀ a ∈ s.panels.answers, s.owable a.lug

/-- From `s` to `t` the steady part of the records, the lug number, the bins, the line state and the geometry stay. -/
structure SamePlace (s t : State) : Prop where
  pieces : t.chain.pieces.map Piece.steady = s.chain.pieces.map Piece.steady
  lug : t.chain.lug = s.chain.lug
  bins : t.bins = s.bins
  line : t.line.state = s.line.state
  geometry : t.store.geometry = s.store.geometry

theorem SamePlace.of_steady {s t : State} (h : t.steady = s.steady) : SamePlace s t where
  pieces := congrArg (fun x => x.chain.pieces) h
  lug := congrArg (fun x => x.chain.lug) h
  bins := congrArg (fun x => x.bins) h
  line := congrArg (fun x => x.line.state) h
  geometry := congrArg (fun x => x.store.geometry) h

theorem SamePlace.refl (s : State) : SamePlace s s := ⟨rfl, rfl, rfl, rfl, rfl⟩

theorem SamePlace.trans {s t u : State} (h : SamePlace s t) (k : SamePlace t u) : SamePlace s u :=
  ⟨k.pieces.trans h.pieces, k.lug.trans h.lug, k.bins.trans h.bins, k.line.trans h.line, k.geometry.trans h.geometry⟩

/-- An operation that leaves the blocks of the law. -/
theorem SamePlace.of_blocks {s t : State} (pieces : t.chain.pieces = s.chain.pieces) (lug : t.chain.lug = s.chain.lug)
    (bins : t.bins = s.bins) (line : t.line.state = s.line.state) (geometry : t.store.geometry = s.store.geometry) :
    SamePlace s t := ⟨by rw [pieces], lug, bins, line, geometry⟩

theorem steady_lugs (l : List Piece) : (l.map Piece.steady).map Piece.lug = l.map Piece.lug := by
  rw [List.map_map]; rfl

theorem boundFor_steady (b : Nat) (l : List Piece) : boundFor b (l.map Piece.steady) = boundFor b l := by
  rw [boundFor, List.countP_map]; rfl

theorem SamePlace.owable {s t : State} (h : SamePlace s t) (l : LugNo) : t.owable l ↔ s.owable l := by
  have one : ∀ u : State, u.owable l ↔ ∃ p ∈ u.chain.pieces.map Piece.steady, p.lug = l ∧ p.isCommitted = false := by
    intro u
    simp only [State.owable, List.mem_map, exists_exists_and_eq_and, Piece.steady_isCommitted]
    rfl
  rw [one, one, h.pieces]

/-- The laws pass where the steady parts stay and no new answer is owed. -/
theorem InFlight.of_same {slack : LugNo → Slack} {s t : State} (same : SamePlace s t)
    (answers : t.panels.answers.Sublist s.panels.answers) (h : InFlight slack s) : InFlight slack t where
  distinct := by rw [← steady_lugs, same.pieces, steady_lugs]; exact h.distinct
  pieces g hg p hp := by
    have present : p.steady ∈ s.chain.pieces.map Piece.steady := same.pieces ▸ List.mem_map_of_mem hp
    obtain ⟨q, hq, eq⟩ := List.mem_map.mp present
    have lug : q.lug = p.lug := congrArg (fun x => x.lug) eq
    have law := h.pieces g (same.geometry ▸ hg) q hq
    rw [← Piece.InPlace.steady_iff, eq, Piece.InPlace.steady_iff] at law
    rw [State.position, same.lug, ← State.position, ← lug]
    exact law
  bins := by
    rw [same.bins]
    exact h.bins.of_bound fun b => by rw [← boundFor_steady, same.pieces, boundFor_steady]
  answers := h.answers.sublist (answers.map _)
  owed a ha := (same.owable a.lug).mpr (h.owed a (answers.subset ha))

/-! ### One record changed or removed -/

/-- A record found by its lug stands in the queue between records of other lugs before it and the rest. -/
theorem State.split_of_piece? {s : State} {lug : LugNo} {p : Piece} (found : s.piece? lug = some p) :
    ∃ before after, s.chain.pieces = before ++ p :: after ∧ p.lug = lug ∧
      (∀ f : Piece → Piece, changeFirst (fun q => q.lug == lug) f s.chain.pieces = before ++ f p :: after) ∧
      s.chain.pieces.eraseP (fun q => q.lug == lug) = before ++ after := by
  obtain ⟨is, before, after, split, none⟩ := List.find?_eq_some_iff_append.mp found
  refine ⟨before, after, split, eq_of_beq is, fun f => ?_, ?_⟩
  · rw [split]
    clear found split
    induction before with
    | nil => simp [changeFirst, is]
    | cons q before ih =>
      have other : (q.lug == lug) = false := by simpa using none q List.mem_cons_self
      rw [List.cons_append, changeFirst, other]
      simp [ih fun r hr => none r (List.mem_cons_of_mem _ hr)]
  · rw [split, List.eraseP_append_right _ (fun q hq => by simpa using none q hq),
      List.eraseP_cons_of_pos (p := fun q : Piece => q.lug == lug) is]

theorem boundFor_append_cons (b : Nat) (before after : List Piece) (p : Piece) :
    boundFor b (before ++ p :: after) = boundFor b (before ++ after) + if p.dest = some (.bin b) then 1 else 0 := by
  simp only [boundFor, List.countP_append, List.countP_cons, beq_iff_eq]
  omega

/-- The laws pass where one record alone changes, and meets its own law with the slack it then has. -/
theorem InFlight.replace {slack slack' : LugNo → Slack} {s t : State} {before after : List Piece} {p q : Piece}
    (h : InFlight slack s) (split : s.chain.pieces = before ++ p :: after)
    (now : t.chain.pieces = before ++ q :: after) (name : q.lug = p.lug) (lug : t.chain.lug = s.chain.lug)
    (geometry : t.store.geometry = s.store.geometry) (elsewhere : ∀ l, l ≠ p.lug → slack' l = slack l)
    (law : ∀ g, s.store.geometry = some g → q.InPlace g (s.position p.lug) (slack' p.lug))
    (bins : BinsSound t.bins t.chain.pieces) (answers : t.panels.answers.Sublist s.panels.answers)
    (open_ : q.isCommitted = false ∨ ∀ a ∈ t.panels.answers, a.lug ≠ p.lug) : InFlight slack' t where
  distinct := by
    have same : t.chain.pieces.map Piece.lug = s.chain.pieces.map Piece.lug := by simp [now, split, name]
    rw [same]; exact h.distinct
  pieces g hg r hr := by
    have distinct := h.distinct
    rw [split, List.map_append, List.map_cons, List.nodup_middle, List.nodup_cons] at distinct
    rw [State.position, lug, ← State.position]
    have others : r ∈ before ++ after ∨ r = q := by
      rw [now] at hr
      simp only [List.mem_append, List.mem_cons] at hr ⊢
      tauto
    rcases others with other | rfl
    · have ne : r.lug ≠ p.lug := fun same => distinct.1 (by
        rw [← same, ← List.map_append]; exact List.mem_map_of_mem other)
      rw [elsewhere _ ne]
      refine h.pieces g (geometry ▸ hg) r ?_
      rw [split]
      simp only [List.mem_append, List.mem_cons] at other ⊢
      tauto
    · rw [name]; exact law g (geometry ▸ hg)
  bins := bins
  answers := h.answers.sublist (answers.map _)
  owed a ha := by
    obtain ⟨r, hr, same, stillOpen⟩ := h.owed a (answers.subset ha)
    have others : r ∈ before ++ after ∨ r = p := by
      rw [split] at hr
      simp only [List.mem_append, List.mem_cons] at hr ⊢
      tauto
    rcases others with other | rfl
    · refine ⟨r, ?_, same, stillOpen⟩
      rw [now]
      simp only [List.mem_append, List.mem_cons] at other ⊢
      tauto
    · rcases open_ with openNow | none
      · exact ⟨q, by rw [now]; simp, name.trans same, openNow⟩
      · exact absurd same.symm (none a ha)

/-- The laws pass where one record alone leaves, one for which no answer is owed. -/
theorem InFlight.remove {slack : LugNo → Slack} {s t : State} {before after : List Piece} {p : Piece}
    (h : InFlight slack s) (split : s.chain.pieces = before ++ p :: after) (now : t.chain.pieces = before ++ after)
    (lug : t.chain.lug = s.chain.lug) (geometry : t.store.geometry = s.store.geometry)
    (bins : BinsSound t.bins t.chain.pieces) (answers : t.panels.answers.Sublist s.panels.answers)
    (gone : p.isCommitted = true ∨ ∀ a ∈ t.panels.answers, a.lug ≠ p.lug) : InFlight slack t where
  distinct := by
    have fewer : (before ++ after).Sublist (before ++ p :: after) :=
      List.Sublist.append_left (List.sublist_cons_self p after) before
    rw [now]
    exact h.distinct.sublist ((split ▸ fewer).map _)
  pieces g hg r hr := by
    rw [State.position, lug, ← State.position]
    refine h.pieces g (geometry ▸ hg) r ?_
    rw [now] at hr
    rw [split]
    simp only [List.mem_append, List.mem_cons] at hr ⊢
    tauto
  bins := bins
  answers := h.answers.sublist (answers.map _)
  owed a ha := by
    obtain ⟨r, hr, same, open_⟩ := h.owed a (answers.subset ha)
    have others : r ∈ before ++ after ∨ r = p := by
      rw [split] at hr
      simp only [List.mem_append, List.mem_cons] at hr ⊢
      tauto
    rcases others with other | rfl
    · exact ⟨r, now ▸ other, same, open_⟩
    · rcases gone with committed | none
      · rw [committed] at open_; cases open_
      · exact absurd same.symm (none a ha)

end Sys2Proof.Machine
end

section
/-! SUPPORT. The laws of the pieces in flight at the stations of one advance (R13): the commit, the saw line, the drop and
the run-out each take up the slack of the record that has come to it. -/

namespace Sys2Proof.Machine

variable {slack : LugNo → Slack} {s : State} {lug : LugNo}

/-! ### Slack taken up without a change of state -/

theorem InFlight.reslack {slack' : LugNo → Slack} (h : InFlight slack s)
    (law : ∀ g, s.store.geometry = some g → ∀ p ∈ s.chain.pieces, p.InPlace g (s.position p.lug) (slack p.lug) →
      p.InPlace g (s.position p.lug) (slack' p.lug)) : InFlight slack' s :=
  { h with pieces := fun g hg p hp => law g hg p hp (h.pieces g hg p hp) }

/-- The slack of one lug may change as its record allows. -/
theorem InFlight.reslack_one {k : Slack} (h : InFlight slack s)
    (law : ∀ g, s.store.geometry = some g → ∀ p ∈ s.chain.pieces, p.lug = lug →
      p.InPlace g (s.position lug) (slack lug) → p.InPlace g (s.position lug) k) :
    InFlight (Function.update slack lug k) s := by
  refine h.reslack fun g hg p hp inPlace => ?_
  by_cases here : p.lug = lug
  · subst here
    rw [Function.update_self]
    exact law g hg p hp rfl inPlace
  · rw [Function.update_of_ne here]
    exact inPlace

/-- A lug with no record has any slack. -/
theorem InFlight.reslack_absent {k : Slack} (h : InFlight slack s) (absent : ∀ p ∈ s.chain.pieces, p.lug ≠ lug) :
    InFlight (Function.update slack lug k) s :=
  h.reslack_one fun _ _ p hp here => absurd here (absent p hp)

theorem State.piece?_eq_none {s : State} {lug : LugNo} : s.piece? lug = none ↔ ∀ p ∈ s.chain.pieces, p.lug ≠ lug := by
  simp [State.piece?]

theorem State.piece?_mem {s : State} {lug : LugNo} {p : Piece} (found : s.piece? lug = some p) : p ∈ s.chain.pieces :=
  List.mem_of_find?_eq_some found

/-- In a queue that names no lug twice the record of a lug is the one found. -/
theorem InFlight.only (h : InFlight slack s) {p q : Piece} (found : s.piece? lug = some p) (hq : q ∈ s.chain.pieces)
    (name : q.lug = lug) : q = p :=
  List.inj_on_of_nodup_map h.distinct hq (State.piece?_mem found) (name.trans (piece?_lug found).symm)

/-- No answer is owed for a record that has committed (R88). -/
theorem InFlight.unowed (h : InFlight slack s) {p : Piece} (found : s.piece? lug = some p)
    (committed : p.isCommitted = true) : ∀ a ∈ s.panels.answers, a.lug ≠ lug := by
  intro a ha same
  obtain ⟨q, hq, name, open_⟩ := h.owed a ha
  rw [h.only found hq (name.trans same), committed] at open_
  cases open_

/-! ### A record finished (R18) -/

theorem finishPiece_removes {o : PieceOutcome} {p : Piece} {u : State} (found : u.piece? lug = some p) :
    (finishPiece lug o u).chain.pieces = u.chain.pieces.eraseP (fun q => q.lug == lug) := by
  simp [finishPiece, found]

/-- A committed record finished, the bins having given up its reservation. -/
theorem InFlight.finish {o : PieceOutcome} {p : Piece} {u : State} (h : InFlight slack s) (chain : u.chain = s.chain)
    (panels : u.panels = s.panels) (store : u.store = s.store) (found : s.piece? lug = some p)
    (committed : p.isCommitted = true)
    (bins : BinsSound u.bins (s.chain.pieces.eraseP fun q => q.lug == lug)) (k : Slack) :
    InFlight (Function.update slack lug k) (finishPiece lug o u) := by
  have foundNow : u.piece? lug = some p := (piece?_of_chain chain lug).trans found
  obtain ⟨before, after, split, name, _, erased⟩ := State.split_of_piece? found
  have now : (finishPiece lug o u).chain.pieces = before ++ after := by
    rw [finishPiece_removes foundNow, chain, erased]
  have removed : InFlight slack (finishPiece lug o u) := by
    refine h.remove split now ?_ ?_ ?_ ?_ (.inl committed)
    · simp [finishPiece, foundNow, chain]
    · simp [store]
    · rw [now, ← erased]; simpa using bins
    · simp [panels]
  refine removed.reslack_absent fun q hq same => ?_
  have distinct := h.distinct
  rw [split, List.map_append, List.map_cons, List.nodup_middle, List.nodup_cons, ← List.map_append] at distinct
  refine distinct.1 ?_
  rw [now] at hq
  rw [name, ← same]
  exact List.mem_map_of_mem hq

/-- The bins stand where a record leaves that is bound for none. -/
theorem InFlight.bins_unbound (h : InFlight slack s) {p : Piece} (found : s.piece? lug = some p)
    (unbound : ∀ b, p.dest ≠ some (.bin b)) : BinsSound s.bins (s.chain.pieces.eraseP fun q => q.lug == lug) := by
  obtain ⟨before, after, split, _, _, erased⟩ := State.split_of_piece? found
  refine h.bins.of_bound fun b => ?_
  rw [erased, split, boundFor_append_cons]
  simp [unbound b]

/-! ### The geometry in range (R178) -/

/-- What the range checks of a geometry set say of the stations. -/
structure Geometry.Ordered (g : Geometry) : Prop where
  commit : 3 ≤ g.commit
  saw : g.commit < g.sawLine
  drops : ∀ b, b < 48 → g.sawLine < g.drops.getD b 0 ∧ g.drops.getD b 0 < g.runOut ∧ g.drops[b]? = some (g.drops.getD b 0)
  runOut : g.runOut ≤ 127

theorem Geometry.ordered {g : Geometry} (inRange : g.firstBad = none) (drops : g.drops.length = 48) : g.Ordered := by
  have ok : ∀ i, i < 70 → g.itemOk i = true := fun i hi => Geometry.itemOk_of_inRange inRange hi
  have commit := ok 8 (by decide)
  have saw := ok 9 (by decide)
  have last := ok 62 (by decide)
  simp only [Geometry.itemOk, decide_eq_true_eq, Bool.and_eq_true, List.all_eq_true] at commit saw last
  refine ⟨commit.1, by omega, fun b hb => ?_, last.2⟩
  have there : g.drops[b]? = some (g.drops.getD b 0) := by
    rw [List.getD_eq_getElem?_getD, List.getElem?_eq_getElem (by omega)]; rfl
  have item := ok (12 + b) (by omega)
  have lower : g.sawLine + 1 ≤ g.drops.getD b 0 := by
    have here : 12 + b - 12 = b := by omega
    unfold Geometry.itemOk at item
    split at item <;> first | omega | (rw [here] at item; exact (of_decide_eq_true item).1)
  exact ⟨lower, last.1 _ (List.mem_of_getElem? there), there⟩

/-! ### The commit (R93 to R98) -/

/-- After a LAPSED no answer is owed for its lug (R90). -/
theorem payLapsed_answers (lug : LugNo) (why : LapseReason) (s : State) :
    ∀ a ∈ (payLapsed lug why s).panels.answers, a.lug ≠ lug := by
  intro a ha same
  unfold payLapsed at ha
  split at ha
  · rename_i absent
    have none := List.find?_eq_none.mp absent a ha
    simp [same] at none
  · rename_i owed _
    have kept : ∀ (p : PanelId) (kind : Byte) (body : List Byte) (t : State),
        (tellPanel p kind body t).panels.answers = t.panels.answers := fun p kind body t => by cases p <;> rfl
    rw [kept] at ha
    have other := (List.mem_filter.mp ha).2
    simp [same] at other

/-- A commit written on a state whose bins already hold the record's reservation. -/
theorem InFlight.commitWritten {p : Piece} {u : State} {d : Dest} {o : Option PieceOutcome} {full : Bool} {k : Slack}
    (h : InFlight slack s) (chain : u.chain = s.chain) (panels : u.panels = s.panels) (store : u.store = s.store)
    (found : s.piece? lug = some p)
    (law : ∀ g, s.store.geometry = some g → (p.committed d o full).InPlace g (s.position lug) k)
    (bins : BinsSound s.bins s.chain.pieces → BinsSound u.bins (p.committed d o full :: s.chain.pieces.eraseP
      fun q => q.lug == lug)) :
    InFlight (Function.update slack lug k) (writeCommit lug d o full u) := by
  obtain ⟨before, after, split, name, changed, erased⟩ := State.split_of_piece? found
  have written : Quiet u (writeCommit lug d o full u) := writeCommit_quiet u lug d o full
  have same : SamePlace (changePiece lug (fun p => p.committed d o full) u) (writeCommit lug d o full u) :=
    SamePlace.of_steady (by simp [writeCommit])
  have replaced : InFlight (Function.update slack lug k)
      ((changePiece lug (fun p => p.committed d o full) u).onPanels fun _ => (writeCommit lug d o full u).panels) := by
    refine h.replace (q := p.committed d o full) split ?_ rfl ?_ ?_ (fun l ne => ?_) ?_ ?_ ?_ (.inr ?_)
    · simp only [State.onPanels_chain, changePiece, State.onChain_chain, chain]
      exact changed _
    · simp [changePiece, chain]
    · simp [changePiece, store]
    · exact Function.update_of_ne (name ▸ ne) ..
    · rw [name, Function.update_self]; exact law
    · have pieces : (changePiece lug (fun p => p.committed d o full) u).chain.pieces =
          before ++ p.committed d o full :: after := by
        simp only [changePiece, State.onChain_chain, chain]
        exact changed _
      rw [State.onPanels_chain, pieces]
      refine (bins h.bins).of_bound fun b => ?_
      rw [erased, boundFor_append_cons]
      simp [boundFor, List.countP_cons]
    · exact panels ▸ written.answers
    · rw [name]; exact payLapsed_answers lug .committed _
  refine InFlight.of_same ?_ ?_ replaced
  · exact ⟨same.pieces, same.lug, same.bins, same.line, same.geometry⟩
  · exact .refl _

/-- A bin with room stands after one reservation more (R120), and is as it was once that is released again. -/
theorem Bin.Sound.reserve {n : Nat} {x : Bin} (h : x.Sound n) (available : x.available = true) :
    Bin.Sound (n + 1) { x with reserved := x.reserved + 1
                               full := Bin.fullNow { x with reserved := x.reserved + 1 } } := by
  simp only [Bin.available, Bool.and_eq_true, decide_eq_true_eq] at available
  refine ⟨⟨by dsimp only; omega, h.room.2⟩, rfl, by rw [← h.reserved], fun out => ?_⟩
  rw [available.1] at out
  cases out

theorem Bin.Sound.release {n : Nat} {x : Bin} (h : x.Sound (n + 1)) :
    Bin.Sound n { x with reserved := x.reserved - 1, full := Bin.fullNow { x with reserved := x.reserved - 1 } } := by
  have room := h.room
  have reserved := h.reserved
  exact ⟨⟨by dsimp only; omega, room.2⟩, rfl, by dsimp only; omega, fun out => by have := h.outOfService out; dsimp only; omega⟩

/-- The bin a commit reserves names an available bin and a KEEP decision of an unsuspect piece (R94, R120). -/
theorem reservationOf_some {p : Piece} {b : Nat} (line : LineState) (h : reservationOf (pathOf line p) s p = some b) :
    (∃ x, s.bins[b]? = some x ∧ x.available = true) ∧ p.suspect = none ∧
      ∃ l r grade product value, p.decision = some (.keep l r grade product value) := by
  have available : ∀ named, binAvailable s named = true → named = some b → ∃ x, s.bins[b]? = some x ∧
      x.available = true := by
    rintro named able rfl
    cases hx : s.bins[b]? with
    | none => simp [binAvailable, hx] at able
    | some x => exact ⟨x, rfl, by simpa [binAvailable, hx] using able⟩
  unfold reservationOf pathOf at h
  split at h
  · rename_i path
    split at path
    · cases path
    rename_i unsuspect
    refine ⟨?_, by simpa using unsuspect, ?_⟩
    · unfold binFor at h
      repeat' split at h
      all_goals first | cases h | exact available _ ‹_› h
    · unfold binFor at h
      split at h
      · exact ⟨_, _, _, _, _, ‹_›⟩
      · cases h
  · cases h

/-- The commit of a record that has come to the commit station, and one that has not. -/
theorem InFlight.commit {g : Geometry} (h : InFlight slack s) (loaded : s.store.geometry = some g) (ordered : g.Ordered)
    (c : Count) (k : slack lug = ⟨1, 1, 1⟩) : InFlight (Function.update slack lug ⟨0, 1, 1⟩)
      (onlyIf (s.position lug == g.commit) (commitPiece g c lug) s) := by
  by_cases here : s.position lug = g.commit
  · rw [onlyIf, if_pos (beq_iff_eq.mpr here)]
    unfold commitPiece
    cases found : s.piece? lug with
    | none => exact h.reslack_absent (State.piece?_eq_none.mp found)
    | some p =>
      have inPlace := h.pieces g loaded p (State.piece?_mem found)
      rw [piece?_lug found, k, here] at inPlace
      have early : ¬ (p.stage = .committed ∨ p.stage = .pastSaw) := fun stage => by
        have := inPlace.committed stage
        simp at this
      have unbound : ∀ b, p.dest ≠ some (.bin b) := fun b dest => early (inPlace.bound b dest).1
      have law : ∀ d o full, (∀ b, d = .bin b → b < 48 ∧ p.suspect = none ∧
          ∃ l r grade product value, p.decision = some (.keep l r grade product value)) → ∀ g', s.store.geometry = some g' →
          (p.committed d o full).InPlace g' (s.position lug) ⟨0, 1, 1⟩ := by
        intro d o full bound g' hg'
        cases loaded.symm.trans hg'
        rw [here]
        refine ⟨?_, fun open_ => ?_, fun _ => le_rfl, fun b dest => ?_⟩
        · have := ordered.drops 0 (by decide); have := ordered.saw; dsimp only; omega
        · simp [Piece.isCommitted, Piece.committed] at open_
        · obtain ⟨lt, suspect, keep⟩ := bound b (Option.some.inj dest)
          refine ⟨.inl rfl, suspect, keep, ?_⟩
          have := ordered.drops b lt; have := ordered.saw; dsimp only; omega
      have rest : ∀ (d : Dest) (o : Option PieceOutcome) (full : Bool) (b : Nat),
          boundFor b (p.committed d o full :: s.chain.pieces.eraseP fun q => q.lug == lug) =
            boundFor b s.chain.pieces + if d = .bin b then 1 else 0 := by
        intro d o full b
        obtain ⟨before, after, split, _, _, erased⟩ := State.split_of_piece? found
        rw [erased, split, boundFor_append_cons, if_neg (unbound b)]
        simp [boundFor, List.countP_cons, Piece.committed]
      have passed : ∀ (o : Option PieceOutcome) (full : Bool), BinsSound s.bins s.chain.pieces →
          BinsSound s.bins (p.committed .runOut o full :: s.chain.pieces.eraseP fun q => q.lug == lug) :=
        fun o full sound => sound.of_bound fun b => by rw [rest]; simp
      dsimp only
      cases reserved : reservationOf (pathOf s.line.state p) s p with
      | none =>
        dsimp only [Option.elim]
        split
        · exact h.commitWritten rfl rfl rfl found (law .runOut _ _ fun b d => (by cases d)) (passed _ _)
        · split
          · rename_i taken
            obtain ⟨chain, _, _, _, panels, bins, _, _, _, _, _, store, _⟩ := addEntries_frame taken
            exact h.commitWritten chain panels store found (law .runOut _ _ fun b d => (by cases d)) (by
              rw [bins]; exact passed _ _)
          · exact h.commitWritten rfl rfl rfl found (law .runOut _ _ fun b d => (by cases d)) (passed _ _)
      | some b =>
        obtain ⟨⟨x, there, available⟩, suspect, keep⟩ := reservationOf_some s.line.state reserved
        have inRange : b < 48 := h.bins.number ▸ (List.getElem?_eq_some_iff.mp there).1
        have taken : ∀ (o : Option PieceOutcome) (full : Bool), BinsSound s.bins s.chain.pieces →
            BinsSound (reserveBin b s).bins
              (p.committed (.bin b) o full :: s.chain.pieces.eraseP fun q => q.lug == lug) := by
          intro o full sound
          rw [reserveBin, changeBin_bins]
          refine sound.setAt (fun b' ne => ?_) fun y hy sound => ?_
          · rw [rest]; simp [ne.symm]
          · cases there.symm.trans hy
            rw [rest, if_pos rfl]
            exact sound.reserve available
        dsimp only [Option.elim]
        split
        · rename_i empty
          simp at empty
        · split
          · rename_i joined
            obtain ⟨chain, _, _, _, panels, bins, _, _, _, _, _, store, _⟩ := addEntries_frame joined
            refine h.commitWritten (chain.trans (by simp)) (panels.trans (by simp)) (store.trans (by simp)) found
              (law (.bin b) _ _ fun b' d => ?_) (by rw [bins]; exact taken _ _)
            cases d
            exact ⟨inRange, suspect, keep⟩
          · refine h.commitWritten (by simp) (by simp) (by simp) found (law .runOut _ _ fun b d => (by cases d)) ?_
            intro sound
            rw [show (countFault .scheduleFull (releaseBin b (reserveBin b s))).bins = (releaseBin b (reserveBin b s)).bins
              from rfl, releaseBin, changeBin_bins]
            refine (taken none false sound).setAt (fun b' ne => ?_) fun y _ sound => ?_
            · rw [rest, rest]; simp [ne.symm]
            · rw [rest, if_neg (by simp)]
              rw [rest, if_pos rfl] at sound
              exact sound.release
  · rw [onlyIf, if_neg (by simpa using here)]
    refine h.reslack_one fun g' hg' p hp name inPlace => ?_
    cases loaded.symm.trans hg'
    rw [k] at inPlace
    refine ⟨inPlace.standing, fun open_ => ?_, fun stage => ?_, inPlace.bound⟩
    · have := inPlace.uncommitted open_
      exact ⟨by dsimp only at this ⊢; omega, this.2⟩
    · have := inPlace.committed stage
      dsimp only at this ⊢
      omega

end Sys2Proof.Machine
end

section
/-! SUPPORT. The laws of the pieces in flight through the saw line, the drop and the run-out, and over a whole advance. -/

namespace Sys2Proof.Machine

variable {slack : LugNo → Slack} {s : State} {lug : LugNo} {g : Geometry}

/-! ### The saw line (R100) -/

theorem changeFirst_absent {α : Type} {p : α → Bool} {f : α → α} {l : List α} (none : ∀ x ∈ l, p x = false) :
    changeFirst p f l = l := by
  induction l with
  | nil => rfl
  | cons x l ih =>
    rw [changeFirst, if_neg (by simp [none x List.mem_cons_self]),
      ih fun y hy => none y (List.mem_cons_of_mem _ hy)]

theorem changePiece_absent (f : Piece → Piece) (absent : s.piece? lug = none) : changePiece lug f s = s := by
  have same := changeFirst_absent (f := f) (p := fun p => p.lug == lug) fun p hp =>
    beq_false_of_ne (State.piece?_eq_none.mp absent p hp)
  simp only [changePiece, State.onChain, same]

/-- A record found past the commit station has committed. -/
theorem InFlight.committed_beyond {k : Slack} (h : InFlight slack s) (loaded : s.store.geometry = some g)
    (k_eq : slack lug = k) (settled : k.commit = 0) {p : Piece} (found : s.piece? lug = some p)
    (beyond : g.commit ≤ s.position lug) : p.isCommitted = true := by
  have inPlace := h.pieces g loaded p (State.piece?_mem found)
  rw [piece?_lug found, k_eq] at inPlace
  by_contra open_
  have := (inPlace.uncommitted (by simpa using open_)).1
  omega

theorem InFlight.saw (h : InFlight slack s) (loaded : s.store.geometry = some g) (ordered : g.Ordered)
    (k : slack lug = ⟨0, 1, 1⟩) : InFlight slack (onlyIf (s.position lug == g.sawLine) (passSaw lug) s) := by
  by_cases here : s.position lug = g.sawLine
  case neg => rwa [onlyIf, if_neg (by simpa using here)]
  rw [onlyIf, if_pos (beq_iff_eq.mpr here)]
  unfold passSaw
  cases found : s.piece? lug with
  | none =>
    rw [changePiece_absent _ found]
    simpa [found] using h
  | some p =>
    have saw := ordered.saw
    have committed := h.committed_beyond loaded k rfl found (by omega)
    have inPlace := h.pieces g loaded p (State.piece?_mem found)
    rw [piece?_lug found, k, here] at inPlace
    generalize passes : ({ p with stage := .pastSaw } : Piece) = q
    obtain ⟨before, after, split, name, changed, erased⟩ := State.split_of_piece? found
    have foundNow : (changePiece lug (fun p => { p with stage := .pastSaw }) s).piece? lug = some q := by
      rw [piece?_changePiece (f := fun p => { p with stage := .pastSaw }) fun _ h => (piece?_lug h :), found,
        Option.map_some, passes]
    have passed : InFlight slack (changePiece lug (fun p => { p with stage := .pastSaw }) s) := by
      have now : (changePiece lug (fun p => { p with stage := .pastSaw }) s).chain.pieces = before ++ q :: after := by
        rw [← passes]; exact changed _
      refine h.replace (q := q) split now (by rw [← passes]) rfl rfl (fun _ _ => rfl) (fun g' hg' => ?_) ?_ (.refl _)
        (.inr (by rw [name]; exact h.unowed found committed))
      · cases loaded.symm.trans hg'
        rw [name, k, here, ← passes]
        refine ⟨inPlace.standing, fun open_ => ?_, fun _ => by dsimp only; omega, fun b dest => ?_⟩
        · simp [Piece.isCommitted] at open_
        · obtain ⟨_, suspect, keep, near⟩ := inPlace.bound b dest
          exact ⟨.inr rfl, suspect, keep, near⟩
      · refine h.bins.of_bound fun b => ?_
        rw [now, split, boundFor_append_cons, boundFor_append_cons, ← passes]
    dsimp only
    rw [foundNow]
    dsimp only
    split
    · rename_i slashed
      have unbound : ∀ b, q.dest ≠ some (.bin b) := fun b dest => by
        rw [← passes] at dest slashed
        obtain ⟨_, _, ⟨_, _, _, _, _, keep⟩, _⟩ := inPlace.bound b dest
        rw [slashed.1] at keep
        cases keep
      have finished := passed.finish (o := .slash) rfl rfl rfl foundNow (by simp [← passes, Piece.isCommitted])
        (passed.bins_unbound foundNow unbound) (slack lug)
      rwa [Function.update_eq_self] at finished
    · exact passed

/-! ### The drop and the run-out (R122, R123) -/

theorem Bin.Sound.drop {n : Nat} {x : Bin} (h : x.Sound (n + 1)) (drops : Nat) :
    Bin.Sound n { x with reserved := x.reserved - 1, count := x.count + 1, drops } := by
  have room := h.room
  have reserved := h.reserved
  refine ⟨⟨by dsimp only; omega, room.2⟩, ?_, by dsimp only; omega, fun out => by have := h.outOfService out; omega⟩
  rw [h.full]
  dsimp only
  rw [show x.count + 1 + (x.reserved - 1) = x.count + x.reserved by omega]

/-- A record bound for a bin is bound for one of the 48, once it has passed the commit station. -/
theorem Piece.InPlace.bin_lt {n : Nat} {k : Slack} {p : Piece} (h : p.InPlace g n k) (drops : g.drops.length = 48)
    (ordered : g.Ordered) (slackDrop : k.drop ≤ 1) {b : Nat} (dest : p.dest = some (.bin b)) : b < 48 := by
  by_contra far
  obtain ⟨stage, _, _, near⟩ := h.bound b dest
  have commit := h.committed stage
  have three := ordered.commit
  rw [List.getD_eq_default _ _ (by omega)] at near
  omega

theorem InFlight.drop (h : InFlight slack s) (loaded : s.store.geometry = some g) (drops : g.drops.length = 48)
    (ordered : g.Ordered) (k : slack lug = ⟨0, 1, 1⟩) : InFlight (Function.update slack lug ⟨0, 0, 1⟩)
      ((dropAt g (s.position lug) s lug).elim s fun b => dropPiece b lug s) := by
  cases found : s.piece? lug with
  | none =>
    have stays : dropAt g (s.position lug) s lug = none := by simp [dropAt, found]
    rw [stays]
    exact h.reslack_absent (State.piece?_eq_none.mp found)
  | some p =>
    have inPlace := h.pieces g loaded p (State.piece?_mem found)
    rw [piece?_lug found, k] at inPlace
    cases drops_ : dropAt g (s.position lug) s lug with
    | none =>
      refine h.reslack_one fun g' hg' q hq name law => ?_
      cases loaded.symm.trans hg'
      cases h.only found hq name
      refine ⟨inPlace.standing, inPlace.uncommitted, inPlace.committed, fun b dest => ?_⟩
      obtain ⟨stage, suspect, keep, near⟩ := inPlace.bound b dest
      refine ⟨stage, suspect, keep, ?_⟩
      have offset := (ordered.drops b (inPlace.bin_lt drops ordered le_rfl dest)).2.2
      have elsewhere : s.position lug ≠ g.drops.getD b 0 := by
        intro same
        have acts : dropAt g (s.position lug) s lug = some b := by
          rw [dropAt, found, same]
          exact Option.filter_eq_some_iff.mpr ⟨by simp [Piece.reservedBin, dest], beq_iff_eq.mpr offset⟩
        rw [acts] at drops_
        cases drops_
      dsimp only at near ⊢
      omega
    | some b =>
      have dest : p.dest = some (.bin b) := by
        simp only [dropAt, found, Option.bind_some, Option.filter_eq_some_iff] at drops_
        have reserved := drops_.1
        unfold Piece.reservedBin at reserved
        split at reserved
        · cases reserved; assumption
        · cases reserved
      obtain ⟨stage, _⟩ := inPlace.bound b dest
      change InFlight _ (finishPiece lug .sorted (s.onBins fun l => setAt l b fun x =>
        { x with reserved := x.reserved - 1, count := x.count + 1, drops := satAdd tallyMax x.drops 1 }))
      refine h.finish (u := s.onBins _) rfl rfl rfl found ?_ ?_ _
      · rcases stage with stage | stage <;> simp [Piece.isCommitted, stage]
      · obtain ⟨before, after, split, _, _, erased⟩ := State.split_of_piece? found
        have bound : ∀ b', boundFor b' s.chain.pieces =
            boundFor b' (s.chain.pieces.eraseP fun q => q.lug == lug) + if b = b' then 1 else 0 := fun b' => by
          rw [erased, split, boundFor_append_cons, dest]; simp
        refine h.bins.setAt (fun b' ne => ?_) fun x hx sound => ?_
        · rw [bound b', if_neg ne.symm, Nat.add_zero]
        · rw [bound b, if_pos rfl] at sound
          exact sound.drop _

theorem InFlight.runOut (h : InFlight slack s) (loaded : s.store.geometry = some g) (drops : g.drops.length = 48)
    (ordered : g.Ordered) (k : slack lug = ⟨0, 0, 1⟩) :
    InFlight (Function.update slack lug .settled) (onlyIf (s.position lug == g.runOut) (runOutPiece lug) s) := by
  by_cases here : s.position lug = g.runOut
  · rw [onlyIf, if_pos (beq_iff_eq.mpr here)]
    unfold runOutPiece
    cases found : s.piece? lug with
    | none => exact h.reslack_absent (State.piece?_eq_none.mp found)
    | some p =>
      have saw := ordered.saw
      have far := ordered.drops 0 (by decide)
      have inPlace := h.pieces g loaded p (State.piece?_mem found)
      rw [piece?_lug found, k, here] at inPlace
      have unbound : ∀ b, p.dest ≠ some (.bin b) := fun b dest => by
        have near := (inPlace.bound b dest).2.2.2
        have offset := ordered.drops b (inPlace.bin_lt drops ordered (Nat.zero_le _) dest)
        dsimp only at near
        omega
      exact h.finish rfl rfl rfl found (h.committed_beyond loaded k rfl found (by omega)) (h.bins_unbound found unbound) _
  · rw [onlyIf, if_neg (by simpa using here)]
    refine h.reslack_one fun g' hg' p hp name inPlace => ?_
    cases loaded.symm.trans hg'
    rw [k] at inPlace
    refine ⟨?_, inPlace.uncommitted, inPlace.committed, inPlace.bound⟩
    have := inPlace.standing
    simp only [Slack.settled] at this ⊢
    omega

/-! ### One record at its stations, and every record (R13) -/

theorem position_of_lug {s t : State} (h : t.chain.lug = s.chain.lug) (lug : LugNo) :
    t.position lug = s.position lug := by
  unfold State.position; rw [h]

theorem lug_of_course {s t : State} (h : t.course = s.course) : t.chain.lug = s.chain.lug := by
  rw [(State.course_eq_iff.mp h).1]

theorem onlyIf_course {b : Bool} {f : State → State} (h : (f s).course = s.course) : (onlyIf b f s).course = s.course := by
  cases b
  · rfl
  · exact h

theorem InFlight.visit (h : InFlight slack s) (loaded : s.store.geometry = some g) (drops : g.drops.length = 48)
    (ordered : g.Ordered) (c : Count) (k : slack lug = ⟨1, 1, 1⟩) :
    InFlight (Function.update slack lug .settled) (visitStations g c s lug) := by
  unfold visitStations
  dsimp only
  generalize h4 : onlyIf (s.position lug == g.markP2) (markPiece .p2 lug) _ = s4
  have quiet : Quiet s s4 := by
    rw [← h4]
    refine Quiet.trans ?_ (onlyIf_quiet (markPiece_quiet _ _ _))
    refine Quiet.trans ?_ (onlyIf_quiet (markPiece_quiet _ _ _))
    refine Quiet.trans ?_ (onlyIf_quiet (closeProfile_quiet _ _ _))
    exact onlyIf_quiet (triggerMoisture_quiet _ _)
  have steady : s4.steady = s.steady := by
    rw [← h4]
    have only : ∀ (b : Bool) (f : State → State) (t : State), (f t).steady = t.steady → (onlyIf b f t).steady = t.steady := by
      intro b f t same
      cases b
      · rfl
      · exact same
    simp [only]
  have same := SamePlace.of_steady steady
  have store4 : s4.store = s.store := congrArg (fun x => x.store) steady
  have flight4 : InFlight slack s4 := h.of_same same quiet.answers
  generalize pos : s.position lug = n at *
  have at4 : s4.position lug = n := (position_of_lug same.lug lug).trans pos
  generalize h5 : onlyIf (n == g.commit) (commitPiece g c lug) s4 = s5
  have flight5 : InFlight (Function.update slack lug ⟨0, 1, 1⟩) s5 := by
    rw [← h5, ← at4]; exact flight4.commit (store4 ▸ loaded) ordered c k
  have at5 : s5.position lug = n := by
    rw [← at4, ← h5]; exact position_of_lug (lug_of_course (onlyIf_course (by simp))) lug
  have store5 : s5.store = s.store := by
    rw [← h5, onlyIf_keeps State.store _ _ _ fun t => (by simp), store4]
  generalize h6 : onlyIf (n == g.sawLine) (passSaw lug) s5 = s6
  have flight6 : InFlight (Function.update slack lug ⟨0, 1, 1⟩) s6 := by
    rw [← h6, ← at5]; exact flight5.saw (store5 ▸ loaded) ordered (Function.update_self ..)
  have at6 : s6.position lug = n := by
    rw [← at5, ← h6]; exact position_of_lug (lug_of_course (onlyIf_course (by simp))) lug
  have store6 : s6.store = s.store := by
    rw [← h6, onlyIf_keeps State.store _ _ _ fun t => (by simp), store5]
  generalize h7 : (dropAt g n s6 lug).elim s6 (fun b => dropPiece b lug s6) = s7
  have flight7 : InFlight (Function.update slack lug ⟨0, 0, 1⟩) s7 := by
    have dropped := flight6.drop (store6 ▸ loaded) drops ordered (Function.update_self ..)
    rwa [at6, h7, Function.update_idem] at dropped
  have at7 : s7.position lug = n := by
    rw [← at6, ← h7]
    cases dropAt g n s6 lug with
    | none => rfl
    | some b => exact position_of_lug (lug_of_course (by simp)) lug
  have store7 : s7.store = s.store := by
    rw [← h7, ← store6]
    cases dropAt g n s6 lug with
    | none => rfl
    | some b => simp
  have last := flight7.runOut (store7 ▸ loaded) drops ordered (Function.update_self ..)
  rwa [at7, Function.update_idem] at last

end Sys2Proof.Machine
end

section
/-! SUPPORT. The laws of the pieces in flight over a lug advance (R11, R13, R14) and over the suspect condition (R21). -/

namespace Sys2Proof.Machine

variable {slack : LugNo → Slack} {s t : State} {lug : LugNo} {g : Geometry}

/-! ### Operations that leave the records in flight where they stand -/

/-- From `s` to `t` the records stay in place and no new answer is owed. -/
structure Still (s t : State) : Prop where
  same : SamePlace s t
  answers : t.panels.answers.Sublist s.panels.answers

theorem Still.of_steady (h : t.steady = s.steady) (q : Quiet s t) : Still s t := ⟨.of_steady h, q.answers⟩

theorem Still.of_blocks (chain : t.chain = s.chain) (bins : t.bins = s.bins) (line : t.line.state = s.line.state)
    (geometry : t.store.geometry = s.store.geometry) (panels : t.panels = s.panels) : Still s t :=
  ⟨.of_blocks (by rw [chain]) (by rw [chain]) bins line geometry, by rw [panels]⟩

theorem Still.trans {u : State} (h : Still s t) (k : Still t u) : Still s u :=
  ⟨h.same.trans k.same, k.answers.trans h.answers⟩

theorem InFlight.still (k : Still s t) (h : InFlight slack s) : InFlight slack t := h.of_same k.same k.answers

/-! ### The stations of an advance (R13) -/

/-- The slack between the move of the lug number and the visit of the stations: one lug for every lug still due. -/
def Slack.due (l : List LugNo) (lug : LugNo) : Slack := if lug ∈ l then ⟨1, 1, 1⟩ else .settled

theorem Slack.due_visited {l : List LugNo} (distinct : (lug :: l).Nodup) :
    Function.update (Slack.due (lug :: l)) lug .settled = Slack.due l := by
  funext x
  by_cases here : x = lug
  · rw [here, Function.update_self, Slack.due, if_neg (List.nodup_cons.mp distinct).1]
  · rw [Function.update_of_ne here]
    simp [Slack.due, here]

/-- Every lug that is due visited: the records stand as the laws say between advances. -/
theorem InFlight.stations {l : List LugNo} (distinct : l.Nodup) (h : InFlight (Slack.due l) s)
    (loaded : s.store.geometry = some g) (drops : g.drops.length = 48) (ordered : g.Ordered) (c : Count) :
    InFlight (fun _ => .settled) (l.foldl (visitStations g c) s) := by
  induction l generalizing s with
  | nil => exact h.reslack fun _ _ _ _ law => law
  | cons lug l ih =>
    have visited := h.visit loaded drops ordered c (if_pos List.mem_cons_self)
    rw [Slack.due_visited distinct] at visited
    exact ih (List.nodup_cons.mp distinct).2 visited (by simpa using loaded)

theorem InFlight.runStations (h : InFlight (fun _ => ⟨1, 1, 1⟩) s) (loaded : s.store.geometry = some g)
    (drops : g.drops.length = 48) (ordered : g.Ordered) (c : Count) :
    InFlight (fun _ => .settled) (runStations c s) := by
  rw [Machine.runStations, loaded]
  refine InFlight.stations h.distinct (h.reslack fun _ _ p hp law => ?_) loaded drops ordered c
  rwa [Slack.due, if_pos (List.mem_map_of_mem hp)]

/-! ### The lug number moved and a piece admitted (R11, R14) -/

/-- The lug number of a state is the lug of no record. -/
def State.lugFree (s : State) : Prop := s.chain.lug ∉ s.chain.pieces.map Piece.lug

theorem SamePlace.lugFree (k : SamePlace s t) (h : s.lugFree) : t.lugFree := by
  rw [State.lugFree, k.lug, ← steady_lugs, k.pieces, steady_lugs]
  exact h

/-- As the lug number rises every record moves one lug on. -/
theorem InFlight.moved (h : InFlight (fun _ => .settled) s) (loaded : s.store.geometry = some g) (ordered : g.Ordered)
    {f : Chain → Chain} (pieces : (f s.chain).pieces = s.chain.pieces) (lug : (f s.chain).lug = s.chain.lug + 1) :
    InFlight (fun _ => ⟨1, 1, 1⟩) (s.onChain f) ∧ (s.onChain f).lugFree := by
  have next : ∀ p ∈ s.chain.pieces, (s.onChain f).position p.lug = s.position p.lug + 1 := by
    intro p hp
    have near := (h.pieces g loaded p hp).standing
    have far := ordered.runOut
    simp only [State.position, State.onChain_chain, lug, Slack.settled] at near ⊢
    bv_omega
  constructor
  · refine ⟨by simpa [pieces] using h.distinct, fun g' hg' p hp => ?_, by simpa [pieces] using h.bins, h.answers, fun a ha => ?_⟩
    · rw [State.onChain_chain, pieces] at hp
      cases loaded.symm.trans hg'
      rw [next p hp]
      obtain ⟨standing, uncommitted, committed, bound⟩ := h.pieces g loaded p hp
      simp only [Slack.settled] at standing uncommitted committed bound
      refine ⟨by dsimp only; omega, fun open_ => ⟨?_, (uncommitted open_).2⟩, fun stage => ?_, fun b dest => ?_⟩
      · have := (uncommitted open_).1; dsimp only; omega
      · have := committed stage; dsimp only; omega
      · obtain ⟨stage, suspect, keep, near⟩ := bound b dest
        exact ⟨stage, suspect, keep, by dsimp only; omega⟩
    · obtain ⟨p, hp, law⟩ := h.owed a ha
      exact ⟨p, by simpa [pieces] using hp, law⟩
  · intro named
    rw [State.onChain_chain, pieces, lug] at named
    obtain ⟨p, hp, same⟩ := List.mem_map.mp named
    have zero := next p hp
    rw [State.position, State.onChain_chain, lug, same] at zero
    simp at zero

/-- A fresh record of a free lug joins the queue. -/
theorem InFlight.join {k : Slack} {q : Piece} (h : InFlight (fun _ => k) s) (free : s.lugFree)
    (loaded : s.store.geometry = some g) (ordered : g.Ordered) (name : q.lug = s.chain.lug)
    (stage : q.stage = .scanning) (unbound : q.dest = none) (pieces : t.chain.pieces = s.chain.pieces ++ [q])
    (lug : t.chain.lug = s.chain.lug) (bins : t.bins = s.bins) (geometry : t.store.geometry = s.store.geometry)
    (panels : t.panels = s.panels) : InFlight (fun _ => k) t where
  distinct := by
    rw [pieces, List.map_append, List.map_cons, List.map_nil]
    refine List.Nodup.append h.distinct (List.nodup_singleton _) ?_
    rw [List.disjoint_singleton, name]
    exact free
  pieces g' hg' p hp := by
    rw [State.position, lug, ← State.position]
    rw [geometry] at hg'
    rw [pieces, List.mem_append, List.mem_singleton] at hp
    rcases hp with old | rfl
    · exact h.pieces g' hg' p old
    · cases loaded.symm.trans hg'
      have zero : s.position p.lug = 0 := by rw [name]; simp [State.position]
      have first := ordered.drops 0 (by decide)
      have three := ordered.commit
      rw [zero]
      refine ⟨by omega, fun _ => ⟨by omega, unbound⟩, fun late => ?_, fun b dest => ?_⟩
      · rw [stage] at late; simp at late
      · rw [unbound] at dest; cases dest
  bins := by
    rw [bins]
    refine h.bins.of_bound fun b => ?_
    rw [pieces, boundFor_append_cons, unbound]; simp
  answers := by rw [panels]; exact h.answers
  owed a ha := by
    obtain ⟨p, hp, law⟩ := h.owed a (panels ▸ ha)
    exact ⟨p, pieces ▸ List.mem_append_left _ hp, law⟩

theorem InFlight.admitted {k : Slack} (h : InFlight (fun _ => k) s) (free : s.lugFree) (loaded : s.store.geometry = some g)
    (ordered : g.Ordered) (c : Count) (eye : Bool) : InFlight (fun _ => k) (admitPiece c eye s) := by
  unfold admitPiece
  split
  case h_1 x active =>
    refine h.join (q := Piece.admitted s.chain.lug c x s.chain.suspect) free loaded ordered rfl rfl rfl ?_ ?_ ?_ ?_ ?_ <;> simp
  case h_2 => exact InFlight.still (.of_steady (by simp) (recordHistory_quiet _ _ _)) h

theorem takePending_still (s : State) : Still s (takePending s) :=
  .of_blocks (by simp) (by simp) (by simp) (by simp) (by simp)

theorem sendLug_still (s : State) (lug : LugNo) (f : Scan → Scan) : Still s (sendLug lug (s.onScan f)) :=
  .of_blocks (by simp) (by simp) (by simp) (by simp) (by simp)

/-- The laws pass over a lug advance. -/
theorem InFlight.lugAdvance (h : InFlight (fun _ => .settled) s) (loaded : s.store.geometry = some g)
    (drops : g.drops.length = 48) (ordered : g.Ordered) (c : Count) (good eye : Bool) :
    InFlight (fun _ => .settled) (lugAdvance c good eye s) := by
  unfold Machine.lugAdvance
  obtain ⟨moved, free⟩ := h.moved loaded ordered (f := fun ch =>
    { ch with lug := ch.lug + 1, c0 := c, goodRun := if good then min 255 (ch.goodRun + 1) else ch.goodRun }) rfl rfl
  generalize s1_eq : s.onChain _ = s1 at moved free
  have still := (takePending_still s1).trans (sendLug_still (takePending s1) (takePending s1).chain.lug
    fun x => { x with eye })
  dsimp only
  generalize sendLug (takePending s1).chain.lug _ = s3 at still ⊢
  have loaded3 : s3.store.geometry = some g := by rw [still.same.geometry, ← s1_eq]; exact loaded
  have admitted := (moved.still still).admitted (still.same.lugFree free) loaded3 ordered c eye
  have aged : Still (admitPiece c eye s3) (ageMoisture (admitPiece c eye s3)) := .of_blocks rfl rfl rfl rfl rfl
  refine InFlight.still (Still.of_blocks ?_ ?_ ?_ ?_ ?_)
    ((admitted.still aged).runStations (g := g) (by simpa using loaded3) drops ordered c) <;> simp

end Sys2Proof.Machine
end

section
/-! SUPPORT. The laws of the pieces in flight where every record changes at once (R21, R118), where records are lost
(R170), and where an override is accepted (R83, R88). -/

namespace Sys2Proof.Machine

variable {slack : LugNo → Slack} {s t : State} {lug : LugNo} {g : Geometry}

/-! ### Every record changed (R21, R118) -/

/-- The laws pass where every record changes as the law of one record allows. -/
theorem InFlight.map {f : Piece → Piece} (h : InFlight slack s) (pieces : t.chain.pieces = s.chain.pieces.map f)
    (name : ∀ p, (f p).lug = p.lug) (open_ : ∀ p, (f p).isCommitted = p.isCommitted)
    (law : ∀ g, s.store.geometry = some g → ∀ p n k, p.InPlace g n k → (f p).InPlace g n k)
    (lug : t.chain.lug = s.chain.lug) (geometry : t.store.geometry = s.store.geometry)
    (bins : BinsSound t.bins t.chain.pieces) (answers : t.panels.answers.Sublist s.panels.answers) :
    InFlight slack t where
  distinct := by
    have same : Piece.lug ∘ f = Piece.lug := funext name
    rw [pieces, List.map_map, same]
    exact h.distinct
  pieces g hg p hp := by
    obtain ⟨q, hq, rfl⟩ := List.mem_map.mp (pieces ▸ hp)
    rw [State.position, lug, ← State.position, name]
    rw [geometry] at hg
    exact law g hg q _ _ (h.pieces g hg q hq)
  bins := bins
  answers := h.answers.sublist (answers.map _)
  owed a ha := by
    obtain ⟨p, hp, same, notYet⟩ := h.owed a (answers.subset ha)
    exact ⟨f p, pieces ▸ List.mem_map_of_mem hp, (name p).trans same, (open_ p).trans notYet⟩

theorem Piece.nowSuspect_isCommitted (cause : SuspectCause) (p : Piece) :
    (p.nowSuspect cause).isCommitted = p.isCommitted := by
  unfold Piece.nowSuspect
  split <;> rfl

theorem Piece.InPlace.nowSuspect {n : Nat} {k : Slack} {p : Piece} (h : p.InPlace g n k) (cause : SuspectCause) :
    (p.nowSuspect cause).InPlace g n k ∧ ∀ b, (p.nowSuspect cause).dest ≠ some (.bin b) := by
  have unbound : ∀ b, (p.nowSuspect cause).dest ≠ some (.bin b) := by
    intro b dest
    unfold Piece.nowSuspect at dest
    split at dest
    · rename_i marked
      rw [(h.bound b dest).2.1] at marked
      cases marked
    · cases bound : p.dest with
      | none => simp [Piece.reservedBin, bound] at dest
      | some d => cases d <;> simp [Piece.reservedBin, bound] at dest
  refine ⟨⟨h.standing, fun open_ => ?_, fun stage => ?_, fun b dest => absurd dest (unbound b)⟩, unbound⟩
  · rw [Piece.nowSuspect_isCommitted] at open_
    obtain ⟨short, none⟩ := h.uncommitted open_
    refine ⟨short, ?_⟩
    unfold Piece.nowSuspect
    split
    · exact none
    · simp [Piece.reservedBin, none]
  · refine h.committed ?_
    unfold Piece.nowSuspect at stage
    split at stage <;> exact stage

/-- Where records are bound only while they are not suspect, the two counts of the records bound for a bin agree. -/
theorem InFlight.boundFor_eq (h : InFlight slack s) (loaded : s.store.geometry = some g) (b : Nat) :
    s.boundFor b = boundFor b s.chain.pieces := by
  unfold State.boundFor Machine.boundFor
  refine List.countP_congr fun p hp => ?_
  cases dest : p.dest with
  | none => simp [Piece.reservedBin, dest]
  | some d =>
    cases d with
    | runOut => simp [Piece.reservedBin, dest]
    | bin i => simp [Piece.reservedBin, dest, ((h.pieces g loaded p hp).bound i dest).2.1]

/-- The laws pass as the suspect condition is set: every reservation is released with its record's destination. -/
theorem InFlight.setSuspect (h : InFlight slack s) (loaded : s.store.geometry = some g) (cause : SuspectCause) :
    InFlight slack (Machine.setSuspect cause s) := by
  obtain ⟨_, records, number, untouched, released⟩ := setSuspect_suspectSet cause s
  have unbound : ∀ b, boundFor b (Machine.setSuspect cause s).chain.pieces = 0 := fun b => by
    rw [records, boundFor, List.countP_eq_zero]
    intro q hq
    obtain ⟨p, hp, rfl⟩ := List.mem_map.mp hq
    simpa using ((h.pieces g loaded p hp).nowSuspect cause).2 b
  refine h.map records (fun p => ?_) (Piece.nowSuspect_isCommitted cause)
    (fun _ _ _ _ _ law => (law.nowSuspect cause).1) ?_ (by simp) ⟨number.trans h.bins.number, fun b x hx => ?_⟩
    (setSuspect_quiet s cause).answers
  · unfold Piece.nowSuspect; split <;> rfl
  · rw [setSuspect_chain]
  · rw [unbound b]
    have counted := h.boundFor_eq loaded b
    rcases Nat.eq_zero_or_pos (s.boundFor b) with none | some
    · rw [untouched b none] at hx
      have sound := h.bins.each b x hx
      rwa [← counted, none] at sound
    · have inRange : b < s.bins.length := number ▸ (List.getElem?_eq_some_iff.mp hx).1
      have there := List.getElem?_eq_getElem inRange
      rw [released b _ there some] at hx
      cases hx
      obtain ⟨room, full, reserved, out⟩ := h.bins.each b _ there
      exact ⟨⟨by dsimp only; omega, room.2⟩, rfl, by dsimp only; omega, fun state => by have := out state; dsimp only; omega⟩

/-- A bin taken out of service (R118): every record bound for it is bound for the run-out, and the bin is changed once. -/
theorem takeOutOfService_eq (distinct : (s.chain.pieces.map Piece.lug).Nodup) (bin : Nat) :
    (takeOutOfService bin s).chain = { s.chain with
        pieces := s.chain.pieces.map fun p => if p.dest = some (.bin bin) then p.rerouted else p } ∧
    (takeOutOfService bin s).bins = setAt s.bins bin (fun x =>
        { x with state := .outOfService
                 reserved := x.reserved - boundFor bin s.chain.pieces
                 full := decide (x.capacity ≤ x.count + (x.reserved - boundFor bin s.chain.pieces)) }) ∧
    (takeOutOfService bin s).line = s.line ∧ (takeOutOfService bin s).store = s.store := by
  generalize lugs : (s.chain.pieces.filter fun p => p.dest == some (.bin bin)).map Piece.lug = l
  have named : ∀ p ∈ s.chain.pieces, p.lug ∈ l ↔ p.dest = some (.bin bin) := by
    intro p hp
    rw [← lugs, List.mem_map]
    constructor
    · rintro ⟨q, hq, same⟩
      rw [List.mem_filter, beq_iff_eq] at hq
      rw [← List.inj_on_of_nodup_map distinct hq.1 hp same]
      exact hq.2
    · exact fun dest => ⟨p, List.mem_filter.mpr ⟨hp, beq_iff_eq.mpr dest⟩, rfl⟩
  have count : l.length = boundFor bin s.chain.pieces := by
    rw [← lugs, List.length_map, boundFor, List.countP_eq_length_filter]
  have eq : takeOutOfService bin s =
      changeBin bin (fun b => { b with state := .outOfService }) .outOfService (reroutes bin l s) := by
    rw [← lugs]; rfl
  refine ⟨?_, ?_, by simp, by simp⟩
  · rw [eq, (changeBin_frame ..).1, reroutes_pieces bin l s distinct]
    refine congrArg (fun l => { s.chain with pieces := l }) (List.map_congr_left fun p hp => ?_)
    simp only [named p hp]
  · rw [eq, changeBin_bins, reroutes_bins, count, setAt, setAt, setAt, List.modify_modify_eq]
    rfl

/-- The laws pass as a bin goes out of service. -/
theorem InFlight.outOfService (h : InFlight slack s) (bin : Nat) : InFlight slack (takeOutOfService bin s) := by
  obtain ⟨chain, bins, _, store⟩ := takeOutOfService_eq h.distinct bin
  have dest : ∀ b p, (if p.dest = some (.bin bin) then p.rerouted else p : Piece).dest = some (.bin b) ↔
      p.dest = some (.bin b) ∧ b ≠ bin := by
    intro b p
    split
    · rename_i bound
      simp [Piece.rerouted, bound, eq_comm]
    · rename_i other
      refine ⟨fun here => ⟨here, fun same => other (same ▸ here)⟩, fun here => here.1⟩
  have rest : ∀ b, boundFor b (takeOutOfService bin s).chain.pieces = if b = bin then 0 else boundFor b s.chain.pieces := by
    intro b
    rw [chain, boundFor, List.countP_map]
    by_cases here : b = bin
    · simp [here, Function.comp_def, dest]
    · rw [if_neg here, boundFor]
      exact List.countP_congr fun p _ => by simp [dest, here]
  refine h.map (congrArg Chain.pieces chain) (fun p => ?_) (fun p => ?_) (fun g _ p n k law => ?_) (by rw [chain])
    (by rw [store]) ?_ (takeOutOfService_quiet s bin).answers
  · split <;> rfl
  · split <;> rfl
  · refine ⟨law.standing, fun open_ => ?_, fun stage => law.committed ?_, fun b here => ?_⟩
    · split
      · rename_i bound
        have : p.isCommitted = false := by simpa [bound, Piece.rerouted, Piece.isCommitted] using open_
        rw [(law.uncommitted this).2] at bound
        cases bound
      · rename_i other
        exact law.uncommitted (by simpa [other] using open_)
    · split at stage <;> exact stage
    · obtain ⟨here, ne⟩ := (dest b p).mp here
      rw [if_neg (by rw [here]; simpa using ne)]
      exact law.bound b here
  · rw [bins]
    refine h.bins.setAt (fun b ne => by rw [rest, if_neg ne]) fun x _ sound => ?_
    rw [rest, if_pos rfl]
    have room := sound.room
    have reserved := sound.reserved
    exact ⟨⟨by dsimp only; omega, room.2⟩, rfl, by dsimp only; omega, fun _ => by dsimp only; omega⟩

/-! ### Records lost (R170) -/

/-- The laws pass as a record is lost, and the queue keeps the others alone. -/
theorem InFlight.lose (h : InFlight slack s) (lug : LugNo) : InFlight slack (losePiece s lug) ∧
    ∀ p ∈ (losePiece s lug).chain.pieces, p ∈ s.chain.pieces ∧ p.lug ≠ lug := by
  generalize bound : ((s.piece? lug).bind Piece.reservedBin).elim s (fun b => releaseBin b s) = u
  have lost : losePiece s lug = finishPiece lug .lost (payLapsed lug .lost u) := by rw [← bound]; rfl
  have quiet : Quiet s u := by rw [← bound]; exact elim_quiet (fun b => changeBin_quiet s b _ _) _
  have frame : u.chain = s.chain ∧ u.store = s.store ∧ u.panels = s.panels := by
    rw [← bound]; cases (s.piece? lug).bind Piece.reservedBin <;> simp
  obtain ⟨chain, store, panels⟩ := frame
  cases found : s.piece? lug with
  | none =>
    have none : (payLapsed lug .lost u).piece? lug = none :=
      (piece?_of_chain ((payLapsed_frame _ _ _).1.trans chain) lug).trans found
    have same : u = s := by rw [← bound, found]; rfl
    have paid : losePiece s lug = payLapsed lug .lost s := by rw [lost, finishPiece, none, same]
    rw [paid]
    refine ⟨h.still (.of_steady (by simp) (payLapsed_quiet s lug .lost)), fun p hp => ?_⟩
    rw [(payLapsed_frame _ _ _).1] at hp
    exact ⟨hp, State.piece?_eq_none.mp found p hp⟩
  | some p =>
    have foundNow : (payLapsed lug .lost u).piece? lug = some p :=
      (piece?_of_chain ((payLapsed_frame _ _ _).1.trans chain) lug).trans found
    obtain ⟨before, after, split, name, _, erased⟩ := State.split_of_piece? found
    have now : (losePiece s lug).chain.pieces = before ++ after := by
      rw [lost, finishPiece_removes foundNow, (payLapsed_frame _ _ _).1, chain, erased]
    have bins : BinsSound (losePiece s lug).bins (losePiece s lug).chain.pieces := by
      have same : (losePiece s lug).bins = u.bins := by rw [lost]; simp
      rw [now, same]
      have counts : ∀ b, boundFor b s.chain.pieces = boundFor b (before ++ after) + if p.dest = some (.bin b) then 1 else 0 :=
        fun b => by rw [split, boundFor_append_cons]
      cases dest : p.reservedBin with
      | none =>
        have stay : u = s := by rw [← bound, found, Option.bind_some, dest]; rfl
        rw [stay]
        refine h.bins.of_bound fun b => ?_
        have unbound : p.dest ≠ some (.bin b) := fun here => by simp [Piece.reservedBin, here] at dest
        rw [counts, if_neg unbound, Nat.add_zero]
      | some b =>
        have released : u = releaseBin b s := by rw [← bound, found, Option.bind_some, dest]; rfl
        have here : p.dest = some (.bin b) := by
          unfold Piece.reservedBin at dest
          split at dest
          · cases dest; assumption
          · cases dest
        rw [released, releaseBin, changeBin_bins]
        refine h.bins.setAt (fun b' ne => ?_) fun x _ sound => ?_
        · rw [counts, here, if_neg (by simpa using ne.symm), Nat.add_zero]
        · rw [counts, if_pos here] at sound
          exact sound.release
    constructor
    · refine h.remove split now ?_ (by simp) bins ?_ (.inr ?_)
      · simp [lost, finishPiece, foundNow, chain]
      · have paid : (losePiece s lug).panels = (payLapsed lug .lost u).panels := by rw [lost]; simp
        rw [paid, ← panels]
        exact (payLapsed_quiet u lug .lost).answers
      · have paid : (losePiece s lug).panels = (payLapsed lug .lost u).panels := by rw [lost]; simp
        rw [name, paid]
        exact payLapsed_answers lug .lost u
    · intro q hq
      have distinct := h.distinct
      rw [split, List.map_append, List.map_cons, List.nodup_middle, List.nodup_cons, ← List.map_append] at distinct
      rw [now] at hq
      refine ⟨?_, fun same => distinct.1 ?_⟩
      · rw [split]
        simp only [List.mem_append, List.mem_cons] at hq ⊢
        tauto
      · rw [name, ← same]
        exact List.mem_map_of_mem hq

/-- The laws pass as a list of records is lost, and none of those lugs stays in the queue. -/
theorem InFlight.loseAll (l : List LugNo) (h : InFlight slack s) : InFlight slack (l.foldl losePiece s) ∧
    ∀ p ∈ (l.foldl losePiece s).chain.pieces, p ∈ s.chain.pieces ∧ p.lug ∉ l := by
  induction l generalizing s with
  | nil => exact ⟨h, fun p hp => ⟨hp, List.not_mem_nil⟩⟩
  | cons lug l ih =>
    obtain ⟨flight, kept⟩ := h.lose lug
    obtain ⟨flights, rest⟩ := ih flight
    refine ⟨flights, fun p hp => ?_⟩
    obtain ⟨stood, notLater⟩ := rest p hp
    obtain ⟨first, notThis⟩ := kept p stood
    exact ⟨first, by simp [notThis, notLater]⟩

/-- Every record lost at a LINE_RESET (R170). -/
theorem InFlight.finishAll (h : InFlight slack s) :
    InFlight slack (finishAll s) ∧ (Machine.finishAll s).chain.pieces = [] := by
  obtain ⟨flight, kept⟩ := h.loseAll (s.chain.pieces.map Piece.lug)
  have still : Still ((s.chain.pieces.map Piece.lug).foldl losePiece s) (Machine.finishAll s) :=
    .of_blocks (by simp [Machine.finishAll]) (by simp [Machine.finishAll]) (by simp [Machine.finishAll])
      (by simp [Machine.finishAll]) (by simp [Machine.finishAll])
  refine ⟨flight.still still, List.eq_nil_iff_forall_not_mem.mpr fun p hp => ?_⟩
  have same : (Machine.finishAll s).chain = ((s.chain.pieces.map Piece.lug).foldl losePiece s).chain := by
    simp [Machine.finishAll]
  rw [same] at hp
  obtain ⟨stood, gone⟩ := kept p hp
  exact gone (List.mem_map_of_mem stood)

/-! ### An override accepted (R83, R88) -/

/-- An answer may be owed for an open record in place of the one owed before. -/
theorem InFlight.updateAnswers (h : InFlight slack s) (open_ : s.owable lug) (p : PanelId) (tag : Byte) (k : OverrideKind)
    (r : Byte) (owed : Bool) : InFlight slack (updateAnswers p tag lug k r owed s) := by
  have added : InFlight slack (if owed then (dropAnswer lug s).onPanels fun x =>
      { x with answers := x.answers ++ [⟨lug, r, p, tag⟩] } else dropAnswer lug s) := by
    have still : Still s (dropAnswer lug s) := .of_steady (by simp) (dropAnswer_quiet s lug)
    have dropped := h.still still
    split
    · refine { dropped with answers := ?_, owed := fun a ha => ?_ }
      · rw [State.onPanels_panels, List.map_append, List.map_singleton]
        refine List.Nodup.append dropped.answers (List.nodup_singleton _) ?_
        rw [List.disjoint_singleton]
        intro named
        obtain ⟨a, ha, same⟩ := List.mem_map.mp named
        have other := (List.mem_filter.mp ha).2
        simp [same] at other
      · rcases List.mem_append.mp ha with old | new
        · exact dropped.owed a old
        · rw [List.mem_singleton.mp new]
          exact open_
    · exact dropped
  unfold Machine.updateAnswers
  dsimp only
  generalize (if owed then _ else _ : State) = u at added ⊢
  repeat' split
  · exact added
  · exact added.still (.of_steady (by simp) (tellPanel_quiet _ _ _ _))
  · exact added

theorem InFlight.judgeOverride (h : InFlight slack s) (p : PanelId) (tag : Byte) (lug : LugNo) (k : OverrideKind)
    (value : Nat) : InFlight slack (judgeOverride p tag lug k value s) := by
  have answered : ∀ st r, InFlight slack (overrideReply p tag lug st r s) := fun st r =>
    h.still (.of_steady (by simp) (answerPanel_quiet ..))
  unfold Machine.judgeOverride
  split
  · exact answered ..
  split
  · exact answered ..
  rename_i x found
  split
  · exact answered ..
  rename_i notCommitted
  split
  · exact answered ..
  rename_i room
  have quiet := acceptOverride_quiet (p := p) (tag := tag) (k := k) (value := value) found fun needed => by
    simpa [needed] using room
  have open_ : x.isCommitted = false := by simpa using notCommitted
  have steady : (overrideReply p tag lug .accepted (x.revision + 1)
      (changePiece lug (fun y => y.accept p k value) s)).steady = s.steady := by
    rw [overrideReply_steady]
    refine changePiece_steady fun y hy => ?_
    cases found.symm.trans hy
    exact Piece.steady_eq rfl (by simp [open_]) rfl
  have replied : InFlight slack (overrideReply p tag lug .accepted (x.revision + 1)
      (changePiece lug (fun y => y.accept p k value) s)) :=
    h.still (.of_steady steady ((changePiece_quiet s lug _).trans (answerPanel_quiet ..)))
  have owable := ((SamePlace.of_steady steady).owable lug).mpr ⟨x, State.piece?_mem found, piece?_lug found, open_⟩
  refine InFlight.still (.of_steady ?_ quiet) (replied.updateAnswers owable ..)
  rw [acceptOverride_steady found open_, updateAnswers_steady, steady]

end Sys2Proof.Machine
end

section
/-! PROOF. Every step keeps the lists within their bounds with the laws that carry those bounds, and the laws of the
bins (O9): the law of the pieces in flight through every operation, and the whole put together. -/

namespace Sys2Proof.Machine

variable {s t : State} {g : Geometry}

/-! ### The law of the pieces in flight -/

/-- Outside IDLE a geometry set in range stands, in IDLE no piece, and the records, the bins and the answers meet their
laws (R13, R16, R88, R112, R118, R121, R178). -/
structure FlightLaw (s : State) : Prop where
  geometry : ∀ g, s.store.geometry = some g → g.firstBad = none ∧ g.drops.length = 48
  tracked : s.line.state ≠ .idle → s.store.geometry.isSome = true
  idle : s.line.state = .idle → s.chain.pieces = []
  flight : InFlight (fun _ => .settled) s

theorem FlightLaw.still (k : Still s t) (h : FlightLaw s) : FlightLaw t where
  geometry := by rw [k.same.geometry]; exact h.geometry
  tracked := by rw [k.same.geometry, k.same.line]; exact h.tracked
  idle := by
    intro idle
    rw [k.same.line] at idle
    have pieces := k.same.pieces
    rw [h.idle idle] at pieces
    exact List.map_eq_nil_iff.mp pieces
  flight := h.flight.still k

/-- The law passes over an operation outside IDLE that leaves the geometry set. -/
theorem FlightLaw.active (h : FlightLaw s) (active : t.line.state ≠ .idle) (loaded : s.store.geometry.isSome = true)
    (geometry : t.store.geometry = s.store.geometry) (flight : InFlight (fun _ => .settled) t) : FlightLaw t where
  geometry := by rw [geometry]; exact h.geometry
  tracked _ := geometry ▸ loaded
  idle idle := absurd idle active
  flight := flight

theorem FlightLaw.ordered (h : FlightLaw s) (loaded : s.store.geometry = some g) : g.Ordered :=
  Geometry.ordered (h.geometry g loaded).1 (h.geometry g loaded).2

/-- With no record in flight no answer is owed. -/
theorem FlightLaw.none_owed (h : FlightLaw s) (none : s.chain.pieces = []) : s.panels.answers = [] :=
  List.eq_nil_iff_forall_not_mem.mpr fun a ha => by
    obtain ⟨p, hp, _⟩ := h.flight.owed a ha
    rw [none] at hp
    cases hp

/-- The laws of an empty queue. -/
theorem InFlight.of_empty {slack : LugNo → Slack} (pieces : s.chain.pieces = []) (bins : BinsSound s.bins [])
    (answers : s.panels.answers = []) : InFlight slack s where
  distinct := by simp [pieces]
  pieces g _ p hp := by rw [pieces] at hp; cases hp
  bins := pieces ▸ bins
  answers := by simp [answers]
  owed a ha := by rw [answers] at ha; cases ha

/-- The laws of the records in flight do not speak of the line state. -/
theorem InFlight.of_blocks {slack : LugNo → Slack} (chain : t.chain = s.chain) (bins : t.bins = s.bins)
    (geometry : t.store.geometry = s.store.geometry) (panels : t.panels = s.panels) (h : InFlight slack s) :
    InFlight slack t where
  distinct := chain ▸ h.distinct
  pieces := by
    have same : ∀ l, t.position l = s.position l := position_of_lug (by rw [chain])
    simp only [geometry, same, chain]
    exact h.pieces
  bins := by rw [bins, chain]; exact h.bins
  answers := panels ▸ h.answers
  owed a ha := by rw [State.owable, chain]; exact h.owed a (panels ▸ ha)

/-! ### The chain tracker -/

theorem judging_eq_some (h : s.judging = some g) : s.line.state ≠ .idle ∧ s.store.geometry = some g := by
  unfold State.judging at h
  split at h
  · rename_i tracking
    rw [Bool.and_eq_true] at tracking
    exact ⟨by simpa [State.tracking] using tracking.1, h⟩
  · cases h

theorem FlightLaw.lugAdvance (h : FlightLaw s) (active : s.line.state ≠ .idle) (loaded : s.store.geometry = some g)
    (c : Count) (good eye : Bool) : FlightLaw (lugAdvance c good eye s) := by
  refine h.active ?_ (by simp [loaded]) (by simp)
    (h.flight.lugAdvance loaded (h.geometry g loaded).2 (h.ordered loaded) c good eye)
  rw [lugAdvance_line]
  exact active

theorem FlightLaw.setSuspect (h : FlightLaw s) (active : s.line.state ≠ .idle) (cause : SuspectCause) :
    FlightLaw (setSuspect cause s) := by
  obtain ⟨g, loaded⟩ := Option.isSome_iff_exists.mp (h.tracked active)
  exact h.active (by simpa using active) (by simp [loaded]) (by simp) (h.flight.setSuspect loaded cause)

/-- A change of the chain block apart from the records and the lug number. -/
theorem onChain_still {f : Chain → Chain} (pieces : (f s.chain).pieces = s.chain.pieces)
    (lug : (f s.chain).lug = s.chain.lug) : Still s (s.onChain f) :=
  ⟨.of_blocks pieces lug rfl rfl rfl, .refl _⟩

theorem FlightLaw.weighMissed (h : FlightLaw s) (eye : Bool) : FlightLaw (weighMissed eye s) := by
  unfold Machine.weighMissed
  split
  · exact h
  rename_i g judged
  split
  · obtain ⟨active, loaded⟩ := judging_eq_some judged
    have lost : FlightLaw (s.onChain fun c => { c with goodRun := 0 }) := h.still (onChain_still rfl rfl)
    have missed := FlightLaw.still (.of_steady (countFault_steady _ .missed) (countFault_quiet _ .missed))
      (lost.setSuspect active .missed)
    exact missed.lugAdvance (by simpa [countFault] using active) (by simpa using loaded) _ _ _
  · exact h

theorem FlightLaw.judgeEdge (h : FlightLaw s) (eye : Bool) : FlightLaw (judgeEdge eye s) := by
  unfold Machine.judgeEdge
  split
  · exact h
  rename_i g judged
  obtain ⟨active, loaded⟩ := judging_eq_some judged
  have lost : FlightLaw (s.onChain fun c => { c with goodRun := 0 }) := h.still (onChain_still rfl rfl)
  have disarmed : FlightLaw (s.onChain fun c => { c with lockOn := false }) := h.still (onChain_still rfl rfl)
  repeat' split
  · exact h
  · exact disarmed.lugAdvance active loaded _ _ _
  · exact FlightLaw.still (.of_steady (countFault_steady _ .extra) (countFault_quiet _ .extra))
      (lost.setSuspect active .extra)
  · exact h
  · exact h.lugAdvance active loaded _ _ _

theorem Chain.move_still (c : Chain) (forward : Bool) :
    ((((c.move forward).legalRun).clearError).followHighest forward).pieces = c.pieces ∧
      ((((c.move forward).legalRun).clearError).followHighest forward).lug = c.lug := by
  unfold Chain.followHighest Chain.clearError Chain.legalRun Chain.move
  dsimp only
  repeat' split
  all_goals exact ⟨rfl, rfl⟩

theorem Chain.clearError_still (c : Chain) : c.clearError.pieces = c.pieces ∧ c.clearError.lug = c.lug := by
  unfold Chain.clearError; split <;> exact ⟨rfl, rfl⟩

theorem Chain.endHold_still (c : Chain) : c.endHold.pieces = c.pieces ∧ c.endHold.lug = c.lug := by
  unfold Chain.endHold; repeat' split
  all_goals exact ⟨rfl, rfl⟩

theorem FlightLaw.weighReversal (h : FlightLaw s) : FlightLaw (weighReversal s) := by
  unfold Machine.weighReversal
  split
  · exact h
  rename_i g judged
  obtain ⟨active, _⟩ := judging_eq_some judged
  split
  · have held : FlightLaw (s.onChain fun c => { c with goodRun := 0, hold := some c.highest }) :=
      h.still (onChain_still rfl rfl)
    refine FlightLaw.still ?_ (held.setSuspect active .reversal)
    exact .of_blocks (by simp [reversal]) (by simp [reversal]) (by simp [reversal, countFault]) (by simp [reversal])
      (by simp [reversal])
  · exact h

theorem FlightLaw.chainTransition (h : FlightLaw s) (forward eye : Bool) : FlightLaw (chainTransition forward eye s) := by
  have moved : FlightLaw (s.onChain fun c => (((c.move forward).legalRun).clearError).followHighest forward) :=
    h.still (onChain_still (s.chain.move_still forward).1 (s.chain.move_still forward).2)
  have ended := moved.weighReversal.still (onChain_still (Chain.endHold_still _).1 (Chain.endHold_still _).2)
  refine FlightLaw.weighMissed (ended.still ?_) eye
  exact .of_blocks (by simp) (by simp) (by simp) (by simp) (by simp)

/-! ### HALT and the line's moves -/

theorem FlightLaw.haltingFault (h : FlightLaw s) (cause : HaltCause) : FlightLaw (haltingFault cause s) := by
  have counted : FlightLaw (countFault cause.fault s) := h.still (.of_steady (by simp) (countFault_quiet _ _))
  have entered : s.line.state = .standby ∨ s.line.state = .run → FlightLaw (enterHalt cause (countFault cause.fault s)) := by
    intro running
    have loaded : s.store.geometry.isSome = true := h.tracked (by rcases running with h | h <;> simp [h])
    have halted : FlightLaw (lineEvent .haltEntered (some (.halting cause)) (some (countFault cause.fault s).line.state)
        ((countFault cause.fault s).onLine fun l => { l with state := .halt, haltCause := some cause })) :=
      counted.active (by simp) loaded (by simp) (.of_blocks (by simp) (by simp) (by simp) (by simp) counted.flight)
    unfold enterHalt
    dsimp only
    generalize noticed : lineEvent _ _ _ _ = u at halted ⊢
    have cancelled : FlightLaw (cancelAll u) :=
      halted.still (.of_blocks (by simp) (by simp) (by simp) (by simp) (by simp))
    refine FlightLaw.still ?_ (cancelled.setSuspect (by simp [← noticed]) .halt)
    exact .of_blocks (by simp) (by simp) (by simp) (by simp) (by simp)
  unfold Machine.haltingFault
  dsimp only
  split
  case h_1 standby => exact entered (.inl standby)
  case h_2 run => exact entered (.inr run)
  all_goals exact counted.still (.of_steady (lineEvent_steady _ _ _ _) (queueNotice_quiet _ _))

theorem BinsSound.reset : BinsSound (List.replicate 48 Bin.reset) [] where
  number := List.length_replicate
  each b x hx := by
    obtain rfl := List.eq_of_mem_replicate (List.mem_of_getElem? hx)
    exact ⟨⟨by decide, by decide⟩, by decide, rfl, fun _ => rfl⟩

theorem FlightLaw.lineReset (h : FlightLaw s) : FlightLaw (lineResetState s) := by
  obtain ⟨flight, none⟩ := h.flight.finishAll
  have pieces : (lineResetState s).chain.pieces = [] := by
    simpa [lineResetState, resetBlocks] using none
  have bins : (lineResetState s).bins = (finishAll s).bins := by simp [lineResetState]
  have geometry : (lineResetState s).store.geometry = s.store.geometry := by
    simp [lineResetState, resetBlocks, (abortSequence_store _).2.2]
  have idle : (lineResetState s).line.state = .idle := by simp [lineResetState, resetLine]
  refine ⟨by rw [geometry]; exact h.geometry, fun active => absurd idle active, fun _ => pieces, ?_⟩
  refine .of_empty pieces ?_ (by simp [lineResetState, resetBlocks])
  rw [bins, ← none]
  exact flight.bins

theorem setLine_line (st : LineState) (s : State) : (setLine st s).line = { s.line with state := st } := by
  simp [setLine]

/-- A move of the line outside IDLE with nothing else changed but the forced hold. -/
theorem FlightLaw.setLine (h : FlightLaw s) (st : LineState) (active : st ≠ .idle)
    (loaded : s.store.geometry.isSome = true) : FlightLaw (setLine st s) :=
  h.active (by simpa [setLine_line] using active) loaded (by simp)
    (.of_blocks (by simp) (by simp) (by simp) (by simp) h.flight)

/-! ### Every operation -/

/-- One bin changed so that it is as sound as it was. -/
theorem FlightLaw.changeOne (h : FlightLaw s) (chain : t.chain = s.chain) (panels : t.panels = s.panels)
    (line : t.line = s.line) (store : t.store = s.store) {bin : Nat} {f : Bin → Bin}
    (bins : t.bins = setAt s.bins bin f) (sound : ∀ n x, s.bins[bin]? = some x → x.Sound n → (f x).Sound n) :
    FlightLaw t where
  geometry := by rw [store]; exact h.geometry
  tracked := by rw [store, line]; exact h.tracked
  idle := by rw [line, chain]; exact h.idle
  flight :=
    { InFlight.of_blocks (t := { t with bins := s.bins }) chain rfl (by rw [store]) panels h.flight with
      bins := by
        rw [bins, chain]
        exact h.flight.bins.setAt (fun _ _ => rfl) fun x hx => sound _ x hx }

theorem weighHost_still (s : State) : Still s (weighHost s) :=
  .of_blocks (by simp) (by simp) (by simp) (by simp) (by simp)

theorem clearSuspectNoticed_chain (s : State) : (clearSuspectNoticed s).chain = { s.chain with suspect := none } := by
  unfold clearSuspectNoticed
  cases set : s.chain.suspect with
  | some c => simp
  | none =>
    rw [Option.isSome_none, if_neg Bool.false_ne_true, ← set]

theorem clearSuspectNoticed_still (s : State) : Still s (clearSuspectNoticed s) :=
  ⟨.of_blocks (by rw [clearSuspectNoticed_chain]) (by rw [clearSuspectNoticed_chain]) (by simp) (by simp) (by simp),
    (clearSuspectNoticed_quiet s).answers⟩

theorem takeActivation_geometry (x : BankId) (s : State) :
    (takeActivation x s).store.geometry = s.store.geometry := by
  have activated : (s.activated x).store.geometry = s.store.geometry := by
    unfold State.activated
    cases s.activeBank <;> simp
  rw [takeActivation_eq, ← activated]
  unfold State.adopted
  cases (((s.activated x).bank x).governorRow) <;> simp

theorem takeActivation_still (x : BankId) (s : State) : Still s (takeActivation x s) :=
  .of_blocks (by simp) (by simp) (by simp) (takeActivation_geometry x s) (by simp)

theorem FlightLaw.serve : ServeKept FlightLaw where
  clearCounters s h := h.still (.of_steady (by simp) ((serve_quiet s).clearCounters s (.refl s)))
  enterStandby s idle loaded _ h := by
    have begun := h.setLine .standby (by simp) loaded
    have armed : FlightLaw ((Machine.setLine .standby s).onChain fun c =>
        { c with highest := c.count, goodRun := 0, hold := none, lockOn := true }) := begun.still (onChain_still rfl rfl)
    have cleared : ∀ u, Still u (clearHeld u) := fun u => .of_blocks rfl rfl rfl rfl rfl
    exact (armed.still (clearSuspectNoticed_still _)).still (cleared _)
  toRun s standby h := h.setLine .run (by simp) (h.tracked (by simp [standby]))
  toStandby s run h := h.setLine .standby (by simp) (h.tracked (by simp [run]))
  enterIdle s _ empty h := by
    have none : s.chain.pieces = [] := by
      have all := empty
      simp only [State.lineEmpty, Bool.and_eq_true, List.isEmpty_iff] at all
      exact all.1.1.1
    have geometry : (enterIdle s).store.geometry = s.store.geometry := by simp [enterIdle]
    have pieces : (enterIdle s).chain.pieces = [] := by simpa [enterIdle] using none
    refine ⟨by rw [geometry]; exact h.geometry, fun active => absurd ?_ active, fun _ => pieces, .of_empty pieces ?_ ?_⟩
    · simp [enterIdle, setLine_line]
    · have bins := h.flight.bins
      rw [none] at bins
      simpa using bins
    · simpa using h.none_owed none
  lineReset s h := h.lineReset
  takeGeometry g s idle inRange drops h := by
    have none := h.idle idle
    have loaded : FlightLaw (s.onStore fun st => { st with geometry := some g }) := by
      refine ⟨fun g' hg' => ?_, fun _ => rfl, h.idle, .of_empty none ?_ (h.none_owed none)⟩
      · cases hg'; exact ⟨inRange, drops⟩
      · have bins := h.flight.bins
        rwa [none] at bins
    have weighed : ∀ p (u : State), FlightLaw u → FlightLaw (weighPanelTimer p u) := fun p u =>
      FlightLaw.still (.of_steady (by simp) (weighPanelTimer_quiet u p))
    exact (weighed .p2 _ (weighed .p1 _ loaded)).still (weighHost_still _)
  openSequence x kind s _ _ _ _ h := h.still (.of_blocks (by simp [openSequence]) (by simp [openSequence])
    (by simp [openSequence]) (by simp [openSequence]) (by simp [openSequence]))
  storeEntries x kind offset es s _ h := h.still (.of_blocks (by simp [storeEntries]) (by simp [storeEntries])
    (by simp [storeEntries]) (by simp [storeEntries]) (by simp [storeEntries]))
  closeSequence x kind next b s _ h := h.still (.of_blocks (by simp [closeSequence, tableReply])
    (by simp [closeSequence, tableReply]) (by simp [closeSequence, tableReply]) (by simp [closeSequence, tableReply])
    (by simp [closeSequence, tableReply]))
  takeActivation x s _ _ _ h := h.still (takeActivation_still x s)
  leavePending x s _ _ _ h := FlightLaw.still (s := s) (.of_blocks rfl rfl rfl rfl rfl) h
  setCapacity bin value b s stands enough most h := by
    refine h.changeOne (by simp) (by simp) (by simp) (by simp) (changeBin_bins bin _ _ s) fun n x hx sound => ?_
    cases stands.symm.trans hx
    exact ⟨⟨enough, most⟩, rfl, sound.reserved, sound.outOfService⟩
  openBin bin s h := h.changeOne rfl rfl rfl rfl (State.onBins_bins _ _) fun n x _ sound =>
    ⟨sound.room, sound.full, sound.reserved, fun out => (by cases out)⟩
  closeBin bin s h := h.changeOne rfl rfl rfl rfl (State.onBins_bins _ _) fun n x _ sound =>
    ⟨sound.room, sound.full, sound.reserved, fun out => (by cases out)⟩
  emptied bin s h := by
    refine h.changeOne (by simp) (by simp) (by simp) (by simp) (changeBin_bins bin _ _ s) fun n x _ sound => ?_
    have room := sound.room
    exact ⟨⟨by dsimp only; omega, room.2⟩, rfl, sound.reserved, sound.outOfService⟩
  outOfService bin s h := by
    obtain ⟨chain, _, line, store⟩ := takeOutOfService_eq h.flight.distinct bin
    refine ⟨by rw [store]; exact h.geometry, by rw [store, line]; exact h.tracked, fun idle => ?_,
      h.flight.outOfService bin⟩
    rw [line] at idle
    rw [chain, h.idle idle, List.map_nil]
  lastProfile _ s h := FlightLaw.still (s := s) (.of_blocks rfl rfl rfl rfl rfl) h
  clearSuspect s _ h := h.still (clearSuspectNoticed_still s)
  leaveHalt s halted h := h.active (by simp [leaveHalt, setLine_line]) (h.tracked (by simp [halted])) (by simp)
    (.of_blocks (by simp) (by simp) (by simp) (by simp) h.flight)
  tallyClose n s h := h.still (.of_blocks (by simp) (by simp) (by simp) (by simp) (by simp))
  releaseSnapshot s h := FlightLaw.still (s := s) (.of_blocks rfl rfl rfl rfl rfl) h

end Sys2Proof.Machine
end

section
/-! PROOF. Every step keeps the lists within their bounds with the laws that carry those bounds, and the laws of the
bins (O9): the law of the pieces in flight through every step, and the laws put together. -/

namespace Sys2Proof.Machine

variable {s t : State}

/-- An operation on the logs, which leaves the chain, the bins, the panels and the geometry set. -/
theorem FlightLaw.logs (h : FlightLaw s) (chain : t.chain = s.chain) (bins : t.bins = s.bins)
    (panels : t.panels = s.panels) (store : t.store = s.store) (line : t.line.state = s.line.state) : FlightLaw t :=
  h.still (.of_blocks chain bins line (by rw [store]) panels)

theorem startLog_state (s : State) : (startLog s).line.state = s.line.state := by
  unfold startLog
  dsimp only
  split <;> rfl

theorem flightLaw_reset (rate : Nat) (estop eye : Bool) (l : List Instr) :
    FlightLaw { State.afterReset rate estop eye with pending := l } := by
  refine ⟨fun g hg => (by cases hg), fun active => absurd rfl active, fun _ => rfl, .of_empty rfl ?_ rfl⟩
  exact BinsSound.reset

theorem kept_flightLaw : Kept FlightLaw where
  fullReset rate estop s _ := flightLaw_reset rate estop s.scan.eye s.pending
  chainTransition forward eye s h := h.chainTransition forward eye
  chainIllegal s h := by
    have marked : FlightLaw (s.onChain fun c => { c with encError := true, encRun := 0 }) :=
      h.still (onChain_still rfl rfl)
    exact marked.haltingFault .encoder
  clearError s h := h.still (onChain_still s.chain.clearError_still.1 s.chain.clearError_still.2)
  endHold s h := h.still (onChain_still s.chain.endHold_still.1 s.chain.endHold_still.2)
  judgeEdge eye s h := h.judgeEdge eye
  weighMissed eye s h := h.weighMissed eye
  assertEstop s h := by
    unfold assertEstop
    split
    · exact h
    · have asserted : FlightLaw (s.onLine fun l => { l with estopIn := true }) :=
        FlightLaw.still (s := s) (.of_blocks rfl rfl rfl rfl rfl) h
      exact asserted.haltingFault .estop
  releaseEstop s h := FlightLaw.still (s := s) (.of_blocks rfl rfl rfl rfl rfl) h
  turnEntriesOn enc s h := FlightLaw.still (s := s) (.of_blocks rfl rfl rfl rfl rfl) h
  endEntries enc s h := FlightLaw.still (s := s) (.of_blocks rfl rfl rfl rfl rfl) h
  judgeSegment head body s h := h.still (.of_steady (by simp) (judgeSegment_quiet s head body))
  completeConversion raw s h := h.still (.of_steady (by simp) (completeConversion_quiet s raw))
  startSolve s h := h.still (.of_steady (by simp) (startSolve_quiet s))
  completeSolve s h := h.still (.of_steady (by simp) (completeSolve_quiet s))
  panelHeard p s h := h.still (.of_steady (by simp) (panelHeard_quiet s p))
  answerPanel p kind tag body s h := h.still (.of_steady (by simp) (answerPanel_quiet s p kind tag body))
  judgeOverride p tag lug k value s h := by
    have steady := judgeOverride_steady p tag lug k value s
    have same := SamePlace.of_steady steady
    have placed := h.still (t := { judgeOverride p tag lug k value s with panels := s.panels })
      ⟨⟨same.pieces, same.lug, same.bins, same.line, same.geometry⟩, .refl _⟩
    exact { placed with flight := h.flight.judgeOverride p tag lug k value }
  panelSilent p s h := by
    have timed : Quiet s (panelSilent p s) := by
      refine Quiet.trans ?_ (weighPanelTimer_quiet _ p)
      exact onPort_quiet p s fun _ => id
    exact h.still (.of_steady (by simp) timed)
  panelSent p s h := h.still (.of_steady (by simp) (panelSent_quiet s p))
  tickPanel p s h := by
    have timed : Quiet s (tickPanel p s) := by
      refine Quiet.trans ?_ (weighPanelTimer_quiet _ p)
      exact onPort_quiet p s fun _ => id
    exact h.still (.of_steady (by simp) timed)
  logTransition forward s h := h.logs (by simp) (by simp) (by simp) (by simp) (logTransition_calm s forward).state
  logEncoderFault s h := h.logs (by simp) (by simp) (by simp) (by simp) (logEncoderFault_calm s).state
  weighKicks s h := h.logs (by simp) (by simp) (by simp) (by simp) (weighKicks_calm s).state
  startLog s h := h.logs (by simp) (by simp) (by simp) (by simp) (startLog_state s)
  takeSection dx dy cx cy s h := h.logs (by simp) (by simp) (by simp) (by simp) (takeSection_calm s dx dy cx cy).state
  endLog s h := h.logs (by simp) (by simp) (by simp) (by simp) (endLog_calm s).state
  countFrameError port s h := h.still (.of_steady (by simp) (countFrameError_quiet s port))
  setReceiver port r s h := h.still (.of_blocks (by simp) (by simp) (by simp) (by simp) (by simp))
  receiveRequest f s h := h.still (.of_blocks (by simp) (by simp) (by simp) (by simp) (by simp))
  takeRequest f s _ h := by
    have serving : FlightLaw s.serving := FlightLaw.still (s := s) (.of_blocks rfl rfl rfl rfl rfl) h
    refine takeRequest_kept (P := FlightLaw) (Q := FlightLaw) serving (fun r body t => FlightLaw.serve.serve r body)
      fun r t ht => ht.still ?_
    exact .of_blocks (by simp) (by simp) (by simp) (by simp) (by simp)
  hostTimerReached s h := by
    have timed : FlightLaw (s.onLink fun l => { l with timer := max l.timer (s.hostTimeoutMs.getD 0) }) :=
      FlightLaw.still (s := s) (.of_blocks rfl rfl rfl rfl rfl) h
    exact timed.still (weighHost_still _)
  tickHost s h := by
    have timed : FlightLaw (s.onLink fun l => { l with timer := min (l.timer + 1) s.hostTimerMax }) :=
      FlightLaw.still (s := s) (.of_blocks rfl rfl rfl rfl rfl) h
    exact timed.still (weighHost_still _)
  transmitDone s h := h.still (.of_blocks (by simp) (by simp) (by simp) (by simp) (by simp))

/-! ### The bounds of the piece queue and the answer list (R16, R88) -/

/-- The records stand at different positions short of the run-out, so that they are no more than its lugs. -/
theorem FlightLaw.pieces_length (h : FlightLaw s) : s.chain.pieces.length ≤ 128 := by
  cases loaded : s.store.geometry with
  | none =>
    have idle : s.line.state = .idle := by
      by_contra active
      have := h.tracked active
      rw [loaded] at this
      cases this
    rw [h.idle idle]
    exact Nat.zero_le _
  | some g =>
    have range : ∀ p ∈ s.chain.pieces, s.position p.lug < 128 := fun p hp => by
      have standing := (h.flight.pieces g loaded p hp).standing
      have last := (h.ordered loaded).runOut
      simp only [Slack.settled] at standing
      omega
    have positions : (s.chain.pieces.map fun p => s.position p.lug).Nodup := by
      have injective : Function.Injective s.position := fun a b same => by
        unfold State.position at same
        bv_omega
      have all := h.flight.distinct.map injective
      rwa [List.map_map] at all
    have bounded := (List.subperm_of_subset positions (l₂ := List.range 128) fun n hn => by
      obtain ⟨p, hp, rfl⟩ := List.mem_map.mp hn
      exact List.mem_range.mpr (range p hp)).length_le
    simpa using bounded

theorem FlightLaw.answers_length (h : FlightLaw s) : s.panels.answers.length ≤ 128 := by
  have named := (List.subperm_of_subset h.flight.answers (l₂ := s.chain.pieces.map Piece.lug) fun l hl => by
    obtain ⟨a, ha, rfl⟩ := List.mem_map.mp hl
    obtain ⟨p, hp, same, _⟩ := h.flight.owed a ha
    exact same ▸ List.mem_map_of_mem hp).length_le
  have bound := h.pieces_length
  simp only [List.length_map] at named
  omega

/-! ### The laws of the specification -/

/-- The law of the pieces in flight is that of the piece queue and the answer list with that of the bins. -/
theorem flightLaw_iff (s : State) : FlightLaw s ↔ QueueLaw s ∧ BinLaw s := by
  constructor
  · intro h
    have free : ∀ p ∈ s.chain.pieces, ∃ g, s.store.geometry = some g ∧ p.InPlace g (s.position p.lug) .settled := by
      intro p hp
      cases loaded : s.store.geometry with
      | none =>
        have idle : s.line.state = .idle := by
          by_contra active
          have := h.tracked active
          rw [loaded] at this
          cases this
        rw [h.idle idle] at hp
        cases hp
      | some g => exact ⟨g, rfl, h.flight.pieces g loaded p hp⟩
    refine ⟨⟨h.geometry, h.tracked, h.idle, h.flight.distinct, fun g loaded p hp => ?_, fun g loaded p hp open_ => ?_,
      h.flight.answers, fun a ha => ?_⟩, ⟨h.flight.bins.number, fun x hx => ?_, fun x hx => ?_, fun b x hx => ?_,
      fun x hx => ?_, fun p hp b dest => ?_, fun p hp open_ => ?_, fun g loaded p hp stage => ?_⟩⟩
    · exact (h.flight.pieces g loaded p hp).standing
    · exact ((h.flight.pieces g loaded p hp).uncommitted (Piece.isCommitted_eq_false.mpr open_)).1
    · obtain ⟨p, hp, same, open_⟩ := h.flight.owed a ha
      exact ⟨p, hp, same, Piece.isCommitted_eq_false.mp open_⟩
    · obtain ⟨b, hb⟩ := List.getElem?_of_mem hx
      exact (h.flight.bins.each b x hb).room
    · obtain ⟨b, hb⟩ := List.getElem?_of_mem hx
      exact (h.flight.bins.each b x hb).full
    · exact (h.flight.bins.each b x hx).reserved
    · obtain ⟨b, hb⟩ := List.getElem?_of_mem hx
      exact (h.flight.bins.each b x hb).outOfService
    · obtain ⟨g, loaded, law⟩ := free p hp
      obtain ⟨stage, suspect, keep, near⟩ := law.bound b dest
      refine ⟨stage, suspect, keep, fun g' loaded' => ?_⟩
      cases loaded.symm.trans loaded'
      exact near
    · obtain ⟨g, _, law⟩ := free p hp
      exact (law.uncommitted (Piece.isCommitted_eq_false.mpr open_)).2
    · exact (h.flight.pieces g loaded p hp).committed stage
  · rintro ⟨q, b⟩
    refine ⟨q.geometry, q.tracked, q.idle, q.distinct, fun g loaded p hp => ⟨?_, fun open_ => ⟨?_, ?_⟩, fun stage => ?_,
      fun i dest => ?_⟩, ⟨b.number, fun i x hx => ⟨?_, ?_, ?_, ?_⟩⟩, q.answers, fun a ha => ?_⟩
    · exact q.standing g loaded p hp
    · exact q.uncommitted g loaded p hp (Piece.isCommitted_eq_false.mp open_)
    · exact b.uncommitted p hp (Piece.isCommitted_eq_false.mp open_)
    · exact b.committed g loaded p hp stage
    · obtain ⟨stage, suspect, keep, near⟩ := b.bound p hp i dest
      exact ⟨stage, suspect, keep, near g loaded⟩
    · exact b.room x (List.mem_of_getElem? hx)
    · exact b.full x (List.mem_of_getElem? hx)
    · exact b.reserved i x hx
    · exact b.outOfService x (List.mem_of_getElem? hx)
    · obtain ⟨p, hp, same, open_⟩ := q.owed a ha
      exact ⟨p, hp, same, Piece.isCommitted_eq_false.mpr open_⟩

/-- The bounds of the lists with their laws are the three laws proved block by block. -/
theorem capacityLaw_iff (s : State) : CapacityLaw s ↔ ListLaw s ∧ ScheduleLaw s ∧ FlightLaw s := by
  constructor
  · intro h
    refine ⟨⟨h.history, h.solver, fun p => ?_, h.notices, h.requests, h.replyLaw⟩,
      ⟨h.schedule, h.logQueue, h.samples, h.record, h.goodRun⟩, (flightLaw_iff s).mpr ⟨h.queueLaw, h.binLaw⟩⟩
    cases p
    · exact h.panel1
    · exact h.panel2
  · rintro ⟨lists, schedule, flight⟩
    obtain ⟨queueLaw, binLaw⟩ := (flightLaw_iff s).mp flight
    exact ⟨lists.history, lists.solver, lists.ports .p1, lists.ports .p2, schedule.schedule, schedule.logQueue,
      schedule.samples, schedule.record, lists.requests, (Nat.le_add_right _ _).trans lists.reply.bound, lists.notices,
      schedule.goodRun, flight.pieces_length, flight.answers_length, lists.reply, queueLaw, binLaw⟩

/-- Settles O9: each of the three laws is kept by every operation. -/
theorem everyStepKeepsCapacityLaw : Obligations.EveryStepKeepsCapacityLaw := by
  intro s t law taken
  obtain ⟨lists, schedule, flight⟩ := (capacityLaw_iff s).mp law
  refine (capacityLaw_iff t).mpr ⟨?_, ?_, ?_⟩
  · exact kept_listLaw.step (fun _ _ h => { h with }) lists taken
  · exact calmKept_scheduleLaw.kept.step (fun _ _ h => { h with }) schedule taken
  · refine kept_flightLaw.step (fun u l h => ?_) flight taken
    exact FlightLaw.still (s := u) (.of_blocks rfl rfl rfl rfl rfl) h

end Sys2Proof.Machine
end

section
/-! PROOF. The resets and the small operations: what a full reset leaves (O4, O5), the commands that weigh again (O21), a
halting fault in IDLE or HALT (O23), the reports turned away (O24), a panel's silence and its port (O32), and the start of
a log (O38). -/

namespace Sys2Proof.Machine

/-! ### The full reset -/

/-- Settles O4. -/
theorem fullResetValues : Obligations.FullResetValues := by
  intro first second estop s
  refine ⟨_, rfl, rfl, rfl, rfl, rfl, fun p => ?_, rfl, rfl, rfl, rfl, rfl, rfl, rfl, rfl, rfl, rfl⟩
  cases p <;> rfl

theorem laws_afterReset (rate : Nat) (estop eye : Bool) :
    LifetimeLaw (State.afterReset rate estop eye) ∧ HaltLaw (State.afterReset rate estop eye) ∧
      BankLaw (State.afterReset rate estop eye) ∧ CapacityLaw (State.afterReset rate estop eye) :=
  ⟨rfl, calmKept_haltLaw.fullReset rate estop eye [], calmKept_bankLaw.fullReset rate estop eye [],
    (capacityLaw_iff _).mpr ⟨listLaw_reset rate estop eye [], calmKept_scheduleLaw.fullReset rate estop eye [],
      flightLaw_reset rate estop eye []⟩⟩

/-- Settles O5. -/
theorem resetMeetsTheLaws : Obligations.ResetMeetsTheLaws :=
  ⟨laws_afterReset 0 false false, laws_afterReset⟩

/-! ### Entries and conditions weighed again (R2, R9, R104) -/

theorem filterMap_of_guard {α : Type} {f : α → Option α} {p : α → Bool} {g : α → α}
    (h : ∀ e, f e = if p e then some (g e) else none) (l : List α) : l.filterMap f = (l.filter p).map g := by
  induction l with
  | nil => rfl
  | cons e l ih =>
    rw [List.filterMap_cons, h, ih]
    cases pe : p e <;> simp [pe]

theorem Entry.turnOn_eq (c : Count) (e : Entry) : e.turnOn c =
    if (e.on || !reached c e.start || !reached c e.stop) then some { e with on := e.on || reached c e.start } else none := by
  obtain ⟨line, start, stop, owner, kind, on⟩ := e
  unfold Entry.turnOn
  cases on
  · cases reached c start <;> cases reached c stop <;> rfl
  · rfl

theorem Entry.finish_eq (c : Count) (e : Entry) :
    e.finish c = if !(e.on && reached c e.stop) then some e else none := by
  unfold Entry.finish
  cases e.on && reached c e.stop <;> rfl

theorem setEntries_entries (o : Output) (enc : EncoderId) (es : List Entry) : (o.setEntries enc es).entries enc = es ∧
    ∀ other, other ≠ enc → (o.setEntries enc es).entries other = o.entries other := by
  cases enc
  all_goals
    refine ⟨rfl, fun other ne => ?_⟩
    cases other
  · exact absurd rfl ne
  · rfl
  · rfl
  · exact absurd rfl ne

/-- Settles O21: the entries by the two guards of R104, the conditions by their equations. -/
theorem entriesAndConditionsEnd : Obligations.EntriesAndConditionsEnd := by
  refine ⟨fun enc s => ⟨⟨_, rfl, rfl, linesFollow_setEntries _ _ _, ?_, ?_⟩,
    ⟨_, rfl, rfl, linesFollow_setEntries _ _ _, ?_, ?_⟩⟩, fun s error run => ?_, fun s short => ?_, fun s h held back => ?_,
    fun s below => ?_⟩
  · rw [← filterMap_of_guard (Entry.turnOn_eq (s.encoderCount enc))]
    exact (setEntries_entries _ _ _).1
  · exact (setEntries_entries _ _ _).2
  · refine (setEntries_entries _ _ _).1.trans ?_
    rw [filterMap_of_guard (g := id) (Entry.finish_eq (s.encoderCount enc)), List.map_id]
  · exact (setEntries_entries _ _ _).2
  · refine congrArg Host.Outcome.next (congrArg (fun c => { s with chain := c }) ?_)
    simp [Chain.clearError, error, run]
  · refine congrArg Host.Outcome.next (congrArg (fun c => { s with chain := c }) ?_)
    unfold Chain.clearError
    rcases short with clear | short
    · simp [clear]
    · simp [Nat.not_le.mpr short]
  · refine congrArg Host.Outcome.next (congrArg (fun c => { s with chain := c }) ?_)
    simp [Chain.endHold, held, back]
  · refine congrArg Host.Outcome.next (congrArg (fun c => { s with chain := c }) ?_)
    unfold Chain.endHold
    split
    · rename_i h held
      rw [if_neg (by simp [below h held])]
    · rfl

/-! ### A halting fault in IDLE or HALT (R165) -/

theorem haltingFault_unmoved (cause : HaltCause) {s : State} (still : s.line.state = .idle ∨ s.line.state = .halt) :
    haltingFault cause s = lineEvent .haltingFault (some (.halting cause)) none (countFault cause.fault s) := by
  unfold haltingFault
  rcases still with idle | halt
  · simp only [idle]
  · simp only [halt]

/-- What a LINE_EVENT leaves as it is. -/
theorem lineEvent_eq (k : LineEventKind) (c : Option EventCause) (l : Option LineState) (s : State) :
    OnlyPressure s (lineEvent k c l s) ∧ lineEvent k c l s = { s with
      link := s.link.noticed (.lineEvent k c s.line.state l s.chain.lug s.chain.goodRun)
      governor := (lineEvent k c l s).governor } := by
  refine ⟨lineEvent_onlyPressure s k c l, ?_⟩
  apply State.eq_of_blocks
  case link => exact lineEvent_link s k c l
  all_goals simp

/-- Settles O23. -/
theorem haltingFaultElsewhere : Obligations.HaltingFaultElsewhere := by
  refine ⟨fun s still => ⟨?_, fun released => ?_⟩, fun s => rfl, fun s asserted => ?_⟩
  · have faulted := haltingFault_unmoved .encoder (s := s.onChain fun c => { c with encError := true, encRun := 0 }) still
    obtain ⟨pressure, eq⟩ := lineEvent_eq .haltingFault (some (.halting .encoder)) none (countFault .encoder
      (s.onChain fun c => { c with encError := true, encRun := 0 }))
    refine ⟨_, congrArg Host.Outcome.next faulted, pressure, eq⟩
  · have faulted := haltingFault_unmoved .estop (s := s.onLine fun l => { l with estopIn := true }) still
    obtain ⟨pressure, eq⟩ := lineEvent_eq .haltingFault (some (.halting .estop)) none (countFault .estop
      (s.onLine fun l => { l with estopIn := true }))
    refine ⟨_, congrArg Host.Outcome.next ?_, pressure, eq⟩
    rw [assertEstop, released]
    exact faulted
  · refine congrArg Host.Outcome.next ?_
    rw [assertEstop, if_pos asserted]

/-! ### The reports turned away (R31 to R33) -/

/-- Settles O24: R31's steps in their order. -/
theorem segmentsTurnedAway : Obligations.SegmentsTurnedAway := by
  intro s h body
  have run : ∀ {t}, judgeSegment h body s = t → exec (.segment h body) s = .next t := fun eq =>
    congrArg Host.Outcome.next eq
  refine ⟨fun malformed => run ?_, fun f read => ⟨fun unknown => run ?_, fun empty => run ?_, fun filled =>
    ⟨fun gone => run ?_, fun p found scanning => ⟨fun wrong => run ?_, fun first last mapped head count again => run ?_⟩⟩⟩⟩
  · simp only [judgeSegment, malformed]
    rfl
  · simp only [judgeSegment, read, unknown]
    rfl
  · simp only [judgeSegment, read, empty]
    rfl
  · simp only [judgeSegment, read, filled]
    cases found : s.piece? f.lug with
    | none => rfl
    | some p => simp only [if_neg (gone p found)]; rfl
  · simp only [judgeSegment, read, filled, found, scanning, if_true, judgeReport]
    cases mapped : (s.bank p.bank).headRun h.val with
    | none => rfl
    | some run_ => simp only [if_pos (wrong run_.1 run_.2 mapped)]; rfl
  · have right : ¬ (f.head ≠ h.val ∨ f.count ≠ last - first + 1) := by simp [head, count]
    simp only [judgeSegment, read, filled, found, scanning, if_true, judgeReport, mapped, if_neg right, if_neg again]
    rfl

/-! ### A panel's silence and its port (R74, R75) -/

theorem port_onPort (p : PanelId) (f : PanelPort → PanelPort) (s : State) :
    (onPort p f s).panels.port p = f (s.panels.port p) ∧
    (onPort p f s).panels.port (otherPanel p) = s.panels.port (otherPanel p) ∧
    (onPort p f s).panels.answers = s.panels.answers ∧ onPort p f s = { s with panels := (onPort p f s).panels } := by
  cases p <;> exact ⟨rfl, rfl, rfl, rfl⟩

/-- A change of presence, with its PANEL_EVENT (R75). -/
theorem setPresence_spec (p : PanelId) (present : Bool) (s : State) :
    (setPresence p present s).panels.port p = { s.panels.port p with present } ∧
    (setPresence p present s).panels.port (otherPanel p) = s.panels.port (otherPanel p) ∧
    (setPresence p present s).panels.answers = s.panels.answers ∧
    (setPresence p present s).link = s.link.noticed (.panelEvent p present s.chain.lug) ∧
    OnlyPressure s (setPresence p present s) ∧
    setPresence p present s = { s with
      panels := (setPresence p present s).panels, link := (setPresence p present s).link
      governor := (setPresence p present s).governor } := by
  have panels : (setPresence p present s).panels = (onPort p (fun q => { q with present }) s).panels := by
    simp [setPresence]
  obtain ⟨this, other, answers, frame⟩ := port_onPort p (fun q => { q with present }) s
  rw [panels]
  refine ⟨this, other, answers, (queueNotice_link _ _).trans (by rw [frame]), ?_, ?_⟩
  · exact OnlyPressure.trans (t := onPort p (fun q => { q with present }) s) (.of_eq (by rw [frame]))
      (queueNotice_onlyPressure _ _)
  · apply State.eq_of_blocks
    case panels => exact panels
    all_goals simp [setPresence]

theorem panelTimeoutMs_onPort (p : PanelId) (f : PanelPort → PanelPort) (s : State) :
    (onPort p f s).panelTimeoutMs = s.panelTimeoutMs := by
  cases p <;> rfl

theorem start_sent (q : PanelPort) : PanelPort.start { q with sending := none } =
    { q with sending := q.queue.head?, queue := q.queue.tail } := by
  unfold PanelPort.start
  cases queue : q.queue <;> simp

/-- Settles O32. -/
theorem panelTimeoutAndSending : Obligations.PanelTimeoutAndSending := by
  refine ⟨fun s p present => ?_, fun s p absent => ?_, fun s p => ?_⟩
  · obtain ⟨this, other, answers, frame⟩ := port_onPort p (fun q => { q with timer := max q.timer s.panelTimeoutMs }) s
    have silent : panelSilent p s = setPresence p false (onPort p (fun q =>
        { q with timer := max q.timer s.panelTimeoutMs }) s) := by
      rw [panelSilent, weighPanelTimer, if_pos]
      rw [this, panelTimeoutMs_onPort]
      exact ⟨present, Nat.le_max_right _ _⟩
    generalize onPort p _ s = u at this other answers frame silent
    obtain ⟨now, others, answersNow, link, pressure, frameNow⟩ := setPresence_spec p false u
    refine ⟨_, congrArg Host.Outcome.next silent, ?_, others.trans other, answersNow.trans answers, ?_, ?_, ?_⟩
    · rw [now, this]
      unfold State.panelTimeoutMs
      cases s.store.geometry <;> rfl
    · rw [link, frame]
    · exact OnlyPressure.trans (t := u) (.of_eq (by rw [frame])) pressure
    · rw [frameNow, frame]
  · obtain ⟨this, other, answers, frame⟩ := port_onPort p (fun q => { q with timer := max q.timer s.panelTimeoutMs }) s
    have silent : panelSilent p s = onPort p (fun q => { q with timer := max q.timer s.panelTimeoutMs }) s := by
      rw [panelSilent, weighPanelTimer, if_neg]
      rw [this]
      simp [absent]
    refine ⟨_, congrArg Host.Outcome.next silent, ?_, frame⟩
    rw [this]
    exact absent
  · obtain ⟨this, other, answers, frame⟩ := port_onPort p (fun q => PanelPort.start { q with sending := none }) s
    exact ⟨_, rfl, this.trans (start_sent _), other, answers, frame⟩

/-! ### The start of a log (R129, R130) -/

/-- Settles O38. -/
theorem logStarts : Obligations.LogStarts := by
  refine ⟨fun s untracked => congrArg Host.Outcome.next ?_, fun s g x tracked room loaded active =>
    congrArg Host.Outcome.next ?_⟩
  · have refused : s.line.state = .idle ∨ logQueueMax ≤ s.logs.queue.length := untracked
    simp only [startLog, refused, if_true]
    rfl
  · rw [startLog_eq tracked room]
    simp [State.onLogs, State.logBegun, LogRecord.begin_, loaded, active]

end Sys2Proof.Machine
end

section
/-! PROOF. The chain encoder (O10), what the tracker ignores (O11), and the reversal (O12). -/

namespace Sys2Proof.Machine

/-! ### The count of a legal transition (R1, R2, R3) -/

/-- The chain block after a legal transition's own effect: the count, the highest count, the error run and its end. -/
def Chain.moved (forward : Bool) (c : Chain) : Chain :=
  { c with
    count := if forward then c.count + 1 else c.count - 1
    highest := if forward = true ∧ c.hold = none ∧ later (c.count + 1) c.highest = true then c.count + 1 else c.highest
    encError := c.encError && decide (c.encRun + 1 < 64)
    encRun := if c.encError then (if 64 ≤ c.encRun + 1 then 0 else c.encRun + 1) else c.encRun }

theorem Chain.legalRun_clearError (c : Chain) : c.legalRun.clearError = { c with
    encError := c.encError && decide (c.encRun + 1 < 64)
    encRun := if c.encError then (if 64 ≤ c.encRun + 1 then 0 else c.encRun + 1) else c.encRun } := by
  obtain ⟨count, highest, encError, encRun, lockOn, c0, hold, goodRun, lug, suspect, pieces, admitted, finished⟩ := c
  cases encError
  · rfl
  · unfold Chain.legalRun Chain.clearError
    by_cases ends : 64 ≤ encRun + 1
    · simp [ends, Nat.not_lt.mpr ends]
    · simp [ends, Nat.lt_of_not_le ends]

theorem Chain.moved_eq (forward : Bool) (c : Chain) :
    (((c.move forward).legalRun).clearError).followHighest forward = c.moved forward := by
  rw [Chain.legalRun_clearError]
  unfold Chain.followHighest Chain.moved Chain.move
  cases forward
  · rfl
  · cases held : c.hold with
    | some h => simp
    | none =>
      simp only [Option.isNone_none, Bool.and_true, Bool.true_and, if_true, true_and]
      split <;> rfl

theorem chainTransition_eq (forward eye : Bool) (s : State) : chainTransition forward eye s =
    weighMissed eye (weighEntries .chain ((weighReversal (s.onChain (Chain.moved forward))).onChain Chain.endHold)) := by
  simp only [chainTransition, Chain.moved_eq]

/-! ### What the chain side leaves of the schedule and the tally -/

/-- The LOG entries and the snapshot. -/
def State.aside (s : State) : List Entry × Option Snapshot := (s.output.log, s.tally.snapshot)

theorem aside_of_blocks {s t : State} (output : t.output = s.output) (tally : t.tally = s.tally) : t.aside = s.aside := by
  rw [State.aside, State.aside, output, tally]

section

variable (s : State)

@[simp] theorem changePiece_aside (lug : LugNo) (f : Piece → Piece) : (changePiece lug f s).aside = s.aside := rfl

@[simp] theorem finishPiece_aside (lug : LugNo) (o : PieceOutcome) : (finishPiece lug o s).aside = s.aside := by
  unfold finishPiece
  split
  · rfl
  · simp [State.aside, tallyPiece]

@[simp] theorem solverCommitted_aside (lug : LugNo) : (solverCommitted lug s).aside = s.aside :=
  aside_of_blocks (by simp) (by simp)

@[simp] theorem writeCommit_aside (lug : LugNo) (d : Dest) (o : Option PieceOutcome) (full : Bool) :
    (writeCommit lug d o full s).aside = s.aside := aside_of_blocks (by simp [writeCommit]) (by simp [writeCommit])

theorem addEntries_aside {es : List Entry} {t : State} (taken : addEntries .chain es s = some t) : t.aside = s.aside := by
  unfold addEntries at taken
  split at taken
  · cases taken
  · cases taken; rfl

@[simp] theorem commitPiece_aside (g : Geometry) (c : Count) (lug : LugNo) : (commitPiece g c lug s).aside = s.aside := by
  have reserved : ∀ bin : Option Nat, (bin.elim s fun b => reserveBin b s).aside = s.aside := by
    rintro (_ | b)
    · rfl
    · exact aside_of_blocks (by simp) (by simp)
  have freed : ∀ (bin : Option Nat) t, (bin.elim t fun b => releaseBin b t).aside = t.aside := by
    rintro (_ | b) t
    · rfl
    · exact aside_of_blocks (by simp) (by simp)
  have counted : ∀ t, (countFault .scheduleFull t).aside = t.aside := fun t => rfl
  unfold commitPiece
  dsimp only
  repeat' split
  · rfl
  · rw [writeCommit_aside, reserved]
  · rename_i taken
    rw [writeCommit_aside, addEntries_aside _ taken, reserved]
  · rw [writeCommit_aside, counted, freed, reserved]

@[simp] theorem passSaw_aside (lug : LugNo) : (passSaw lug s).aside = s.aside := by
  unfold passSaw
  dsimp only
  repeat' split
  all_goals simp

@[simp] theorem dropPiece_aside (b : Nat) (lug : LugNo) : (dropPiece b lug s).aside = s.aside := by
  unfold dropPiece
  rw [finishPiece_aside]
  rfl

@[simp] theorem runOutPiece_aside (lug : LugNo) : (runOutPiece lug s).aside = s.aside := by
  unfold runOutPiece
  split <;> simp

@[simp] theorem visitStations_aside (g : Geometry) (c : Count) (lug : LugNo) : (visitStations g c s lug).aside = s.aside := by
  have moisture : ∀ t, (triggerMoisture lug t).aside = t.aside := fun t => aside_of_blocks (by simp) (by simp)
  have closed : ∀ t, (closeProfile lug .closeOffset t).aside = t.aside := fun t => aside_of_blocks (by simp) (by simp)
  have marked : ∀ p t, (markPiece p lug t).aside = t.aside := fun p t => aside_of_blocks (by simp) (by simp)
  unfold visitStations
  dsimp only
  generalize dropAt g _ _ lug = d
  cases d <;> simp [onlyIf_keeps State.aside, moisture, closed, marked]

@[simp] theorem lugAdvance_aside (c : Count) (good eye : Bool) : (lugAdvance c good eye s).aside = s.aside := by
  have stations : ∀ t, (runStations c t).aside = t.aside := fun t => by
    unfold runStations
    split
    · rfl
    · exact foldl_keeps State.aside _ (fun u lug => visitStations_aside u _ c lug) _ t
  unfold lugAdvance
  dsimp only
  rw [aside_of_blocks (stepGovernor_frame _).2.2.2.2.2.1 (stepGovernor_frame _).2.2.2.2.2.2.2.2.1, stations]
  exact aside_of_blocks (by simp) (by simp)

/-! ### The reversal check (R9) -/

theorem reversal_chain : (reversal s).chain = { s.chain with
    goodRun := 0, hold := some s.chain.highest, suspect := some .reversal
    pieces := s.chain.pieces.map (Piece.markSuspect .reversal) } := by
  have chain : (reversal s).chain =
      (setSuspect .reversal (s.onChain fun c => { c with goodRun := 0, hold := some c.highest })).chain := rfl
  rw [chain, setSuspect_chain]
  rfl

theorem reversal_aside : (reversal s).aside = s.aside := by
  have tally : (reversal s).tally = s.tally := by simp [reversal]
  have log : (reversal s).output.log =
      (setSuspect .reversal (s.onChain fun c => { c with goodRun := 0, hold := some c.highest })).output.log := rfl
  rw [State.aside, tally, log, setSuspect_output_log]
  rfl

/-! ### The MISSED lug (R8) -/

/-- The state in which a MISSED lug's advance is made. -/
abbrev State.missing (s : State) : State := countFault .missed (setSuspect .missed s.runLost)

theorem missedLug_eq (g : Geometry) (eye : Bool) : missedLug g eye s =
    lugAdvance (s.chain.c0 + BitVec.ofNat 32 g.pitch) false eye s.missing := by
  have c0 : s.missing.chain.c0 = s.chain.c0 :=
    congrArg (fun c => c.c0) (setSuspect_chain .missed s.runLost)
  rw [← c0]
  rfl

theorem missedLug_chain (g : Geometry) (eye : Bool) : (missedLug g eye s).chain = { s.chain with
    lug := s.chain.lug + 1, c0 := s.chain.c0 + BitVec.ofNat 32 g.pitch, goodRun := 0, suspect := some .missed
    pieces := (missedLug g eye s).chain.pieces, admitted := (missedLug g eye s).chain.admitted
    finished := (missedLug g eye s).chain.finished } := by
  have chain : s.missing.chain = (setSuspect .missed s.runLost).chain := rfl
  rw [missedLug_eq, lugAdvance_chain, chain, setSuspect_chain]
  rfl

theorem missedLug_line (g : Geometry) (eye : Bool) :
    (missedLug g eye s).line = { s.line with counters := (missedLug g eye s).line.counters } := by
  have line : s.missing.line = { s.line with counters := s.missing.line.counters } := by
    simp [State.missing, countFault]
  rw [missedLug_eq, lugAdvance_line, line]

theorem missedLug_rest (g : Geometry) (eye : Bool) : (missedLug g eye s).aside = s.aside ∧
    (missedLug g eye s).logs = s.logs ∧ (missedLug g eye s).store.geometry = s.store.geometry ∧
    (missedLug g eye s).pending = s.pending := by
  have aside : s.missing.aside = s.aside := by
    have tally : s.missing.tally = s.tally := by simp [State.missing]
    have log : s.missing.output.log = s.output.log := setSuspect_output_log .missed s.runLost
    rw [State.aside, State.aside, tally, log]
  rw [missedLug_eq]
  exact ⟨(lugAdvance_aside ..).trans aside, by simp [State.missing], by simp [State.missing], by simp [State.missing]⟩

end

/-! ### A legal transition (R1, R2, R3) -/

/-- The part of the chain block that the encoder alone moves. -/
def Chain.encoder (c : Chain) : Count × Count × Bool × Nat := (c.count, c.highest, c.encError, c.encRun)

/-- What a part of a transition leaves: the encoder, the LOG entries, the snapshot, the logs, the line but for its
counters, the geometry set and the commands that wait. -/
structure Onward (s t : State) : Prop where
  encoder : t.chain.encoder = s.chain.encoder
  aside : t.aside = s.aside
  logs : t.logs = s.logs
  line : t.line = { s.line with counters := t.line.counters }
  geometry : t.store.geometry = s.store.geometry
  pending : t.pending = s.pending

theorem Onward.refl (s : State) : Onward s s := ⟨rfl, rfl, rfl, rfl, rfl, rfl⟩

theorem Onward.trans {s t u : State} (h : Onward s t) (k : Onward t u) : Onward s u where
  encoder := k.encoder.trans h.encoder
  aside := k.aside.trans h.aside
  logs := k.logs.trans h.logs
  line := by rw [k.line, h.line]
  geometry := k.geometry.trans h.geometry
  pending := k.pending.trans h.pending

theorem weighReversal_onward (s : State) : Onward s (weighReversal s) := by
  have reversed : Onward s (reversal s) := by
    refine ⟨by rw [reversal_chain]; rfl, reversal_aside s, by simp [reversal], ?_, by simp [reversal], by simp [reversal]⟩
    simp [reversal, countFault]
  unfold weighReversal
  repeat' split
  · exact .refl s
  · exact reversed
  · exact .refl s

theorem weighMissed_onward (eye : Bool) (s : State) : Onward s (weighMissed eye s) := by
  have missed : ∀ g, Onward s (missedLug g eye s) := fun g => by
    obtain ⟨aside, logs, geometry, pending⟩ := missedLug_rest s g eye
    exact ⟨by rw [missedLug_chain]; rfl, aside, logs, missedLug_line s g eye, geometry, pending⟩
  unfold weighMissed
  repeat' split
  · exact .refl s
  · exact missed _
  · exact .refl s

theorem chainTransition_onward (forward eye : Bool) (s : State) :
    Onward (s.onChain (Chain.moved forward)) (chainTransition forward eye s) := by
  have ended : ∀ t : State, Onward t (t.onChain Chain.endHold) := fun t => by
    refine ⟨?_, rfl, rfl, rfl, rfl, rfl⟩
    unfold Chain.endHold
    rw [State.onChain_chain]
    repeat' split
    all_goals rfl
  have weighed : ∀ t : State, Onward t (weighEntries .chain t) := fun t => ⟨rfl, rfl, rfl, rfl, rfl, rfl⟩
  rw [chainTransition_eq]
  exact (((weighReversal_onward _).trans (ended _)).trans (weighed _)).trans (weighMissed_onward eye _)

/-- Settles O10. -/
theorem chainTransitionCounts : Obligations.ChainTransitionCounts := by
  intro forward eye s
  obtain ⟨encoder, aside, logs, line, geometry, pending⟩ := chainTransition_onward forward eye s
  simp only [Chain.encoder, Prod.mk.injEq, State.onChain_chain] at encoder
  obtain ⟨count, highest, error, run⟩ := encoder
  simp only [State.aside, Prod.mk.injEq] at aside
  refine ⟨_, rfl, count, highest, fun clear => ?_, fun set below => ?_, fun set ends => ?_, logs, aside.1, line, geometry,
    aside.2, pending⟩
  · exact ⟨by rw [error]; simp [Chain.moved, clear], by rw [run]; simp [Chain.moved, clear]⟩
  · exact ⟨by rw [error]; simp [Chain.moved, set, below], by rw [run]; simp [Chain.moved, set, Nat.not_le.mpr below]⟩
  · exact ⟨by rw [error]; simp [Chain.moved, Nat.not_lt.mpr ends], by rw [run]; simp [Chain.moved, set, ends]⟩

/-! ### What the tracker ignores (R4, R6, R9) -/

theorem onChain_eq_self {s : State} {f : Chain → Chain} (h : f s.chain = s.chain) : s.onChain f = s := by
  rw [State.onChain, h]

theorem judging_idle {s : State} (idle : s.line.state = .idle) : s.judging = none := by
  simp [State.judging, State.tracking, idle]

theorem judging_held {s : State} (held : s.chain.hold.isSome = true) : s.judging = none := by
  cases hold : s.chain.hold with
  | none => simp [hold] at held
  | some h => simp [State.judging, hold]

theorem judgeEdge_unjudged {s : State} (eye : Bool) (none : s.judging = none) : judgeEdge eye s = s := by
  rw [judgeEdge, none]

theorem weighMissed_unjudged {s : State} (eye : Bool) (none : s.judging = none) : weighMissed eye s = s := by
  rw [weighMissed, none]

theorem weighReversal_unjudged {s : State} (none : s.judging = none) : weighReversal s = s := by
  rw [weighReversal, none]

/-- With no chain entry, and lines that follow the entries, the entries weighed again change nothing. -/
theorem weighEntries_chain_empty {s : State} (empty : s.output.chain = []) (lines : LinesFollowEntries s.output) :
    weighEntries .chain s = s := by
  obtain ⟨saws, gates, kicker⟩ := lines
  have same : s.output.setEntries .chain [] = s.output := by
    unfold Output.setEntries Output.refresh
    rw [show ({ s.output with chain := [] } : Output) = s.output by rw [← empty], ← saws, ← gates, ← kicker]
  have weighed : weighEntries .chain s = s.onOutput fun o => o.setEntries .chain [] := by
    simp only [weighEntries, Output.entries, State.onOutput, empty, List.filterMap_nil]
  rw [weighed, State.onOutput, same]

/-- Settles O11. -/
theorem whatTheTrackerIgnores : Obligations.WhatTheTrackerIgnores := by
  refine ⟨fun forward eye s idle hold empty lines clear => ?_, fun eye s idle => ?_, fun eye s held => ?_,
    fun eye s below => ?_⟩
  · have moved : s.chain.moved forward = { s.chain with
        count := if forward then s.chain.count + 1 else s.chain.count - 1
        highest := if forward = true ∧ later (s.chain.count + 1) s.chain.highest = true then s.chain.count + 1
                   else s.chain.highest } := by
      simp only [Chain.moved, clear, hold, Bool.false_and, Bool.false_eq_true, if_false, true_and]
    have unjudged : (s.onChain (Chain.moved forward)).judging = none := judging_idle idle
    have stays : (s.onChain (Chain.moved forward)).onChain Chain.endHold = s.onChain (Chain.moved forward) := by
      refine onChain_eq_self ?_
      simp only [State.onChain_chain, Chain.endHold, Chain.moved, hold]
    have transition : chainTransition forward eye s = s.onChain (Chain.moved forward) := by
      rw [chainTransition_eq, weighReversal_unjudged unjudged, stays,
        weighEntries_chain_empty (s := s.onChain _) empty lines,
        weighMissed_unjudged eye unjudged]
    refine congrArg Host.Outcome.next (transition.trans ?_)
    rw [State.onChain, moved]
  · exact ⟨congrArg Host.Outcome.next (judgeEdge_unjudged eye (judging_idle idle)),
      congrArg Host.Outcome.next (weighMissed_unjudged eye (judging_idle idle))⟩
  · exact ⟨congrArg Host.Outcome.next (judgeEdge_unjudged eye (judging_held held)),
      congrArg Host.Outcome.next (weighMissed_unjudged eye (judging_held held))⟩
  · refine congrArg Host.Outcome.next ?_
    unfold judgeEdge
    split
    · rfl
    · rw [if_pos below]

/-! ### The reversal (R9, R21, R108) -/

/-- Past the tolerance the transition is the reversal alone: it ends no hold, takes no entry and finds no miss. -/
theorem chainTransition_reversal {s : State} {g : Geometry} (eye : Bool) (active : s.line.state ≠ .idle)
    (hold : s.chain.hold = none) (loaded : s.store.geometry = some g)
    (back : reached (s.chain.count - 1) s.chain.highest = false)
    (far : g.reversalTol < (s.chain.highest - (s.chain.count - 1)).toNat) :
    chainTransition false eye s = reversal (s.onChain (Chain.moved false)) := by
  have judged : (s.onChain (Chain.moved false)).judging = some g := by
    simp [State.judging, State.tracking, Chain.moved, active, hold, loaded]
  have weighed : weighReversal (s.onChain (Chain.moved false)) = reversal (s.onChain (Chain.moved false)) := by
    have below : g.reversalTol < fallenBelow (s.chain.count - 1) s.chain.highest := by
      rw [fallenBelow, if_neg (by rw [back]; exact Bool.false_ne_true)]
      exact far
    rw [weighReversal, judged]
    exact if_pos below
  have chain := reversal_chain (s.onChain (Chain.moved false))
  have stays : (reversal (s.onChain (Chain.moved false))).onChain Chain.endHold =
      reversal (s.onChain (Chain.moved false)) := by
    refine onChain_eq_self ?_
    rw [chain]
    exact if_neg (ne_true_of_eq_false back)
  have held : (reversal (s.onChain (Chain.moved false))).chain.hold.isSome = true := by rw [chain]; rfl
  rw [chainTransition_eq, weighed, stays, weighEntries_chain_empty rfl (linesFollow_setEntries _ _ _),
    weighMissed_unjudged eye (judging_held held)]

/-- With no chain entry, and LOG entries for the kicker alone, no saw and no gate is on. -/
theorem setEntries_chain_nil_dark {o : Output} (kickers : ∀ e ∈ o.log, e.line = .kicker) :
    (o.setEntries .chain []).saws = List.replicate 13 false ∧ (o.setEntries .chain []).gates = List.replicate 48 false := by
  have off : ∀ line : TimedLine, line ≠ .kicker → ({ o with chain := [] } : Output).lineOn line = false := by
    intro line ne
    simp only [Output.lineOn, List.any_nil, Bool.false_or, List.any_eq_false]
    intro e he
    simp [kickers e he, ne.symm]
  constructor
  · have saws : (o.setEntries .chain []).saws = (List.range 13).map fun k =>
        ({ o with chain := [] } : Output).lineOn (.saw k) := rfl
    rw [saws, List.map_congr_left fun k _ => off (.saw k) (by simp)]
    rfl
  · have gates : (o.setEntries .chain []).gates = (List.range 48).map fun b =>
        ({ o with chain := [] } : Output).lineOn (.gate b) := rfl
    rw [gates, List.map_congr_left fun k _ => off (.gate k) (by simp)]
    rfl

/-- Settles O12. -/
theorem reversalStopsTheChain : Obligations.ReversalStopsTheChain := by
  intro s g eye active hold loaded back far kickers
  have transition := chainTransition_reversal eye active hold loaded back far
  generalize moved : s.onChain (Chain.moved false) = u at transition
  have chain := reversal_chain u
  have log : (reversal u).output.log = s.output.log := by
    have aside := congrArg Prod.fst (reversal_aside u)
    rw [← moved] at aside ⊢
    exact aside
  generalize marked : u.onChain (fun c => { c with goodRun := 0, hold := some c.highest }) = v
  have suspect := setSuspect_suspectSet .reversal v
  have noticed := setSuspect_suspectNoticed .reversal v (by rw [← marked]; rfl)
  have pressure := setSuspect_onlyPressure .reversal v
  have eq : reversal u = cancelEncoder .chain (countFault .reversal (setSuspect .reversal v)) := by rw [← marked]; rfl
  have output : (reversal u).output = (setSuspect .reversal v).output.setEntries .chain [] := by rw [eq]; rfl
  have logV : ∀ e ∈ (setSuspect .reversal v).output.log, e.line = .kicker := by
    have same : (setSuspect .reversal v).output.log = s.output.log := by
      rw [setSuspect_output_log, ← marked, ← moved]; rfl
    rwa [same]
  obtain ⟨saws, gates⟩ := setEntries_chain_nil_dark logV
  refine ⟨_, congrArg Host.Outcome.next transition, ?_, ?_, ?_, ?_, ?_, ?_, ?_, ?_, ?_, ?_, log, ?_, ?_, ?_, ?_, ?_⟩
  · rw [eq]
    exact suspect.of_same (by rw [← marked, ← moved]; rfl) (by rw [← marked, ← moved]; rfl) rfl rfl
  · rw [eq]
    rw [← marked, ← moved] at noticed ⊢
    exact noticed
  · rw [chain, ← moved]; rfl
  · rw [chain, ← moved]
    simp [Chain.moved]
  · rw [chain, ← moved]
    simp [Chain.moved]
  · rw [chain]
  · rw [chain, ← moved]; rfl
  · rw [chain, ← moved]; rfl
  · rw [chain, ← moved]; rfl
  · rw [output]; rfl
  · rw [output]; exact saws
  · rw [output]; exact gates
  · rw [eq, ← marked, ← moved]
    simp [countFault, LineCounters.bump]
  · rw [eq]
    rw [← marked, ← moved] at pressure ⊢
    exact pressure
  · rw [eq, ← marked, ← moved]
    apply State.eq_of_blocks <;> simp

end Sys2Proof.Machine
end

section
/-! PROOF. A halting fault in STANDBY or RUN enters HALT (O22). -/

namespace Sys2Proof.Machine

/-- With nothing scheduled no timed line is on. -/
theorem dark_of_empty {o : Output} (lines : LinesFollowEntries o) (chain : o.chain = []) (log : o.log = []) : o.dark := by
  have off : ∀ line, o.lineOn line = false := fun line => by simp [Output.lineOn, chain, log]
  obtain ⟨saws, gates, kicker⟩ := lines
  refine ⟨fun b hb => ?_, fun b hb => ?_, kicker.trans (off _)⟩
  · rw [saws] at hb
    obtain ⟨k, _, rfl⟩ := List.mem_map.mp hb
    exact off _
  · rw [gates] at hb
    obtain ⟨k, _, rfl⟩ := List.mem_map.mp hb
    exact off _

/-- With no record in the queue the suspect condition brings its notice alone to the link. -/
theorem setSuspect_link_empty (cause : SuspectCause) {s : State} (empty : s.chain.pieces = []) :
    (setSuspect cause s).link = if s.chain.suspect.isSome then s.link
      else s.link.noticed (.lineEvent .suspectSet (some (.suspect cause)) s.line.state none s.chain.lug
        s.chain.goodRun) := by
  have none : s.unsuspected = [] := by simp [State.unsuspected, empty]
  have link : (suspectUnnoticed cause s).link = s.link := by simp [suspectUnnoticed, none, releaseBins]
  rw [setSuspect_eq]
  cases set : s.chain.suspect with
  | some c => simp [link]
  | none =>
    simp only [Option.isNone_none, if_true, lineEvent_link, link]
    simp [suspectUnnoticed]

/-- The state of an entry into HALT before its faults of the schedule and the suspect condition: the line in HALT with its
notice. -/
def State.haltNoticed (cause : HaltCause) (s : State) : State :=
  lineEvent .haltEntered (some (.halting cause)) (some s.line.state)
    (s.onLine fun l => { l with state := .halt, haltCause := some cause })

theorem enterHalt_eq (cause : HaltCause) (s : State) : enterHalt cause s =
    weighHold ((setSuspect .halt (cancelAll (s.haltNoticed cause))).onLine fun l => { l with faultLine := true }) := rfl

theorem haltNoticed_eq (cause : HaltCause) (s : State) : OnlyPressure s (s.haltNoticed cause) ∧
    s.haltNoticed cause = { s with
      line := { s.line with state := .halt, haltCause := some cause }
      link := s.link.noticed (.lineEvent .haltEntered (some (.halting cause)) .halt (some s.line.state) s.chain.lug
        s.chain.goodRun)
      governor := (s.haltNoticed cause).governor } :=
  lineEvent_eq .haltEntered (some (.halting cause)) (some s.line.state)
    (s.onLine fun l => { l with state := .halt, haltCause := some cause })

/-- Entry into HALT from the state in which its fault has been counted (R166). -/
theorem enterHalt_spec (cause : HaltCause) (s : State)
    (permit : s.governor.causes.any = true → s.governor.permit = false) :
    SuspectSet .halt s (enterHalt cause s) ∧
    (enterHalt cause s).line = { s.line with state := .halt, haltCause := some cause, faultLine := true } ∧
    (enterHalt cause s).output.chain = [] ∧ (enterHalt cause s).output.log = [] ∧ (enterHalt cause s).output.dark ∧
    (enterHalt cause s).logs = { s.logs with
      queue := s.logs.queue.map (LogRecord.kickRemoved (s.output.log.map Entry.owner)) } ∧
    (enterHalt cause s).governor.causes.halt = true ∧ (enterHalt cause s).governor.permit = false ∧
    (enterHalt cause s).chain = { s.chain with
      suspect := some .halt, pieces := (enterHalt cause s).chain.pieces } ∧
    (s.chain.pieces = [] → (enterHalt cause s).link =
      if s.chain.suspect.isSome then (s.haltNoticed cause).link
      else (s.haltNoticed cause).link.noticed
        (.lineEvent .suspectSet (some (.suspect .halt)) .halt none s.chain.lug s.chain.goodRun)) := by
  obtain ⟨pressure, noticed⟩ := haltNoticed_eq cause s
  rw [enterHalt_eq]
  generalize s.haltNoticed cause = u at pressure noticed ⊢
  have logs : (cancelAll u).logs = { s.logs with
      queue := s.logs.queue.map (LogRecord.kickRemoved (s.output.log.map Entry.owner)) } := by rw [noticed]; rfl
  have emptied : (cancelAll u).output.chain = [] ∧ (cancelAll u).output.log = [] := ⟨rfl, rfl⟩
  have lines : LinesFollowEntries (cancelAll u).output := linesFollow_refresh _
  have frame : (cancelAll u).chain = s.chain ∧ (cancelAll u).bins = s.bins ∧ (cancelAll u).link = u.link ∧
      (cancelAll u).governor = u.governor ∧
      (cancelAll u).line = { s.line with state := .halt, haltCause := some cause } := by
    rw [noticed]; exact ⟨rfl, rfl, rfl, rfl, rfl⟩
  generalize cancelAll u = v at logs emptied lines frame ⊢
  obtain ⟨chain, bins, link, governor, line⟩ := frame
  have suspect := setSuspect_suspectSet .halt v
  have chainNow := setSuspect_chain .halt v
  have outputChain : (setSuspect .halt v).output.chain = [] := by rw [setSuspect_output_chain, emptied.1]; rfl
  have outputLog : (setSuspect .halt v).output.log = [] := by rw [setSuspect_output_log, emptied.2]
  have same := setSuspect_onlyPressure .halt v
  have linkNow := fun empty => setSuspect_link_empty .halt (s := v) empty
  have rest := setSuspect_frame v .halt
  have dark := dark_of_empty ((setSuspect_calm v .halt).lines lines) outputChain outputLog
  generalize setSuspect .halt v = w at suspect chainNow outputChain outputLog same linkNow rest dark ⊢
  obtain ⟨_, _, _, _, logsNow, _, lineNow, _, _⟩ := rest
  have held : w.governor.causes = s.governor.causes ∧ w.governor.permit = s.governor.permit := by
    unfold OnlyPressure at same pressure
    rw [same, governor, pressure]
    exact ⟨rfl, rfl⟩
  rw [weighHold_eq]
  refine ⟨?_, ?_, outputChain, outputLog, dark, ?_, ?_, ?_, ?_, fun empty => ?_⟩
  · exact suspect.of_same (by rw [chain]) bins.symm rfl rfl
  · rw [State.onLine, lineNow, line]
  · exact logsNow.trans logs
  · have halted : w.line.state = .halt := by rw [lineNow, line]
    unfold Governor.held
    split <;> simp [State.holdCauses, halted]
  · unfold Governor.held
    split
    · rfl
    · rename_i stood
      have halted : w.line.state = .halt := by rw [lineNow, line]
      have any : w.governor.causes.any = true := by
        by_contra none
        exact stood ⟨by simp [State.holdCauses, HoldCauses.any, halted], by simpa using none⟩
      exact held.2.trans (permit (held.1 ▸ any))
  · change w.chain = { s.chain with suspect := some .halt, pieces := w.chain.pieces }
    rw [chainNow, chain]
  · refine (linkNow (by rw [chain, empty])).trans ?_
    rw [chain, link, line]

theorem haltingFault_running (cause : HaltCause) {s : State} (running : s.line.state = .standby ∨ s.line.state = .run) :
    haltingFault cause s = enterHalt cause (countFault cause.fault s) := by
  unfold haltingFault
  rcases running with standby | run
  · simp only [standby]
  · simp only [run]

/-- Settles O22: either fault, once counted, is the entry into HALT. -/
theorem haltingFaultEntersHalt : Obligations.HaltingFaultEntersHalt := by
  intro s cause c which running permit
  rcases which with ⟨rfl, rfl, released⟩ | ⟨rfl, rfl⟩
  · generalize fault : countFault .estop (s.onLine fun l => { l with estopIn := true }) = u
    have entered : assertEstop s = enterHalt .estop u := by
      rw [assertEstop, released, if_neg Bool.false_ne_true, ← fault]
      exact haltingFault_running .estop (s := s.onLine fun l => { l with estopIn := true }) running
    obtain ⟨suspect, line, chainOut, logOut, dark, logs, halt, off, chain, link⟩ :=
      enterHalt_spec .estop u (by rw [← fault]; exact permit)
    refine ⟨_, congrArg Host.Outcome.next entered, suspect.of_same (by rw [← fault]; rfl) (by rw [← fault]; rfl) rfl rfl,
      ?_, chainOut, logOut, dark, ?_, halt, off, ?_, fun empty => ?_, ?_⟩
    · rw [line, ← fault]; rfl
    · rw [logs, ← fault]; rfl
    · rw [chain, ← fault]; rfl
    · rw [link (by rw [← fault]; exact empty), (haltNoticed_eq .estop u).2, ← fault]; rfl
    · apply State.eq_of_blocks <;> simp [← fault]
  · generalize fault : countFault .encoder (s.onChain fun c => { c with encError := true, encRun := 0 }) = u
    have entered : chainIllegal s = enterHalt .encoder u := by
      rw [← fault]
      exact haltingFault_running .encoder (s := s.onChain fun c => { c with encError := true, encRun := 0 }) running
    obtain ⟨suspect, line, chainOut, logOut, dark, logs, halt, off, chain, link⟩ :=
      enterHalt_spec .encoder u (by rw [← fault]; exact permit)
    refine ⟨_, congrArg Host.Outcome.next entered, suspect.of_same (by rw [← fault]; rfl) (by rw [← fault]; rfl) rfl rfl,
      ?_, chainOut, logOut, dark, ?_, halt, off, ?_, fun empty => ?_, ?_⟩
    · rw [line, ← fault]; rfl
    · rw [logs, ← fault]; rfl
    · rw [chain, ← fault]; rfl
    · rw [link (by rw [← fault]; exact empty), (haltNoticed_eq .encoder u).2, ← fault]; rfl
    · apply State.eq_of_blocks <;> simp [← fault]

end Sys2Proof.Machine
end

section
/-! PROOF. The supervisor link: requests received, in turn, and turned away for their kind or length (O43, O44, O47), host
silence (O45), and the transmitter (O46). -/

namespace Sys2Proof.Machine

/-! ### Host silence (R156, R176) -/

/-- Host silence cleared brings no new hold. -/
theorem weighHold_unsilenced {s : State} (weighed : CausesWeighed s) {f : Link → Link} (silent : (f s.link).silent = false) :
    weighHold (s.onLink f) = { s with
      link := f s.link
      governor := { s.governor with causes := { s.governor.causes with hostSilent := false } } } := by
  have causes : (s.onLink f).holdCauses = { s.governor.causes with hostSilent := false } := by
    rw [weighed]
    simp only [State.holdCauses, State.onLink, silent]
    rfl
  rw [weighHold_eq, causes, Governor.held_no_new]
  · rfl
  · simp only [HoldCauses.any, State.onLink_governor, Bool.or_false, Bool.or_eq_true]
    tauto

theorem hostHeard_eq {s : State} (weighed : CausesWeighed s) : hostHeard s = { s with
    link := { s.link with timer := 0, silent := false }
    governor := { s.governor with causes := { s.governor.causes with hostSilent := false } } } :=
  weighHold_unsilenced weighed rfl

/-- Host silence set is weighed as a cause of forced hold. -/
theorem setHostSilence_eq {s : State} (weighed : CausesWeighed s) : setHostSilence s = { s with
    link := { s.link with silent := true }
    governor := s.governor.held { s.governor.causes with hostSilent := true } } := by
  rw [setHostSilence, weighHold_eq, weighed]
  rfl

/-- Settles O45. -/
theorem hostSilenceIsSet : Obligations.HostSilenceIsSet := by
  refine ⟨fun s g weighed loaded least most => congrArg Host.Outcome.next ?_, fun s zero => congrArg Host.Outcome.next ?_⟩
  · have limit : s.hostTimeoutMs = some (g.hostTimeout * 1000) := by
      simp [State.hostTimeoutMs, loaded, least, most]
    generalize reached_ : s.onLink (fun l => { l with timer := max l.timer (g.hostTimeout * 1000) }) = u
    have timed : hostTimerReached s = weighHost u := by rw [hostTimerReached, limit, ← reached_]; rfl
    have limitNow : u.hostTimeoutMs = some (g.hostTimeout * 1000) := by rw [← reached_]; exact limit
    have weighedNow : CausesWeighed u := by rw [← reached_]; exact weighed
    have late : g.hostTimeout * 1000 ≤ u.link.timer := by rw [← reached_]; exact Nat.le_max_right _ _
    rw [timed, weighHost, limitNow]
    dsimp only
    split
    · rw [setHostSilence_eq weighedNow, ← reached_]
      rfl
    · rename_i notSet
      have silent : s.link.silent = true := by
        have : u.link.silent = true := by simpa [late] using notSet
        rwa [← reached_] at this
      have already : s.governor.causes.hostSilent = true := by rw [weighed]; exact silent
      have same : ({ s.governor.causes with hostSilent := true } : HoldCauses) = s.governor.causes := by
        rw [← already]
      rw [same, Governor.held_self, ← silent, ← reached_]
      rfl
  · have off : s.hostTimeoutMs = none := by
      unfold State.hostTimeoutMs
      cases loaded : s.store.geometry with
      | none => rfl
      | some g => simp [zero g loaded]
    have still : s.onLink (fun l => { l with timer := max l.timer (s.hostTimeoutMs.getD 0) }) = s := by
      simp [off, State.onLink]
    rw [hostTimerReached, still, weighHost, off]

/-! ### Requests received (R173) -/

theorem Request.ofCode_isSome (kind : Byte) : (Request.ofCode kind).isSome = true ↔ 1 ≤ kind.toNat ∧ kind.toNat ≤ 17 := by
  simp only [Request.ofCode, Request.all, List.find?_isSome, Request.code, List.mem_cons, List.not_mem_nil, or_false,
    beq_iff_eq, exists_eq_or_imp, exists_eq_left]
  bv_omega

theorem replyKind_eq (kind : Byte) : replyKind kind = if 1 ≤ kind.toNat ∧ kind.toNat ≤ 17 then kind + 0x80 else 0xFF :=
  if_congr (Request.ofCode_isSome kind) rfl rfl

/-- A reply made, seen from the state (R173, R174): it joins the reply list, and a free transmitter begins the oldest. -/
theorem makeReply_whole (r : Reply) (s : State) : makeReply r s = { s with
    link := { s.link with
      replies := s.link.replies ++ [r]
      sending := match s.link.sending with
        | some x => some x
        | none => ((s.link.replies ++ [r]).head?).map Sending.reply } } := by
  have governor := makeReply_governor s r
  apply State.eq_of_blocks
  case link =>
    unfold makeReply
    cases begun : s.link.sending with
    | some x => rw [arbitrate_busy (x := x)] <;> simp [State.onLink, begun]
    | none =>
      rw [arbitrate_link_free _ (by simp [State.onLink, begun])]
      unfold Link.next
      cases waits : s.link.replies <;> simp [State.onLink, waits]
  case governor => exact governor
  all_goals simp

/-- The replies held, with 4 requests waiting: those made, and the one owed while the oldest request is not taken. -/
theorem repliesHeld_full {s : State} (full : 4 ≤ s.link.requests.length) :
    s.repliesHeld = s.link.replies.length + if s.link.taken then 0 else 1 := by
  have stands : s.link.requests ≠ [] := fun none => by simp [none] at full
  unfold State.repliesHeld
  cases taken : s.link.taken
  · rw [(waiting_isSome s).mpr ⟨taken, stands⟩]
    rfl
  · simp [State.waiting, taken]

/-- Settles O43: the request is heard, and joins, is answered BUSY or is counted. -/
theorem requestsAreReceived : Obligations.RequestsAreReceived := by
  intro s kind tag body weighed
  have heard := hostHeard_eq weighed
  generalize hu : hostHeard s = u at heard
  have requests : u.link.requests = s.link.requests := by rw [heard]
  have held : ∀ full : 4 ≤ s.link.requests.length, u.repliesHeld =
      s.link.replies.length + if s.link.taken then 0 else 1 := fun full => by
    rw [repliesHeld_full (requests ▸ full), heard]
  refine ⟨fun room => congrArg Host.Outcome.next ?_, fun full few => congrArg Host.Outcome.next ?_,
    fun full many => congrArg Host.Outcome.next ?_⟩
  · rw [receiveRequest, hu, if_pos (requests ▸ room), heard]
    rfl
  · rw [receiveRequest, hu, if_neg (Nat.not_lt.mpr (requests ▸ full)), if_pos (held full ▸ few), makeReply_whole, heard,
      Frame.reply, replyKind_eq]
    rfl
  · rw [receiveRequest, hu, if_neg (Nat.not_lt.mpr (requests ▸ full)), if_neg (Nat.not_lt.mpr (held full ▸ many)), heard]
    rfl

/-! ### Requests in turn (log 2) -/

theorem exec_requestFrame {c : Instr} {f : Frame} (is : requestFrame c = some f) (s : State) :
    exec c s = .next (offerRequest f.kind f.tag f.body s) := by
  cases c <;> cases is <;> rfl

theorem Waiting.iff_waiting (s : State) (f : Frame) : Waiting s f ↔ s.waiting = some f := by
  unfold Waiting State.waiting
  cases s.link.taken <;> simp

theorem receiveRequest_link_keeps (f : Frame) (s : State) : (receiveRequest f s).link.taken = s.link.taken ∧
    (s.link.requests ≠ [] → (receiveRequest f s).link.requests.head? = s.link.requests.head?) := by
  have heard : (hostHeard s).link.taken = s.link.taken ∧ (hostHeard s).link.requests = s.link.requests := by
    simp [hostHeard]
  unfold receiveRequest
  dsimp only
  split
  · refine ⟨heard.1, fun stands => ?_⟩
    rw [State.onLink_link, heard.2, List.head?_append_of_ne_nil _ stands]
  · split
    · rw [makeReply_whole]
      exact ⟨heard.1, fun _ => by rw [heard.2]⟩
    · exact ⟨heard.1, fun _ => congrArg List.head? heard.2⟩

/-- Settles O44. -/
theorem requestsComeInTurn : Obligations.RequestsComeInTurn := by
  intro s c f is
  rw [exec_requestFrame is, exec_requestFrame is]
  refine ⟨fun none notTaken => ?_, fun stands waitsNot => congrArg Host.Outcome.next ?_⟩
  · have waits : Waiting (arrived f s) f := ⟨by simp [arrived, hostHeard, notTaken], rfl⟩
    have received : receiveRequest f s = arrived f s := by
      have empty : (hostHeard s).link.requests = [] := by simp [hostHeard, none]
      rw [receiveRequest, if_pos (by rw [empty]; decide)]
      simp [arrived, State.onLink, empty]
    have nobody : s.waiting ≠ some f := by simp [State.waiting, notTaken, none]
    refine ⟨congrArg Host.Outcome.next ?_, waits⟩
    have later : offerRequest f.kind f.tag f.body (arrived f s) = takeRequest f (arrived f s) :=
      if_pos ((Waiting.iff_waiting _ _).mp waits)
    rw [later, offerRequest, if_neg nobody]
    dsimp only
    rw [received, if_pos ((Waiting.iff_waiting _ _).mp waits)]
  · obtain ⟨taken, first⟩ := receiveRequest_link_keeps f s
    have before : s.waiting ≠ some f := fun waits => waitsNot ((Waiting.iff_waiting _ _).mpr waits)
    have after : (receiveRequest f s).waiting ≠ some f := by
      rw [State.waiting, taken, first stands]
      exact before
    rw [offerRequest, if_neg before]
    exact if_neg after

/-! ### Requests turned away for their kind or length (R173) -/

/-- A request whose kind names none, or of the wrong length, is answered so. -/
theorem offerRequest_refused {s : State} {f : Frame} {st : Status} (waits : Waiting s f)
    (judged : ∀ t, judgeRequest f t = ⟨t, st, []⟩) :
    offerRequest f.kind f.tag f.body s = { s with link := s.link.replied ⟨replyKind f.kind, f.tag, put1 st.code⟩ } := by
  rw [offerRequest_waiting s f.kind f.tag f.body waits, judged]
  exact makeReply_eq _ _ rfl

theorem judgeRequest_length {r : Request} {body : List Byte} (wrong : r.lengthOk body = false) (tag : Byte) (t : State) :
    judgeRequest ⟨r.code, tag, body⟩ t = ⟨t, .length, []⟩ := by
  have named : Request.ofCode r.code = some r := by cases r <;> rfl
  rw [judgeRequest, named]
  simp [wrong]

/-- The kinds of requests of one length alone, with that length (11.5). -/
theorem lengthOk_fixed : ∀ p ∈ [((0x01 : Byte), 0), (0x02, 2), (0x03, 1), (0x04, 0), (0x05, 280), (0x07, 1), (0x08, 0),
    (0x09, 4), (0x0A, 2), (0x0B, 0), (0x0C, 0), (0x0D, 0), (0x0E, 1), (0x0F, 0), (0x10, 1), (0x11, 0)],
    ∃ r : Request, p.1 = r.code ∧ ∀ body, r.lengthOk body = (body.length == p.2) := by
  simp only [List.forall_mem_cons]
  exact ⟨⟨.identify, rfl, fun _ => rfl⟩, ⟨.status, rfl, fun _ => rfl⟩, ⟨.lineState, rfl, fun _ => rfl⟩,
    ⟨.lineReset, rfl, fun _ => rfl⟩, ⟨.geometryWrite, rfl, fun _ => rfl⟩, ⟨.bankActivate, rfl, fun _ => rfl⟩,
    ⟨.bankStatus, rfl, fun _ => rfl⟩, ⟨.binCommand, rfl, fun _ => rfl⟩, ⟨.pieceQuery, rfl, fun _ => rfl⟩,
    ⟨.lastProfile, rfl, fun _ => rfl⟩, ⟨.clearSuspect, rfl, fun _ => rfl⟩, ⟨.clearHalt, rfl, fun _ => rfl⟩,
    ⟨.tallyRead, rfl, fun _ => rfl⟩, ⟨.tallyClose, rfl, fun _ => rfl⟩, ⟨.snapshotRead, rfl, fun _ => rfl⟩,
    ⟨.snapshotRelease, rfl, fun _ => rfl⟩, List.forall_mem_nil _⟩

/-- The sizes of the entries of the table kinds (11.5). -/
theorem entrySize_of_code : ∀ p ∈ [(0, 3), (1, 4), (2, 8), (3, 2), (4, 2), (5, 7), (6, 10), (7, 9)],
    ∃ k : TableKind, kindOfCode p.1 = some k ∧ k.entrySize = p.2 := by
  simp only [List.forall_mem_cons]
  exact ⟨⟨.headmap, rfl, rfl⟩, ⟨.size, rfl, rfl⟩, ⟨.grade, rfl, rfl⟩, ⟨.price, rfl, rfl⟩, ⟨.sort, rfl, rfl⟩,
    ⟨.moisture, rfl, rfl⟩, ⟨.log, rfl, rfl⟩, ⟨.governor, rfl, rfl⟩, List.forall_mem_nil _⟩

/-- Settles O47. -/
theorem unknownKindsAndLengths : Obligations.UnknownKindsAndLengths := by
  refine ⟨fun s kind tag body waits unknown => congrArg Host.Outcome.next ?_, fun s c kind tag body is waits wrong => ?_⟩
  · have outside : ¬ (1 ≤ kind.toNat ∧ kind.toNat ≤ 17) := by
      rcases unknown with rfl | far
      · decide
      · omega
    have none : Request.ofCode kind = none := by
      rw [← Option.not_isSome_iff_eq_none, Request.ofCode_isSome]
      exact outside
    refine (offerRequest_refused (f := ⟨kind, tag, body⟩) (st := .unknownKind) waits fun t => ?_).trans ?_
    · rw [judgeRequest, none]
    · rw [replyKind_eq, if_neg outside]; rfl
  · obtain ⟨r, rfl, length⟩ : ∃ r : Request, kind = r.code ∧ r.lengthOk body = false := by
      rcases wrong with ⟨n, fixed, differs⟩ | ⟨table, short | ⟨size, entries, differs⟩⟩
      · obtain ⟨r, code, ok⟩ := lengthOk_fixed _ fixed
        exact ⟨r, code, by rw [ok]; exact beq_false_of_ne differs⟩
      · exact ⟨.tableWrite, table, by simp [Request.lengthOk, Nat.not_le.mpr short]⟩
      · obtain ⟨k, code, rfl⟩ := entrySize_of_code _ entries
        have named : kindOfCode (byteAt body 1) = some k := code
        refine ⟨.tableWrite, table, ?_⟩
        simp only [Request.lengthOk, named, Bool.and_eq_false_iff]
        exact .inr (beq_false_of_ne differs)
    have reply : replyKind r.code = r.code + 0x80 := by cases r <;> rfl
    rw [exec_requestFrame is]
    refine congrArg Host.Outcome.next ((offerRequest_refused waits (judgeRequest_length length tag)).trans ?_)
    rw [reply]
    rfl

/-! ### The transmitter (R174) -/

/-- The arbiter of a free transmitter, seen from the state. -/
theorem arbitrate_free {s : State} (free : s.link.sending = none) : (arbitrate s).link = s.link.next ∧
    OnlyPressure s (arbitrate s) ∧
    arbitrate s = { s with link := (arbitrate s).link, governor := (arbitrate s).governor } := by
  refine ⟨arbitrate_link_free s free, arbitrate_onlyPressure s, ?_⟩
  apply State.eq_of_blocks <;> simp

/-- Settles O46. -/
theorem transmitCompletes : Obligations.TransmitCompletes := by
  refine ⟨fun s f begun => ?_, fun s r begun notOwn => ?_, fun s r begun own => ?_, fun s nothing => ?_⟩
  · obtain ⟨link, pressure, frame⟩ := arbitrate_free (s := s.onLink fun l => { l with sending := none }) rfl
    have done : transmitDone s = arbitrate (s.onLink fun l => { l with sending := none }) := by rw [transmitDone, begun]
    exact ⟨_, congrArg Host.Outcome.next done, link, pressure, frame⟩
  · generalize sent : s.onLink (fun l => { l with replies := l.replies.drop 1, sending := none }) = u
    have replied : replySent r s = u := by rw [replySent, if_neg (by simp [notOwn]), sent]
    obtain ⟨link, pressure, frame⟩ := arbitrate_free (s := u) (by rw [← sent]; rfl)
    have done : transmitDone s = arbitrate u := by rw [transmitDone, begun, ← replied]
    refine ⟨_, congrArg Host.Outcome.next done, ?_, ?_, ?_⟩
    · rw [link, ← sent, ← List.drop_one]; rfl
    · exact OnlyPressure.trans (t := u) (.of_eq (by rw [← sent]; rfl)) pressure
    · rw [frame, ← sent]; rfl
  · generalize scan : (if r.frame.kind = lastProfileReply then { s.scan with buffers := readingSent s.scan.buffers }
      else s.scan) = x
    generalize sent : ({ s with
      scan := x
      link := { s.link with
        replies := s.link.replies.drop 1, sending := none, requests := s.link.requests.drop 1, taken := false } } : State) = u
    have replied : replySent r s = u := by
      rw [← sent, ← scan, replySent, if_pos own]
      split <;> rfl
    obtain ⟨link, pressure, frame⟩ := arbitrate_free (s := u) (by rw [← sent])
    have done : transmitDone s = arbitrate u := by rw [transmitDone, begun, ← replied]
    have scanNow : (arbitrate u).scan = x := by rw [frame, ← sent]
    refine ⟨_, congrArg Host.Outcome.next done, ?_, fun other => ?_, fun profile => ?_, ?_, ?_⟩
    · rw [link, ← sent, ← List.drop_one, ← List.drop_one]; rfl
    · exact scanNow.trans (scan.symm.trans (if_neg other))
    · exact scanNow.trans (scan.symm.trans ((if_pos profile).trans rfl))
    · exact OnlyPressure.trans (t := u) (.of_eq (by rw [← sent])) pressure
    · rw [frame, ← sent]
  · exact congrArg Host.Outcome.next (by rw [transmitDone, nothing])

end Sys2Proof.Machine
end

section
/-! PROOF. The requests that read (R24, R39, R146, R150, R169, R179). -/

namespace Sys2Proof.Machine

/-! ### STATUS (R169) -/

theorem serveStatus_range {s : State} {page option : Byte} (above : 4 < page.toNat) :
    serveStatus [page, option] s = ⟨s, .range, []⟩ := if_pos above

theorem serveStatus_page {s : State} {page option : Byte} (within : page.toNat ≤ 4) :
    serveStatus [page, option] s =
      ⟨if page.toNat = 1 ∧ option.getLsbD 0 then clearCounters s else s, .ok, s.putStatusPage s.activeBank page.toNat⟩ :=
  if_neg (Nat.not_lt.mpr within)

/-- Settles O49. -/
theorem statusReports : Obligations.StatusReports := by
  intro s tag page option waits
  refine ⟨fun above => ?_, fun within kept => ?_, fun one clear => ?_⟩
  · exact congrArg Host.Outcome.next
      (request_reads .status tag _ s waits rfl .range [] (serveStatus_range (s := s.serving) above))
  · have stays : ¬(page.toNat = 1 ∧ option.getLsbD 0 = true) := by
      rintro ⟨one, clear⟩
      rcases kept with other | off
      · exact other (BitVec.eq_of_toNat_eq one)
      · rw [clear] at off; cases off
    exact congrArg Host.Outcome.next (request_reads .status tag _ s waits rfl .ok (s.putStatusPage s.activeBank page.toNat)
      ((serveStatus_page (s := s.serving) within).trans (by rw [if_neg stays]; rfl)))
  · subst one
    have served : serve .status [1, option] s.serving = ⟨clearCounters s.serving, .ok, s.counters.flatMap EventCounter.put⟩ :=
      (serveStatus_page (s := s.serving) (page := 1) (option := option) (by decide)).trans (by rw [if_pos ⟨rfl, clear⟩]; rfl)
    exact congrArg Host.Outcome.next (request_replied .status tag _ s waits rfl _ _ _ served rfl)

/-! ### BANK_STATUS, PIECE_QUERY, LAST_PROFILE, TALLY_READ and SNAPSHOT_READ -/

theorem putFlag_eq (b : Bool) : putFlag b = [if b then 1 else 0] := by cases b <;> rfl

theorem put1_toNat (b : Byte) : put1 b.toNat = [b] := by rw [put1, BitVec.ofNat_toNat]; simp

theorem putOpt_sequence (sequence : Option LoadSequence) :
    putOpt 4 (fun q : LoadSequence => put1 q.bank.code ++ put1 q.kind.code ++ put2 q.next) sequence =
      sequence.elim [0, 0, 0, 0, 0] fun q => [1] ++ put1 q.bank.code ++ put1 q.kind.code ++ put2 q.next := by
  cases sequence <;> rfl

theorem serveBankStatus_eq (s : State) : serveBankStatus s = ⟨s, .ok, s.putBank .a ++ s.putBank .b ++
    (s.store.sequence.elim [0, 0, 0, 0, 0] fun q => [1] ++ put1 q.bank.code ++ put1 q.kind.code ++ put2 q.next) ++
    [if s.store.geometry.isSome then 1 else 0]⟩ := by
  rw [serveBankStatus, putOpt_sequence, putFlag_eq]

theorem servePieceQuery_eq (hi lo : Byte) (s : State) : servePieceQuery [hi, lo] s =
    (s.piece? (hi ++ lo)).elim ⟨s, .noData, []⟩ fun p => ⟨s, .ok, p.putQuery s.chain.lug⟩ := by
  have lug : BitVec.ofNat 16 (u16At [hi, lo] 0) = hi ++ lo := word_of_bytes hi lo
  rw [servePieceQuery, lug]
  cases s.piece? (hi ++ lo) <;> rfl

theorem serveLastProfile_none {s : State} (absent : ∀ b ∈ s.scan.buffers, b.role ≠ .latest) :
    serveLastProfile s = ⟨s, .noData, []⟩ := by
  have none_latest : s.scan.buffers.find? (fun x => x.role == .latest) = none := by simpa using absent
  rw [serveLastProfile, none_latest]

theorem serveLastProfile_some {s : State} {b : ProfileBuffer} {m : Summary}
    (latest : s.scan.buffers.find? (fun x => x.role == .latest) = some b) (summary : b.summary = some m) :
    serveLastProfile s =
      ⟨{ s with scan := { s.scan with buffers := s.scan.buffers.map fun x =>
          if x.role = .latest then { x with role := .reading } else x } }, .ok, m.put⟩ := by
  simp only [serveLastProfile, latest, summary, Option.elim]
  rfl

theorem serveTallyRead_range {s : State} {page : Byte} (beyond : 5 < page.toNat) :
    serveTallyRead [page] s = ⟨s, .range, put4 s.tally.period.number ++ put4 s.tally.period.entries⟩ := if_pos beyond

theorem serveTallyRead_page {s : State} {page : Byte} (within : ¬5 < page.toNat) :
    serveTallyRead [page] s = ⟨s, .ok, s.tally.period.putRead page.toNat⟩ := if_neg within

theorem Period.putRead_eq (t : Period) (page : Byte) :
    t.putRead page.toNat = page :: (put4 t.number ++ put4 t.entries ++ t.putPage page.toNat) := by
  rw [Period.putRead, put1_toNat]; simp

theorem serveSnapshotRead_held {s : State} {page : Byte} {h : Snapshot} (held : s.tally.snapshot = some h) :
    serveSnapshotRead [page] s = if 5 < page.toNat then ⟨s, .range, []⟩ else ⟨s, .ok, h.period.putRead page.toNat ++
      (if page = 0 then put8 h.recovery.bf48 ++ put8 h.recovery.logvol ++ put4 h.recovery.value ++ h.recovery.putFlags
        else [])⟩ := by
  have first : (page.toNat = 0) = (page = 0) := propext ⟨fun h => BitVec.eq_of_toNat_eq h, fun h => h ▸ rfl⟩
  simp only [serveSnapshotRead, held, byteAt, List.getD_cons_zero, first]

/-- Settles O50: each of the five requests is served by reading alone; LAST_PROFILE makes the LATEST buffer READING. -/
theorem readsChangeNothing : Obligations.ReadsChangeNothing := by
  refine ⟨fun s tag waits => ?banks, fun s tag hi lo waits => ?piece,
    fun s tag waits => ⟨fun absent => ?noProfile, fun b m latest summary => ?profile⟩,
    fun s tag page waits => ?tally, fun s tag page waits => ?snapshot⟩
  case banks =>
    refine congrArg Host.Outcome.next ((request_reads .bankStatus tag [] s waits rfl _ _ (serveBankStatus_eq s.serving)).trans ?_)
    cases sequence : s.store.sequence <;> simp only [State.serving, State.onLink, sequence] <;> rfl
  case piece =>
    cases found : s.piece? (hi ++ lo) with
    | none =>
      exact congrArg Host.Outcome.next (request_reads .pieceQuery tag _ s waits rfl .noData []
        ((servePieceQuery_eq hi lo s.serving).trans (by rw [show s.serving.piece? (hi ++ lo) = none from found]; rfl)))
    | some p =>
      exact congrArg Host.Outcome.next (request_reads .pieceQuery tag _ s waits rfl .ok (p.putQuery s.chain.lug)
        ((servePieceQuery_eq hi lo s.serving).trans (by rw [show s.serving.piece? (hi ++ lo) = some p from found]; rfl)))
  case noProfile =>
    exact congrArg Host.Outcome.next
      (request_reads .lastProfile tag [] s waits rfl _ _ (serveLastProfile_none (s := s.serving) absent))
  case profile =>
    exact congrArg Host.Outcome.next (request_replied .lastProfile tag [] s waits rfl _ _ _
      (serveLastProfile_some (s := s.serving) latest summary) rfl)
  case tally =>
    refine congrArg Host.Outcome.next ?_
    by_cases beyond : 5 < page.toNat
    · rw [if_pos beyond]
      exact request_reads .tallyRead tag [page] s waits rfl _ _ (serveTallyRead_range (s := s.serving) beyond)
    · rw [if_neg beyond]
      refine (request_reads .tallyRead tag [page] s waits rfl _ _ (serveTallyRead_page (s := s.serving) beyond)).trans ?_
      rw [Period.putRead_eq]
      simp; rfl
  case snapshot =>
    refine congrArg Host.Outcome.next ?_
    cases held : s.tally.snapshot with
    | none =>
      have served : serveSnapshotRead [page] s.serving = ⟨s.serving, .noData, []⟩ := by
        simp only [serveSnapshotRead, State.serving, State.onLink, held]
      exact request_reads .snapshotRead tag [page] s waits rfl _ _ served
    | some h =>
      by_cases beyond : 5 < page.toNat
      · have served : serveSnapshotRead [page] s.serving = ⟨s.serving, .range, []⟩ :=
          (serveSnapshotRead_held (s := s.serving) held).trans (if_pos beyond)
        exact (request_reads .snapshotRead tag [page] s waits rfl _ _ served).trans (by dsimp only; rw [if_pos beyond]; rfl)
      · have served := (serveSnapshotRead_held (s := s.serving) (page := page) held).trans (if_neg beyond)
        refine (request_reads .snapshotRead tag [page] s waits rfl _ _ served).trans ?_
        dsimp only
        rw [if_neg beyond, Period.putRead_eq]
        simp; rfl

end Sys2Proof.Machine
end

section
/-! PROOF. CLEAR_SUSPECT, CLEAR_HALT and LINE_STATE judged (R22, R164, R167), and BANK_ACTIVATE (R181). -/

namespace Sys2Proof.Machine

/-! ### CLEAR_SUSPECT (R22) -/

theorem clearSuspectNoticed_none {s : State} (clear : s.chain.suspect = none) : clearSuspectNoticed s = s := by
  simp [clearSuspectNoticed, clear]

theorem clearSuspectNoticed_eq {s : State} (set : s.chain.suspect ≠ none) :
    clearSuspectNoticed s = lineEvent .suspectCleared none none (s.onChain fun c => { c with suspect := none }) :=
  if_pos (Option.isSome_iff_ne_none.mpr set)

theorem serveClearSuspect_eq {s : State} {g : Geometry} (loaded : s.store.geometry = some g) : serveClearSuspect s =
    if s.line.state = .halt then ⟨s, .state, []⟩
    else if s.chain.suspect = none then ⟨s, .ok, []⟩
    else if s.chain.goodRun < g.resync then ⟨s, .notSynced, []⟩
    else ⟨clearSuspectNoticed s, .ok, []⟩ := by
  simp [serveClearSuspect, loaded]

/-- Settles O53. -/
theorem suspectIsCleared : Obligations.SuspectIsCleared := by
  intro s g tag waits loaded
  have judged := serveClearSuspect_eq (s := s.serving) loaded
  refine ⟨fun halt => ?_, fun running clear => ?_, fun running set unsynced => ?_, fun running set synced => ?_⟩
  · exact congrArg Host.Outcome.next
      (request_reads .clearSuspect tag [] s waits rfl _ _ (judged.trans (if_pos halt)))
  · exact congrArg Host.Outcome.next
      (request_reads .clearSuspect tag [] s waits rfl _ _ (judged.trans ((if_neg running).trans (if_pos clear))))
  · exact congrArg Host.Outcome.next (request_reads .clearSuspect tag [] s waits rfl _ _
      (judged.trans ((if_neg running).trans ((if_neg set).trans (if_pos unsynced)))))
  · have served := judged.trans ((if_neg running).trans ((if_neg set).trans (if_neg (Nat.not_lt.mpr synced))))
    rw [clearSuspectNoticed_eq (s := s.serving) set] at served
    refine ⟨_, congrArg Host.Outcome.next (request_notices .clearSuspect tag [] s waits rfl
      (u := s.serving.onChain fun c => { c with suspect := none }) rfl served), ?_⟩
    apply State.eq_of_blocks
    case governor => exact queueNotice_onlyPressure (s.serving.onChain fun c => { c with suspect := none }) _
    all_goals rfl

/-! ### The line state changed (R156, R164) -/

theorem setLine_eq {s : State} (weighed : CausesWeighed s) (st : LineState) : setLine st s = { s with
    line := { s.line with state := st }
    governor := s.governor.held { s.governor.causes with idle := decide (st = .idle), halt := decide (st = .halt) } } := by
  rw [setLine, weighHold_eq, weighed]
  rfl

/-- No forced hold begins with a move between STANDBY, RUN and a state that is itself no cause of one. -/
theorem setLine_released {s : State} (weighed : CausesWeighed s) {st : LineState} (idle : st ≠ .idle) (halt : st ≠ .halt) :
    setLine st s = { s with
      line := { s.line with state := st }
      governor := { s.governor with causes := { s.governor.causes with idle := false, halt := false } } } := by
  rw [setLine_eq weighed, Governor.held_no_new, decide_eq_false idle, decide_eq_false halt]
  simp only [HoldCauses.any, decide_eq_false idle, decide_eq_false halt, Bool.or_eq_true]
  grind

/-- Between STANDBY and RUN the causes of forced hold stay. -/
theorem causes_running {s : State} (weighed : CausesWeighed s) (idle : s.line.state ≠ .idle) (halt : s.line.state ≠ .halt) :
    ({ s.governor.causes with idle := false, halt := false } : HoldCauses) = s.governor.causes := by
  rw [weighed, State.holdCauses, decide_eq_false idle, decide_eq_false halt]

/-! ### CLEAR_HALT (R167) -/

theorem leaveHalt_eq {s : State} (weighed : CausesWeighed s) (halt : s.line.state = .halt) : leaveHalt s = { s with
    line := { s.line with state := .standby, haltCause := none, faultLine := false }
    governor := { s.governor with causes := { s.governor.causes with halt := false } } } := by
  have idle : s.governor.causes.idle = false := by
    rw [weighed, State.holdCauses, halt]; rfl
  have left := setLine_released (s := s.onLine fun l => { l with haltCause := none, faultLine := false }) (st := .standby)
    weighed (by decide) (by decide)
  rw [leaveHalt, left, ← idle]
  rfl

theorem serveClearHalt_refused {s : State} (refused : s.line.state ≠ .halt ∨ s.line.estopIn = true ∨ s.chain.encError = true) :
    serveClearHalt s = ⟨s, .state, [BitVec.ofNat 8 s.line.state.code, if s.line.estopIn then 1 else 0,
      if s.chain.encError then 1 else 0]⟩ := by
  rw [serveClearHalt, if_pos refused]
  simp only [putFlag_eq]
  rfl

theorem serveClearHalt_left {s : State} (weighed : CausesWeighed s) (halt : s.line.state = .halt)
    (released : s.line.estopIn = false) (sound : s.chain.encError = false) :
    serveClearHalt s = ⟨{ s with
      line := { s.line with state := .standby, haltCause := none, faultLine := false }
      governor := { s.governor with causes := { s.governor.causes with halt := false } } }, .ok, [1, 0, 0]⟩ := by
  have taken : ¬(s.line.state ≠ .halt ∨ s.line.estopIn = true ∨ s.chain.encError = true) := by
    simp [halt, released, sound]
  rw [serveClearHalt, if_neg taken, leaveHalt_eq weighed halt]
  simp only [released, sound]
  rfl

/-- Settles O52. -/
theorem haltIsCleared : Obligations.HaltIsCleared := by
  intro s tag weighed waits
  refine ⟨fun refused => ?_, fun halt released sound => ?_⟩
  · exact congrArg Host.Outcome.next
      (request_reads .clearHalt tag [] s waits rfl _ _ (serveClearHalt_refused (s := s.serving) refused))
  · exact congrArg Host.Outcome.next (request_replied .clearHalt tag [] s waits rfl _ _ _
      (serveClearHalt_left (s := s.serving) weighed halt released sound) rfl)

end Sys2Proof.Machine
end

section
/-! PROOF. BANK_ACTIVATE and LINE_STATE judged (R164, R181). -/

namespace Sys2Proof.Machine

/-! ### An activation taken (R181) -/

theorem activated_bank (x y : BankId) (s : State) : (s.activated x).bank y =
    if y = x then { s.bank x with state := .active }
    else if s.activeBank = some y then { s.bank y with state := .valid } else s.bank y := by
  rw [State.activated, onStore_bank (by rfl) (by rfl)]
  by_cases same : y = x
  · subst same
    cases active : s.activeBank with
    | none => simp
    | some z =>
      by_cases was : y = z
      · subst was; simp
      · simp [onBank_bank_of_ne was]
  · rw [onBank_bank_of_ne same]
    cases active : s.activeBank with
    | none => simp [same]
    | some z =>
      by_cases was : y = z
      · subst was; simp [same]
      · simp [onBank_bank_of_ne was, same, Ne.symm was]

theorem activated_activeBank (x : BankId) (s : State) : (s.activated x).activeBank = some x := by
  have a := activated_bankState x .a s
  have b := activated_bankState x .b s
  change (s.activated x).store.bankA.state = _ at a
  change (s.activated x).store.bankB.state = _ at b
  cases x with
  | a => exact if_pos (a.trans (if_pos rfl))
  | b =>
    have inactive : (s.activated .b).store.bankA.state ≠ .active := by
      rw [a, if_neg (by decide)]
      split
      · decide
      · rename_i other
        intro active
        exact other (if_pos active)
    exact (if_neg inactive).trans (if_pos (b.trans (if_pos rfl)))

theorem Governor.held_pressure (g : Governor) (now : HoldCauses) (p : Bool) :
    ({ g with pressure := p } : Governor).held now = { g.held now with pressure := p } := by
  unfold Governor.held
  split <;> rfl

/-- The settings of a bank adopted: the governor's row taken, and of the rest notice pressure alone (R157, R160). -/
theorem adopted_eq {x : BankId} {s : State} {r : GovernorRow} (row : (s.bank x).governorRow = some r) :
    s.adopted x = { s with governor := { s.governor.adopt r with pressure := (s.adopted x).governor.pressure } } := by
  have adopted : s.adopted x =
      weighPressure (s.onGovernor (Governor.adopt r)).link.notices.length (s.onGovernor (Governor.adopt r)) := by
    simp only [State.adopted, row, Option.elim]
  apply State.eq_of_blocks
  case governor => rw [adopted]; exact weighPressure_onlyPressure (s.onGovernor (Governor.adopt r)) _
  all_goals simp [adopted]

/-- An activation taken, block by block (R160, R156, R175). -/
theorem takeActivation_spec {x : BankId} {s : State} {r : GovernorRow} (row : (s.bank x).governor.rows.head? = some r) :
    (takeActivation x s).link = s.link.noticed (.bankEvent x s.activeBank s.chain.lug) ∧
    (takeActivation x s).governor = { (s.governor.adopt r).held { s.holdCauses with noBank := false } with
      pressure := (takeActivation x s).governor.pressure } ∧
    takeActivation x s = { s with
      store := (s.activated x).store
      governor := (takeActivation x s).governor
      link := (takeActivation x s).link } := by
  obtain ⟨chain, _, _, governor, line, link⟩ := activated_frame x s
  have same : s.activated x = { s with store := (s.activated x).store } := by
    unfold State.activated
    cases s.activeBank <;> cases x <;> rfl
  have rowNow : ((s.activated x).bank x).governorRow = some r := by
    rw [activated_bank, if_pos rfl]; exact row
  generalize adopted : (s.activated x).adopted x = u
  have eq := adopted_eq rowNow
  rw [adopted, governor] at eq
  generalize u.governor.pressure = p at eq
  have causes : u.holdCauses = { s.holdCauses with noBank := false } := by
    have active := activated_activeBank x s
    rw [eq]
    simp only [State.holdCauses, line, link]
    exact congrArg (HoldCauses.mk _ _ _) (congrArg Option.isNone active)
  have weighed : weighHold u = { s with
      store := (s.activated x).store
      governor := { (s.governor.adopt r).held { s.holdCauses with noBank := false } with pressure := p } } := by
    rw [weighHold_eq, causes, eq, same]
    simp only [Governor.held_pressure]
  rw [takeActivation_eq, adopted, weighed]
  refine ⟨queueNotice_link _ _, ?_, ?_⟩
  · exact queueNotice_onlyPressure _ _
  · apply State.eq_of_blocks <;> simp

/-! ### BANK_ACTIVATE (R181) -/

theorem bankOfCode_above {n : Nat} (above : 1 < n) : bankOfCode n = none := by
  match n, above with
  | _ + 2, _ => rfl

theorem bankOfCode_code (x : BankId) : bankOfCode (BitVec.ofNat 8 x.code).toNat = some x := by cases x <;> rfl

theorem serveBankActivate_eq {s : State} {code : Byte} {x : BankId} (named : bankOfCode code.toNat = some x) :
    serveBankActivate [code] s =
      if (s.bank x).state ≠ .valid then ⟨s, .notValid, []⟩
      else if s.store.pendingBank.isSome then ⟨s, .busy, []⟩
      else if s.line.state = .idle then ⟨takeActivation x s, .ok, [1]⟩
      else ⟨{ s with store := { s.store with pendingBank := some x } }, .ok, [0]⟩ := by
  have byte : bankOfCode (byteAt [code] 0) = some x := named
  rw [serveBankActivate, byte]
  rfl

theorem Governor.held_settings (g : Governor) (now : HoldCauses) : (g.held now).g = g.g ∧ (g.held now).phase = g.phase ∧
    (g.held now).remaining = g.remaining ∧ (g.held now).causes = now := by
  unfold Governor.held
  split <;> exact ⟨rfl, rfl, rfl, rfl⟩

theorem Governor.adopt_settings (g : Governor) (r : GovernorRow) : (g.adopt r).g = min (max g.g r.gMin) r.gMax ∧
    (g.adopt r).phase = g.phase ∧ (g.adopt r).remaining = min g.remaining
      (match g.phase with | .gap => min (max g.g r.gMin) r.gMax | .fill => r.window) := by
  refine ⟨rfl, rfl, ?_⟩
  simp only [Governor.adopt]
  cases g.phase <;> rfl

/-- The governor's settings after an activation (R160). -/
theorem takeActivation_settings {x : BankId} {s : State} {r : GovernorRow}
    (row : (s.bank x).governor.rows.head? = some r) : (takeActivation x s).governor.g = min (max s.governor.g r.gMin) r.gMax ∧
    (takeActivation x s).governor.phase = s.governor.phase ∧
    (takeActivation x s).governor.remaining = min s.governor.remaining
      (match s.governor.phase with | .gap => min (max s.governor.g r.gMin) r.gMax | .fill => r.window) ∧
    (takeActivation x s).governor.causes = { s.holdCauses with noBank := false } := by
  obtain ⟨_, governor, _⟩ := takeActivation_spec row
  obtain ⟨target, phase, remaining, causes⟩ := (s.governor.adopt r).held_settings { s.holdCauses with noBank := false }
  obtain ⟨target', phase', remaining'⟩ := s.governor.adopt_settings r
  rw [governor]
  exact ⟨target.trans target', phase.trans phase', remaining.trans remaining', causes⟩

/-- The bank store after an activation (R181). -/
theorem takeActivation_banks {x : BankId} {s : State} {r : GovernorRow} (row : (s.bank x).governor.rows.head? = some r) :
    (takeActivation x s).activeBank = some x ∧ (∀ y, (takeActivation x s).bank y = (s.activated x).bank y) ∧
    (takeActivation x s).store = { s.store with
      bankA := (takeActivation x s).store.bankA
      bankB := (takeActivation x s).store.bankB
      pendingBank := none } := by
  obtain ⟨_, _, frame⟩ := takeActivation_spec row
  obtain ⟨sequence, pending, geometry⟩ := activated_store x s
  have store : (takeActivation x s).store = (s.activated x).store := by rw [frame]
  refine ⟨?_, fun y => ?_, ?_⟩
  · rw [State.activeBank, store]; exact activated_activeBank x s
  · simp only [State.bank, store]
  · rw [store]; dsimp only; rw [← sequence, ← pending, ← geometry]

/-- Where bank `x` is not ACTIVE the other bank is the active one exactly when it is ACTIVE. -/
theorem State.activeBank_iff {s : State} {x y : BankId} (other : y ≠ x) (inactive : (s.bank x).state ≠ .active) :
    s.activeBank = some y ↔ (s.bank y).state = .active := by
  cases x <;> cases y
  case a.b =>
    have inactive : s.store.bankA.state ≠ .active := inactive
    rw [State.activeBank, if_neg inactive]
    simp [State.bank]
  case b.a =>
    have inactive : s.store.bankB.state ≠ .active := inactive
    rw [State.activeBank, if_neg inactive]
    simp [State.bank]
  all_goals exact absurd rfl other

theorem request_activates {s u : State} {r : Request} {tag : Byte} {body content : List Byte} {x : BankId} {row : GovernorRow}
    (waits : Waiting s ⟨r.code, tag, body⟩) (length : r.lengthOk body = true) (link : u.link = s.serving.link)
    (named : (u.bank x).governor.rows.head? = some row) (served : serve r body s.serving = ⟨takeActivation x u, .ok, content⟩) :
    request r tag body s = { takeActivation x u with
      link := (s.link.noticed (.bankEvent x u.activeBank u.chain.lug)).replied ⟨r.code + 0x80, tag, 0 :: content⟩ } := by
  obtain ⟨noticed, _, _⟩ := takeActivation_spec named
  rw [link] at noticed
  have taken : (takeActivation x u).link = { s.link.noticed (.bankEvent x u.activeBank u.chain.lug) with taken := true } :=
    noticed.trans (Link.noticed_taken _ _ _)
  rw [request_replied r tag body s waits length _ _ _ served (by rw [taken]), taken]
  rfl

/-- Settles O57. -/
theorem bankIsActivated : Obligations.BankIsActivated := by
  intro s tag code waits
  refine ⟨fun above => ?_, fun x named => ?_⟩
  · have served : serveBankActivate [code] s.serving = ⟨s.serving, .range, []⟩ := by
      have byte : bankOfCode (byteAt [code] 0) = none := bankOfCode_above above
      rw [serveBankActivate, byte]
    exact congrArg Host.Outcome.next (request_reads .bankActivate tag _ s waits rfl _ _ served)
  · have judged := serveBankActivate_eq (s := s.serving) (code := code) (x := x) (by rw [named]; exact bankOfCode_code x)
    refine ⟨fun invalid => ?_, fun valid pending => ?_, fun valid free moving => ?_, fun r valid free idle row => ?_⟩
    · exact congrArg Host.Outcome.next
        (request_reads .bankActivate tag _ s waits rfl _ _ (judged.trans (if_pos invalid)))
    · exact congrArg Host.Outcome.next (request_reads .bankActivate tag _ s waits rfl _ _
        (judged.trans ((if_neg (not_not.mpr valid)).trans (if_pos (Option.isSome_iff_ne_none.mpr pending)))))
    · exact congrArg Host.Outcome.next (request_replied .bankActivate tag _ s waits rfl _ _ _
        (judged.trans ((if_neg (not_not.mpr valid)).trans ((if_neg (by simpa using free)).trans (if_neg moving)))) rfl)
    · have served := judged.trans ((if_neg (not_not.mpr valid)).trans ((if_neg (by simpa using free)).trans (if_pos idle)))
      have row' : (s.serving.bank x).governor.rows.head? = some r := row
      have eq := request_activates (r := .bankActivate) (body := [code]) (u := s.serving) waits rfl rfl row' served
      obtain ⟨active, banks, store⟩ := takeActivation_banks row'
      obtain ⟨target, phase, remaining, causes⟩ := takeActivation_settings row'
      obtain ⟨_, _, frame⟩ := takeActivation_spec row'
      have pending : ({ s.serving.store with pendingBank := none } : Store) = s.store := by rw [← free]; rfl
      have others : ∀ y, y ≠ x → (s.serving.activated x).bank y =
          if (s.bank y).state = .active then { s.bank y with state := .valid } else s.bank y := fun y other =>
        (activated_bank x y _).trans ((if_neg other).trans
          (if_congr (State.activeBank_iff (s := s) other (by rw [valid]; decide)) rfl rfl))
      have self := (banks x).trans ((activated_bank x x _).trans (if_pos rfl))
      generalize takeActivation x s.serving = t at eq active banks store target phase remaining causes frame self
      refine ⟨_, congrArg Host.Outcome.next eq, active, self, fun y other => (banks y).trans (others y other), target,
        congrArg HoldCauses.noBank causes, phase, remaining, ?_, rfl, ?_⟩
      · rw [← pending]; exact store
      · rw [frame]; rfl

end Sys2Proof.Machine
end

section
/-! PROOF. LINE_STATE judged (R164). -/

namespace Sys2Proof.Machine

/-! ### The table of R164 -/

theorem lineStateOfCode_code (st : LineState) : lineStateOfCode (BitVec.ofNat 8 st.code).toNat = some st := by
  cases st <;> rfl

theorem lineStateOfCode_above {n : Nat} (above : 3 < n) : lineStateOfCode n = none := by
  match n, above with
  | _ + 4, _ => rfl

theorem lineStateOfCode_below {n : Nat} (below : n < 3) : ∃ st, lineStateOfCode n = some st ∧ st ≠ .halt := by
  match n, below with
  | 0, _ => exact ⟨_, rfl, by decide⟩
  | 1, _ => exact ⟨_, rfl, by decide⟩
  | 2, _ => exact ⟨_, rfl, by decide⟩

theorem judgeLineState_same (s : State) : judgeLineState (some s.line.state) s = (s, .ok) := if_pos rfl

theorem judgeLineState_refused {s : State} {st : LineState} (other : st ≠ s.line.state)
    (refused : st = .halt ∨ s.line.state = .halt ∨ s.line.state = .idle ∧ st = .run ∨ s.line.state = .run ∧ st = .idle) :
    judgeLineState (some st) s = (s, .state) := by
  unfold judgeLineState
  simp only [if_neg other]
  rcases refused with rfl | now | ⟨now, rfl⟩ | ⟨now, rfl⟩
  · rfl
  · rw [now]; cases st <;> rfl
  · rw [now]
  · rw [now]

theorem judgeLineState_moves {s : State} {st : LineState}
    (moves : s.line.state = .standby ∧ st = .run ∨ s.line.state = .run ∧ st = .standby) :
    judgeLineState (some st) s = (setLine st s, .ok) := by
  rcases moves with ⟨now, rfl⟩ | ⟨now, rfl⟩ <;> simp [judgeLineState, now]

theorem judgeLineState_toStandby {s : State} (idle : s.line.state = .idle) :
    judgeLineState (some .standby) s = serveToStandby s := by
  simp [judgeLineState, idle]

theorem judgeLineState_toIdle {s : State} (standby : s.line.state = .standby) :
    judgeLineState (some .idle) s = if s.lineEmpty then (enterIdle s, .ok) else (s, .busy) := by
  simp [judgeLineState, standby]

theorem lineEmpty_iff {s : State} : s.lineEmpty = true ↔
    s.chain.pieces = [] ∧ s.logs.queue = [] ∧ s.output.chain = [] ∧ s.output.log = [] := by
  simp [State.lineEmpty, and_assoc]

/-! ### The moves -/

theorem setLine_running {s : State} (weighed : CausesWeighed s) {st : LineState}
    (moves : s.line.state = .standby ∧ st = .run ∨ s.line.state = .run ∧ st = .standby) :
    setLine st s = { s with line := { s.line with state := st } } := by
  have goal : st ≠ .idle ∧ st ≠ .halt := by rcases moves with ⟨_, rfl⟩ | ⟨_, rfl⟩ <;> decide
  have now : s.line.state ≠ .idle ∧ s.line.state ≠ .halt := by rcases moves with ⟨h, _⟩ | ⟨h, _⟩ <;> rw [h] <;> decide
  rw [setLine_released weighed goal.1 goal.2, causes_running weighed now.1 now.2]

/-- The suspect condition cleared, block by block (R22). -/
theorem clearSuspectNoticed_spec (s : State) :
    (clearSuspectNoticed s).link = (if s.chain.suspect.isSome then
      s.link.noticed (.lineEvent .suspectCleared none s.line.state none s.chain.lug s.chain.goodRun) else s.link) ∧
    OnlyPressure s (clearSuspectNoticed s) ∧
    clearSuspectNoticed s = { s with
      chain := { s.chain with suspect := none }
      governor := (clearSuspectNoticed s).governor
      link := (clearSuspectNoticed s).link } := by
  cases set : s.chain.suspect with
  | none =>
    rw [clearSuspectNoticed_none set]
    exact ⟨rfl, rfl, by rw [← set]⟩
  | some c =>
    rw [clearSuspectNoticed_eq (by rw [set]; exact Option.some_ne_none c)]
    obtain ⟨pressure, eq⟩ := lineEvent_eq .suspectCleared none none (s.onChain fun c => { c with suspect := none })
    refine ⟨lineEvent_link _ _ _ _, pressure, ?_⟩
    apply State.eq_of_blocks <;> rw [eq] <;> rfl

/-- IDLE left for STANDBY, block by block (R164, R4, R22, R45). -/
theorem enterStandby_spec {s : State} (weighed : CausesWeighed s) (idle : s.line.state = .idle) :
    (enterStandby s).link = (if s.chain.suspect.isSome then
      s.link.noticed (.lineEvent .suspectCleared none .standby none s.chain.lug 0) else s.link) ∧
    (enterStandby s).governor = { s.governor with
      causes := { s.governor.causes with idle := false }
      pressure := (enterStandby s).governor.pressure } ∧
    enterStandby s = { s with
      line := { s.line with state := .standby }
      chain := { s.chain with highest := s.chain.count, goodRun := 0, hold := none, lockOn := true, suspect := none }
      moisture := { s.moisture with held := s.moisture.held.map fun _ => none, ages := s.moisture.ages.map fun _ => 0 }
      governor := (enterStandby s).governor
      link := (enterStandby s).link } := by
  have halted : ({ s.governor.causes with idle := false, halt := false } : HoldCauses) =
      { s.governor.causes with idle := false } := by
    rw [weighed, State.holdCauses, idle]; rfl
  have left := setLine_released weighed (st := .standby) (by decide) (by decide)
  rw [halted] at left
  obtain ⟨link, pressure, frame⟩ := clearSuspectNoticed_spec ((setLine .standby s).onChain fun c =>
    { c with highest := c.count, goodRun := 0, hold := none, lockOn := true })
  rw [left] at link pressure frame
  have entered : enterStandby s = clearHeld (clearSuspectNoticed ((setLine .standby s).onChain fun c =>
    { c with highest := c.count, goodRun := 0, hold := none, lockOn := true })) := rfl
  rw [left] at entered
  generalize clearSuspectNoticed _ = u at link pressure frame entered
  have blocks : (enterStandby s).link = u.link ∧ (enterStandby s).governor = u.governor := by rw [entered]; exact ⟨rfl, rfl⟩
  refine ⟨blocks.1.trans link, ?_, ?_⟩
  · rw [blocks.2]; exact pressure
  · rw [blocks.1, blocks.2, entered, clearHeld, frame]; rfl

/-- STANDBY left for IDLE before a pending activation is taken (R164, R156). -/
theorem idleBegun_eq {s : State} (weighed : CausesWeighed s) (standby : s.line.state = .standby) :
    setLine .idle (s.onChain fun c => { c with lockOn := false, hold := none }) = { s with
      line := { s.line with state := .idle }
      chain := { s.chain with lockOn := false, hold := none }
      governor := s.governor.held { s.governor.causes with idle := true } } := by
  rw [setLine_eq (s := s.onChain fun c => { c with lockOn := false, hold := none }) weighed]
  have halted : s.governor.causes.halt = false := by rw [weighed, State.holdCauses, standby]; rfl
  have now : ({ s.governor.causes with idle := decide (LineState.idle = .idle), halt := decide (LineState.idle = .halt) } :
      HoldCauses) = { s.governor.causes with idle := true } := by
    have parts : ∀ c : HoldCauses, c.halt = false → (HoldCauses.mk true false c.hostSilent c.noBank) = { c with idle := true } :=
      fun c h => by rw [← h]
    exact parts _ halted
  exact congrArg (fun c => ({ s with
      line := { s.line with state := .idle }
      chain := { s.chain with lockOn := false, hold := none }
      governor := s.governor.held c } : State)) now

/-- A permit record emptied stays empty with the permit off, whatever the causes become. -/
theorem Governor.held_emptied {g : Governor} (h : g.permit = false ∧ g.record = []) (now : HoldCauses) :
    (g.held now).permit = false ∧ (g.held now).record = [] := by
  unfold Governor.held
  split
  · exact ⟨rfl, rfl⟩
  · exact h

theorem Governor.held_begun {g : Governor} {now : HoldCauses} (begins : now.any = true) (fresh : g.causes.any = false) :
    (g.held now).permit = false ∧ (g.held now).record = [] := by
  rw [Governor.held, if_pos ⟨begins, fresh⟩]
  exact ⟨rfl, rfl⟩

/-! ### The replies -/

theorem serveLineState_eq (code : Byte) (s : State) : serveLineState [code] s =
    ⟨(judgeLineState (lineStateOfCode code.toNat) s).1, (judgeLineState (lineStateOfCode code.toNat) s).2,
      [BitVec.ofNat 8 (judgeLineState (lineStateOfCode code.toNat) s).1.line.state.code]⟩ := rfl

/-- A LINE_STATE judged without a change of state. -/
theorem lineState_stays {s : State} {tag code : Byte} {st : Status} (waits : Waiting s ⟨0x03, tag, [code]⟩)
    (judged : judgeLineState (lineStateOfCode code.toNat) s.serving = (s.serving, st)) :
    exec (.lineState tag [code]) s = .next { s with
      link := s.link.replied ⟨0x83, tag, [BitVec.ofNat 8 st.code, BitVec.ofNat 8 s.line.state.code]⟩ } := by
  refine congrArg Host.Outcome.next (request_reads .lineState tag _ s waits rfl st _ ?_)
  exact (serveLineState_eq code s.serving).trans (by rw [judged]; rfl)

/-- A LINE_STATE taken, its effect leaving the oldest request taken. -/
theorem lineState_taken {s t : State} {tag code : Byte} (waits : Waiting s ⟨0x03, tag, [code]⟩)
    (judged : judgeLineState (lineStateOfCode code.toNat) s.serving = (t, .ok)) (taken : t.link.taken = true) :
    exec (.lineState tag [code]) s = .next { t with
      link := t.link.replied ⟨0x83, tag, [0, BitVec.ofNat 8 t.line.state.code]⟩ } := by
  refine congrArg Host.Outcome.next (request_replied .lineState tag _ s waits rfl .ok _ t ?_ taken)
  exact (serveLineState_eq code s.serving).trans (by rw [judged])

theorem serveToStandby_refused {s : State} (missing : s.store.geometry = none ∨ s.activeBank = none) :
    serveToStandby s = (s, .notValid) := if_pos (by simpa using missing)

theorem serveToStandby_halted {s : State} (geometry : s.store.geometry ≠ none) (active : s.activeBank ≠ none)
    (fault : s.line.estopIn = true ∨ s.chain.encError = true) : serveToStandby s = (s, .state) := by
  rw [serveToStandby, if_neg (by simp [geometry, active]), if_pos fault]

theorem serveToStandby_ok {s : State} (geometry : s.store.geometry ≠ none) (active : s.activeBank ≠ none)
    (released : s.line.estopIn = false) (sound : s.chain.encError = false) : serveToStandby s = (enterStandby s, .ok) := by
  rw [serveToStandby, if_neg (by simp [geometry, active]), if_neg (by simp [released, sound])]

/-- The move from IDLE to STANDBY taken (R164). -/
theorem lineState_toStandby {s : State} {tag : Byte} (weighed : CausesWeighed s) (waits : Waiting s ⟨0x03, tag, [1]⟩)
    (idle : s.line.state = .idle) (geometry : s.store.geometry ≠ none) (active : s.activeBank ≠ none)
    (released : s.line.estopIn = false) (sound : s.chain.encError = false) :
    ∃ t, exec (.lineState tag [1]) s = .next t ∧ t = { s with
      line := { s.line with state := .standby }
      chain := { s.chain with highest := s.chain.count, goodRun := 0, hold := none, lockOn := true, suspect := none }
      moisture := { s.moisture with held := s.moisture.held.map fun _ => none, ages := s.moisture.ages.map fun _ => 0 }
      governor := { s.governor with
        causes := { s.governor.causes with idle := false }, pressure := t.governor.pressure }
      link := Link.replied (if s.chain.suspect.isSome then
          s.link.noticed (.lineEvent .suspectCleared none .standby none s.chain.lug 0) else s.link)
        ⟨0x83, tag, [0, 1]⟩ } := by
  obtain ⟨link, governor, frame⟩ := enterStandby_spec (s := s.serving) weighed idle
  have judged : judgeLineState (lineStateOfCode (1 : Byte).toNat) s.serving = (enterStandby s.serving, .ok) :=
    (judgeLineState_toStandby (s := s.serving) idle).trans (serveToStandby_ok (s := s.serving) geometry active released sound)
  generalize enterStandby s.serving = u at link governor frame judged
  have noticed : u.link = { (if s.chain.suspect.isSome then
      s.link.noticed (.lineEvent .suspectCleared none .standby none s.chain.lug 0) else s.link) with taken := true } := by
    rw [link]
    show (if s.chain.suspect.isSome then Link.noticed { s.link with taken := true } _ else _) = _
    split
    · exact Link.noticed_taken _ _ _
    · rfl
  have line : u.line.state = .standby := by rw [frame]
  have reply := lineState_taken waits judged (by rw [noticed])
  rw [noticed, line] at reply
  refine ⟨_, reply, ?_⟩
  apply State.eq_of_blocks
  case governor => exact governor
  all_goals rw [frame]; try rfl

/-- STANDBY left for IDLE with an activation pending, which is taken at once (R164, R181, R156). -/
theorem lineState_activates {s : State} {tag : Byte} {x : BankId} {r : GovernorRow} (weighed : CausesWeighed s)
    (waits : Waiting s ⟨0x03, tag, [0]⟩) (standby : s.line.state = .standby) (empty : s.lineEmpty = true)
    (pending : s.store.pendingBank = some x) (row : (s.bank x).governor.rows.head? = some r) :
    ∃ t, exec (.lineState tag [0]) s = .next t ∧ t.line = { s.line with state := .idle } ∧
      t.chain = { s.chain with lockOn := false, hold := none } ∧ t.activeBank = some x ∧
      (∀ y, t.bank y = (s.activated x).bank y) ∧
      t.store = { s.store with bankA := t.store.bankA, bankB := t.store.bankB, pendingBank := none } ∧
      t.governor.g = min (max s.governor.g r.gMin) r.gMax ∧ t.governor.phase = s.governor.phase ∧
      t.governor.remaining = min s.governor.remaining
        (match s.governor.phase with | .gap => min (max s.governor.g r.gMin) r.gMax | .fill => r.window) ∧
      t.governor.causes = { s.governor.causes with idle := true, noBank := false } ∧
      (s.governor.causes.any = false → t.governor.permit = false ∧ t.governor.record = []) ∧
      t.link = (s.link.noticed (.bankEvent x s.activeBank s.chain.lug)).replied ⟨0x83, tag, [0, 0]⟩ ∧
      t = { s with line := t.line, chain := t.chain, store := t.store, governor := t.governor, link := t.link } := by
  generalize begun : setLine .idle (s.serving.onChain fun c => { c with lockOn := false, hold := none }) = u
  have entered : enterIdle s.serving = takeActivation x u := by
    have still : u.store.pendingBank = some x := by rw [← begun, idleBegun_eq (s := s.serving) weighed standby]; exact pending
    rw [enterIdle, begun, takePending, still]
    rfl
  have judged : judgeLineState (lineStateOfCode (0 : Byte).toNat) s.serving = (takeActivation x u, .ok) :=
    (judgeLineState_toIdle (s := s.serving) standby).trans ((if_pos empty).trans (by rw [entered]))
  have halt : s.governor.causes.halt = false := by rw [weighed, State.holdCauses, standby]; rfl
  rw [idleBegun_eq (s := s.serving) weighed standby] at begun
  have causes : u.holdCauses = { s.governor.causes with idle := true } := by
    rw [← begun]
    have parts : ∀ c : HoldCauses, c.halt = false → (HoldCauses.mk true false c.hostSilent c.noBank) = { c with idle := true } :=
      fun c h => by rw [← h]
    rw [← parts _ halt, weighed]
    rfl
  have rowNow : (u.bank x).governor.rows.head? = some r := by rw [← begun]; cases x <;> exact row
  obtain ⟨active, banks, store⟩ := takeActivation_banks rowNow
  obtain ⟨target, phase, remaining, causesNow⟩ := takeActivation_settings rowNow
  obtain ⟨noticed, governor, frame⟩ := takeActivation_spec rowNow
  rw [causes] at causesNow governor
  have emptied : s.governor.causes.any = false → (takeActivation x u).governor.permit = false ∧
      (takeActivation x u).governor.record = [] := fun fresh => by
    have off : (u.governor.adopt r).permit = false ∧ (u.governor.adopt r).record = [] := by
      rw [← begun]; exact Governor.held_begun (by rfl) fresh
    rw [governor]
    exact Governor.held_emptied off _
  have taken : (takeActivation x u).link =
      { s.link.noticed (.bankEvent x s.activeBank s.chain.lug) with taken := true } := by
    rw [noticed, ← begun]; exact Link.noticed_taken _ _ _
  have line : (takeActivation x u).line = { s.line with state := .idle } := by rw [frame, ← begun]; rfl
  have reply := lineState_taken waits judged (by rw [taken])
  have idle : (takeActivation x u).line.state = .idle := by rw [line]
  rw [taken, idle] at reply
  obtain ⟨g', phase', remaining', _⟩ := s.governor.held_settings { s.governor.causes with idle := true }
  have before : u.governor = s.governor.held { s.governor.causes with idle := true } := by rw [← begun]; rfl
  rw [before, g'] at target
  rw [before, phase'] at phase
  rw [before, g', phase', remaining'] at remaining
  have chain : (takeActivation x u).chain = { s.chain with lockOn := false, hold := none } := by rw [frame, ← begun]; rfl
  have storeNow : u.store = s.store := by rw [← begun]; rfl
  have bankNow : ∀ y, (u.activated x).bank y = (s.activated x).bank y := fun y => by
    rw [activated_bank, activated_bank, ← begun]; rfl
  rw [storeNow] at store
  generalize takeActivation x u = t at *
  refine ⟨_, reply, line, chain, active, fun y => (banks y).trans (bankNow y), store, target, phase, remaining, causesNow,
    emptied, rfl, ?_⟩
  rw [frame, ← begun]
  rfl

/-- Settles O51. -/
theorem lineStateIsJudged : Obligations.LineStateIsJudged := by
  rintro s tag code frame weighed waits rfl
  refine ⟨fun above => ?range, fun same => ?same, fun refused => ?refused, fun idle one missing => ?notValid,
    fun idle one geometry active fault => ?halted, fun idle one geometry active released sound => ?standby,
    fun standby two => ?run, fun run one => ?back, fun standby zero stands => ?busy,
    fun standby zero pieces logs chain log free => ?idle,
    fun x r standby zero pieces logs chain log pending row => ?activated⟩
  case range => exact lineState_stays waits (by rw [lineStateOfCode_above above]; rfl)
  case same =>
    subst same
    exact lineState_stays waits (by rw [lineStateOfCode_code]; exact judgeLineState_same s.serving)
  case refused =>
    have target : ∃ st, lineStateOfCode code.toNat = some st ∧ st ≠ s.line.state ∧ (st = .halt ∨ s.line.state = .halt ∨
        s.line.state = .idle ∧ st = .run ∨ s.line.state = .run ∧ st = .idle) := by
      rcases refused with ⟨rfl, running⟩ | ⟨halt, below⟩ | ⟨idle, rfl⟩ | ⟨run, rfl⟩
      · exact ⟨.halt, rfl, running.symm, .inl rfl⟩
      · obtain ⟨st, named, other⟩ := lineStateOfCode_below below
        exact ⟨st, named, halt ▸ other, .inr (.inl halt)⟩
      · exact ⟨.run, rfl, by rw [idle]; decide, .inr (.inr (.inl ⟨idle, rfl⟩))⟩
      · exact ⟨.idle, rfl, by rw [run]; decide, .inr (.inr (.inr ⟨run, rfl⟩))⟩
    obtain ⟨st, named, other, refused⟩ := target
    exact lineState_stays waits (by rw [named]; exact judgeLineState_refused (s := s.serving) other refused)
  case notValid =>
    subst one
    have reply := lineState_stays waits
      ((judgeLineState_toStandby (s := s.serving) idle).trans (serveToStandby_refused (s := s.serving) missing))
    rw [idle] at reply
    exact reply
  case halted =>
    subst one
    have reply := lineState_stays waits
      ((judgeLineState_toStandby (s := s.serving) idle).trans (serveToStandby_halted (s := s.serving) geometry active fault))
    rw [idle] at reply
    exact reply
  case standby => subst one; exact lineState_toStandby weighed waits idle geometry active released sound
  case run =>
    subst two
    have moves : s.line.state = .standby ∧ LineState.run = .run ∨ s.line.state = .run ∧ LineState.run = .standby :=
      .inl ⟨standby, rfl⟩
    exact lineState_taken waits ((judgeLineState_moves (s := s.serving) moves).trans
      (by rw [setLine_running (s := s.serving) weighed moves])) rfl
  case back =>
    subst one
    have moves : s.line.state = .standby ∧ LineState.standby = .run ∨ s.line.state = .run ∧ LineState.standby = .standby :=
      .inr ⟨run, rfl⟩
    exact lineState_taken waits ((judgeLineState_moves (s := s.serving) moves).trans
      (by rw [setLine_running (s := s.serving) weighed moves])) rfl
  case busy =>
    subst zero
    have held : ¬s.lineEmpty = true := fun empty => by
      obtain ⟨pieces, logs, chain, log⟩ := lineEmpty_iff.mp empty
      simp [pieces, logs, chain, log] at stands
    have reply := lineState_stays waits ((judgeLineState_toIdle (s := s.serving) standby).trans (if_neg held))
    rw [standby] at reply
    exact reply
  case idle =>
    subst zero
    have empty : s.lineEmpty = true := lineEmpty_iff.mpr ⟨pieces, logs, chain, log⟩
    have entered : enterIdle s.serving = setLine .idle (s.serving.onChain fun c => { c with lockOn := false, hold := none }) := by
      rw [enterIdle, takePending, idleBegun_eq (s := s.serving) weighed standby,
        show s.serving.store.pendingBank = none from free]
      rfl
    rw [idleBegun_eq (s := s.serving) weighed standby] at entered
    exact lineState_taken waits ((judgeLineState_toIdle (s := s.serving) standby).trans
      ((if_pos empty).trans (by rw [entered]))) rfl
  case activated =>
    subst zero
    obtain ⟨t, run, line, chainNow, active, banks, rest⟩ := lineState_activates weighed waits standby
      (lineEmpty_iff.mpr ⟨pieces, logs, chain, log⟩) pending row
    refine ⟨t, run, line, chainNow, active, (banks x).trans ((activated_bank x x s).trans (if_pos rfl)),
      fun y was other => ?_, rest⟩
    exact (banks y).trans ((activated_bank x y s).trans ((if_neg other).trans (if_pos was)))

end Sys2Proof.Machine
end

section
/-! PROOF. GEOMETRY_WRITE judged item by item and taken whole (R76, R176, R178). -/

namespace Sys2Proof.Machine

/-! ### The timers weighed against new timeouts -/

/-- What the weighing of the silence timers changes: presence, host silence and the notices and holds they bring. -/
structure TimersWeighed (s t : State) : Prop where
  answers : t.panels.answers = s.panels.answers
  replies : t.link.replies = s.link.replies
  taken : t.link.taken = s.link.taken
  timer : t.link.timer = s.link.timer
  frame : t = { s with panels := t.panels, link := t.link, governor := t.governor }

theorem TimersWeighed.refl (s : State) : TimersWeighed s s := ⟨rfl, rfl, rfl, rfl, rfl⟩

theorem TimersWeighed.trans {s t u : State} (h : TimersWeighed s t) (k : TimersWeighed t u) : TimersWeighed s u :=
  ⟨k.answers.trans h.answers, k.replies.trans h.replies, k.taken.trans h.taken, k.timer.trans h.timer,
    k.frame.trans (by rw [h.frame])⟩

theorem TimersWeighed.store {s t : State} (h : TimersWeighed s t) : t.store = s.store := by rw [h.frame]

theorem weighPanelTimer_stays {p : PanelId} {s : State} (fresh : (s.panels.port p).timer < s.panelTimeoutMs) :
    weighPanelTimer p s = s := if_neg fun h => absurd h.2 (Nat.not_le.mpr fresh)

theorem weighPanelTimer_spec (p : PanelId) (s : State) : TimersWeighed s (weighPanelTimer p s) ∧
    (weighPanelTimer p s).link.silent = s.link.silent ∧
    (weighPanelTimer p s).panels.port p = { s.panels.port p with
      present := (s.panels.port p).present && decide ((s.panels.port p).timer < s.panelTimeoutMs) } ∧
    (weighPanelTimer p s).panels.port (otherPanel p) = s.panels.port (otherPanel p) := by
  by_cases fresh : (s.panels.port p).timer < s.panelTimeoutMs
  · rw [weighPanelTimer_stays fresh]
    exact ⟨.refl s, rfl, by simp [fresh], rfl⟩
  · cases present : (s.panels.port p).present with
    | false =>
      have stays : weighPanelTimer p s = s := if_neg (by simp [present])
      rw [stays]
      refine ⟨.refl s, rfl, ?_, rfl⟩
      generalize s.panels.port p = q at present
      rw [Bool.false_and, ← present]
    | true =>
      have silent : weighPanelTimer p s = setPresence p false s := if_pos ⟨present, Nat.not_lt.mp fresh⟩
      obtain ⟨this, other, answers, link, _, frame⟩ := setPresence_spec p false s
      obtain ⟨_, _, taken, replies, timer, silence, _, _⟩ := s.link.noticed_keeps (.panelEvent p false s.chain.lug)
      rw [← link] at taken replies timer silence
      rw [silent]
      exact ⟨⟨answers, replies, taken, timer, frame⟩, silence, by rw [this]; simp [fresh], other⟩

theorem weighHost_spec {s : State} {g : Geometry} (loaded : s.store.geometry = some g) (most : g.hostTimeout ≤ 60) :
    TimersWeighed s (weighHost s) ∧ (weighHost s).panels = s.panels ∧
    (weighHost s).link.silent = (s.link.silent || decide (1 ≤ g.hostTimeout ∧ g.hostTimeout * 1000 ≤ s.link.timer)) ∧
    (¬(1 ≤ g.hostTimeout ∧ g.hostTimeout * 1000 ≤ s.link.timer) → weighHost s = s) := by
  by_cases least : 1 ≤ g.hostTimeout
  · have limit : s.hostTimeoutMs = some (g.hostTimeout * 1000) := by simp [State.hostTimeoutMs, loaded, least, most]
    by_cases reached : g.hostTimeout * 1000 ≤ s.link.timer ∧ s.link.silent = false
    · have silent : weighHost s = setHostSilence s := by rw [weighHost, limit]; exact if_pos reached
      rw [silent, setHostSilence, weighHold_eq]
      refine ⟨⟨rfl, rfl, rfl, rfl, rfl⟩, rfl, ?_, fun free => absurd ⟨least, reached.1⟩ free⟩
      simp [State.onLink, least, reached.1]
    · have stays : weighHost s = s := by rw [weighHost, limit]; exact if_neg reached
      rw [stays]
      refine ⟨.refl s, rfl, ?_, fun _ => rfl⟩
      by_cases late : g.hostTimeout * 1000 ≤ s.link.timer
      · simp [show s.link.silent = true by simpa [late] using reached]
      · simp [late]
  · have limit : s.hostTimeoutMs = none := by simp [State.hostTimeoutMs, loaded, least]
    have stays : weighHost s = s := by rw [weighHost, limit]
    rw [stays]
    exact ⟨.refl s, rfl, by simp [least], fun _ => rfl⟩

/-- A geometry set taken: the timers weighed, P1 first (R178). -/
theorem takeGeometry_spec {g : Geometry} (most : g.hostTimeout ≤ 60) (s : State) :
    TimersWeighed (s.onStore fun st => { st with geometry := some g }) (takeGeometry g s) ∧
    (∀ p, (takeGeometry g s).panels.port p = { s.panels.port p with
      present := (s.panels.port p).present && decide ((s.panels.port p).timer < g.panelTimeout * 1000) }) ∧
    (takeGeometry g s).link.silent =
      (s.link.silent || decide (1 ≤ g.hostTimeout ∧ g.hostTimeout * 1000 ≤ s.link.timer)) := by
  generalize loaded : s.onStore (fun st => { st with geometry := some g }) = u
  have timeout : u.panelTimeoutMs = g.panelTimeout * 1000 := by rw [← loaded]; rfl
  have portsOf : ∀ p, u.panels.port p = s.panels.port p := fun p => by rw [← loaded]; rfl
  have linkOf : u.link = s.link := by rw [← loaded]; rfl
  have storeOf : u.store.geometry = some g := by rw [← loaded]; rfl
  obtain ⟨first, silent1, this1, other1⟩ := weighPanelTimer_spec .p1 u
  obtain ⟨second, silent2, this2, other2⟩ := weighPanelTimer_spec .p2 (weighPanelTimer .p1 u)
  have both := first.trans second
  have timeout2 : (weighPanelTimer .p1 u).panelTimeoutMs = g.panelTimeout * 1000 := by
    rw [State.panelTimeoutMs, first.store, ← timeout]; rfl
  obtain ⟨third, panels, silent3, _⟩ := weighHost_spec (s := weighPanelTimer .p2 (weighPanelTimer .p1 u))
    (by rw [both.store]; exact storeOf) most
  have taken : takeGeometry g s = weighHost (weighPanelTimer .p2 (weighPanelTimer .p1 u)) := by rw [← loaded]; rfl
  rw [taken, panels]
  refine ⟨both.trans third, fun p => ?_, ?_⟩
  · cases p with
    | p1 => exact Eq.trans (b := (weighPanelTimer .p1 u).panels.port .p1) other2 (by rw [this1, timeout, portsOf])
    | p2 => exact this2.trans (by rw [show (weighPanelTimer .p1 u).panels.port .p2 = u.panels.port .p2 from other1,
        timeout2, portsOf])
  · rw [silent3, silent2, silent1, both.timer, linkOf]

/-- With every timer below a second no timeout in range is reached. -/
theorem takeGeometry_quick {g : Geometry} {s : State} (panel : 1 ≤ g.panelTimeout) (most : g.hostTimeout ≤ 60)
    (timers : ∀ p, (s.panels.port p).timer < 1000) (timer : s.link.timer < 1000) :
    takeGeometry g s = s.onStore fun st => { st with geometry := some g } := by
  have fresh : ∀ p, ((s.onStore fun st => { st with geometry := some g }).panels.port p).timer <
      (s.onStore fun st => { st with geometry := some g }).panelTimeoutMs := fun p => by
    have limit : (s.onStore fun st => { st with geometry := some g }).panelTimeoutMs = g.panelTimeout * 1000 := rfl
    have now : ((s.onStore fun st => { st with geometry := some g }).panels.port p).timer < 1000 := timers p
    omega
  rw [takeGeometry, weighPanelTimer_stays (fresh .p1), weighPanelTimer_stays (fresh .p2)]
  refine (weighHost_spec (s := s.onStore fun st => { st with geometry := some g }) rfl most).2.2.2 ?_
  have now : (s.onStore fun st => { st with geometry := some g }).link.timer < 1000 := timer
  omega

/-! ### The items (R178, 11.5) -/

theorem u32At_take (bs : List Byte) : u32At (bs.take 4) 0 = u32At bs 0 := by
  simp [u32At, u16At, byteAt]

theorem u32At_drop (bs : List Byte) (n i : Nat) : u32At (bs.drop n) i = u32At bs (n + i) := by
  simp [u32At, u16At, byteAt, List.getElem?_drop, Nat.add_assoc]

theorem chunks_words (k : Nat) (bs : List Byte) :
    (chunks 4 k bs).map (fun e => u32At e 0) = (List.range k).map fun i => u32At bs (4 * i) := by
  induction k generalizing bs with
  | zero => rfl
  | succ k ih =>
    rw [chunks, List.map_cons, ih, List.range_succ_eq_map, List.map_cons, u32At_take, List.map_map]
    refine congrArg (_ :: ·) (List.map_congr_left fun i _ => ?_)
    rw [u32At_drop, Function.comp_apply, Nat.mul_succ, Nat.add_comm]

theorem firstBad_some {g : Geometry} {i : Nat} (within : i < 70) (bad : g.itemOk i = false)
    (before : ∀ j, j < i → g.itemOk j = true) : g.firstBad = some i := by
  refine List.find?_eq_some_iff_getElem.mpr ⟨by simp [bad], i, by simpa using within, by simp, fun j below => ?_⟩
  simp [before j below]

theorem firstBad_none {g : Geometry} (sound : ∀ i, i < 70 → g.itemOk i = true) : g.firstBad = none := by
  simpa [Geometry.firstBad] using sound

/-- Settles O55. -/
theorem geometryIsWritten : Obligations.GeometryIsWritten := by
  intro s tag body g length waits read
  have items : Geometry.ofItems (geometryItems body) = g := by rw [geometryItems, chunks_words]; exact read.symm
  have fixed : Request.geometryWrite.lengthOk body = true := by simp [Request.lengthOk, length]
  refine ⟨fun moving => ?_, fun i idle within bad before => ?_, fun idle sound => ?_⟩
  · exact congrArg Host.Outcome.next
      (request_reads .geometryWrite tag body s waits fixed _ _ (if_pos (show s.serving.line.state ≠ .idle from moving)))
  · refine congrArg Host.Outcome.next (request_reads .geometryWrite tag body s waits fixed .range (put1 i) ?_)
    refine (if_neg (not_not.mpr idle)).trans ?_
    simp only [items, firstBad_some within bad before]
  · have served : serveGeometryWrite body s.serving = ⟨takeGeometry g s.serving, .ok, []⟩ := by
      refine (if_neg (not_not.mpr idle)).trans ?_
      simp only [items, firstBad_none sound]
    have most : g.hostTimeout ≤ 60 := by simpa [Geometry.itemOk] using sound 64 (by decide)
    have panel : 1 ≤ g.panelTimeout ∧ g.panelTimeout ≤ 30 := by simpa [Geometry.itemOk] using sound 63 (by decide)
    obtain ⟨weighed, ports, silent⟩ := takeGeometry_spec most s.serving
    have quick := takeGeometry_quick (s := s.serving) panel.1 most
    generalize takeGeometry g s.serving = t at served weighed ports silent quick
    have reply := request_replied .geometryWrite tag body s waits fixed _ _ _ served (by rw [weighed.taken]; rfl)
    refine ⟨_, congrArg Host.Outcome.next reply, ?_, ports, weighed.answers, silent, ?_, fun timers timer => ?_, ?_⟩
    · exact weighed.store
    · exact congrArg (· ++ _) weighed.replies
    · rw [quick timers timer]; rfl
    · rw [weighed.frame]; rfl

end Sys2Proof.Machine
end

section
/-! PROOF. TABLE_WRITE judged in order, and a frame taken (R179, R180). -/

namespace Sys2Proof.Machine

/-! ### The check of a frame (R180) -/

theorem referenced_iff {s : State} {x : BankId} : s.referenced x = true ↔
    (∃ p ∈ s.chain.pieces, p.bank = x) ∨ ∃ l ∈ s.logs.queue, l.bank = x := by
  rw [← not_iff_not, Bool.not_eq_true]
  constructor
  · intro free
    obtain ⟨pieces, logs⟩ := unreferenced free
    rintro (⟨p, hp, same⟩ | ⟨l, hl, same⟩)
    · exact pieces p hp same
    · exact logs l hl same
  · intro free
    simp only [not_or, not_exists, not_and] at free
    simpa [State.referenced, State.pieceRefs, State.logRefs, List.countP_eq_zero] using free

/-- What turns a FIRST frame away (R180). -/
theorem tableCheck_first_refused {x : BankId} {kind : TableKind} {offset count : Nat} {s : State} {status : Byte}
    (refused : s.store.sequence ≠ none ∧ status = 4 ∨ s.store.sequence = none ∧
      (((s.bank x).state = .active ∨ s.store.pendingBank = some x ∨
          (∃ p ∈ s.chain.pieces, p.bank = x) ∨ (∃ l ∈ s.logs.queue, l.bank = x)) ∧ status = 5 ∨
        (s.bank x).state ≠ .active ∧ s.store.pendingBank ≠ some x ∧ (∀ p ∈ s.chain.pieces, p.bank ≠ x) ∧
          (∀ l ∈ s.logs.queue, l.bank ≠ x) ∧ (offset ≠ 0 ∧ status = 4 ∨ offset = 0 ∧ kind.total < count ∧ status = 3))) :
    ∃ st, tableCheck x kind true offset count s = some st ∧ status = BitVec.ofNat 8 st.code := by
  have order : tableCheck x kind true offset count s =
      if s.store.sequence.isSome then some .sequence
      else if (s.bank x).state = .active ∨ s.store.pendingBank = some x ∨ s.referenced x then some .referenced
      else if offset ≠ 0 then some .sequence
      else if kind.total < offset + count then some .range
      else none := if_pos rfl
  rcases refused with ⟨opened, rfl⟩ | ⟨closed, ⟨held, rfl⟩ | ⟨inactive, unpended, pieces, logs, misplaced⟩⟩
  · exact ⟨.sequence, order.trans (if_pos (Option.isSome_iff_ne_none.mpr opened)), rfl⟩
  · refine ⟨.referenced, order.trans ((if_neg (by simp [closed])).trans (if_pos ?_)), rfl⟩
    rwa [referenced_iff]
  · have free : ¬((s.bank x).state = .active ∨ s.store.pendingBank = some x ∨ s.referenced x = true) := by
      rw [referenced_iff]
      rintro (active | pending | ⟨p, hp, same⟩ | ⟨l, hl, same⟩)
      · exact inactive active
      · exact unpended pending
      · exact pieces p hp same
      · exact logs l hl same
    have judged : tableCheck x kind true offset count s =
        if offset ≠ 0 then some .sequence else if kind.total < offset + count then some .range else none :=
      order.trans ((if_neg (by simp [closed])).trans (if_neg free))
    rcases misplaced with ⟨away, rfl⟩ | ⟨start, long, rfl⟩
    · exact ⟨.sequence, judged.trans (if_pos away), rfl⟩
    · exact ⟨.range, judged.trans ((if_neg (not_not.mpr start)).trans (if_pos (by omega))), rfl⟩

/-- What turns a later frame away (R180). -/
theorem tableCheck_next_refused {x : BankId} {kind : TableKind} {offset count : Nat} {s : State} {status : Byte}
    (refused : (∀ q, s.store.sequence = some q → ¬(q.bank = x ∧ q.kind = kind ∧ q.next = offset)) ∧ status = 4 ∨
      s.store.sequence = some ⟨x, kind, offset⟩ ∧ kind.total < offset + count ∧ status = 3) :
    ∃ st, tableCheck x kind false offset count s = some st ∧ status = BitVec.ofNat 8 st.code := by
  rcases refused with ⟨other, rfl⟩ | ⟨goesOn, long, rfl⟩
  · refine ⟨.sequence, ?_, rfl⟩
    cases sequence : s.store.sequence with
    | none => simp [tableCheck, sequence]
    | some q =>
      have differs := other q sequence
      simp only [tableCheck, sequence]
      grind
  · exact ⟨.range, by simp [tableCheck, goesOn, long], rfl⟩

/-! ### The reply (R180, logs 14 and 40) -/

theorem tableReply_named {x : BankId} {b : Byte} (named : bankOfCode b.toNat = some x) (st : Status) (s : State) :
    tableReply st b false s = ⟨s, st, [BitVec.ofNat 8 (s.bank x).state.code, if s.store.sequence.isSome then 1 else 0] ++
      put2 (s.store.sequence.elim 0 LoadSequence.next) ++ [0, 0, 0]⟩ := by
  unfold tableReply
  simp only [named, putFlag_eq]
  rfl

theorem tableReply_closed {x : BankId} {b : Byte} (named : bankOfCode b.toNat = some x) (st : Status) {s : State}
    (closed : s.store.sequence = none) :
    tableReply st b true s = ⟨s, st, [BitVec.ofNat 8 (s.bank x).state.code, 0, 0, 0, 1,
      if (s.bank x).coverageOk then 1 else 0, if (s.bank x).sortCheckOk then 1 else 0]⟩ := by
  unfold tableReply
  simp only [named, closed, putFlag_eq]
  rfl

/-! ### A frame taken (R180) -/

/-- The state after a taken frame's entries are stored, its sequence opened first where the frame is FIRST. -/
def loadEntries (x : BankId) (kind : TableKind) (first : Bool) (offset : Nat) (es : List (List Byte)) (s : State) : State :=
  storeEntries x kind offset es (if first then openSequence x kind s else s)

/-- The bank a taken frame leaves. -/
def Bank.loadedWith (b : Bank) (kind : TableKind) (first : Bool) (offset : Nat) (es : List (List Byte)) : Bank :=
  (if first then { b.clearKind kind with state := .loading } else b).store offset es kind

theorem loadEntries_spec (x : BankId) (kind : TableKind) (first : Bool) (offset : Nat) (es : List (List Byte)) (s : State) :
    (loadEntries x kind first offset es s).bank x = (s.bank x).loadedWith kind first offset es ∧
    (∀ y, y ≠ x → (loadEntries x kind first offset es s).bank y = s.bank y) ∧
    (loadEntries x kind first offset es s).store.sequence = some ⟨x, kind, offset + es.length⟩ ∧
    (loadEntries x kind first offset es s).store.geometry = s.store.geometry ∧
    (loadEntries x kind first offset es s).store.pendingBank = s.store.pendingBank ∧
    loadEntries x kind first offset es s = { s with store := (loadEntries x kind first offset es s).store } := by
  refine ⟨?_, fun y other => ?_, rfl, ?_, ?_, ?_⟩
  · cases first <;> cases x <;> rfl
  · cases first <;> cases x <;> cases y <;> first | rfl | exact absurd rfl other
  all_goals cases first <;> cases x <;> rfl

theorem closeSequence_spec (x : BankId) (kind : TableKind) {b : Byte} (named : bankOfCode b.toNat = some x) (s : State) :
    ∃ t, closeSequence x kind b s = ⟨t, if (s.bank x).kindOk kind then .ok else .range,
        [BitVec.ofNat 8 (t.bank x).state.code, 0, 0, 0, 1,
          if (t.bank x).coverageOk then 1 else 0, if (t.bank x).sortCheckOk then 1 else 0]⟩ ∧
      t.bank x = ((s.bank x).setLoaded ((s.bank x).kindOk kind) kind).close ∧ (∀ y, y ≠ x → t.bank y = s.bank y) ∧
      t.store.sequence = none ∧ t.store.geometry = s.store.geometry ∧ t.store.pendingBank = s.store.pendingBank ∧
      t = { s with store := t.store } := by
  refine ⟨(onBank x (fun b => (b.setLoaded ((s.bank x).kindOk kind) kind).close) s).onStore fun st =>
    { st with sequence := none }, tableReply_closed named _ rfl, ?_, fun y other => ?_, rfl, ?_, ?_, ?_⟩
  · cases x <;> rfl
  · cases x <;> cases y <;> first | rfl | exact absurd rfl other
  all_goals cases x <;> rfl

theorem close_eq (b : Bank) : b.close = { b with state := b.close.state } ∧ b.close.state = b.close.closedState := ⟨rfl, rfl⟩

/-! ### TABLE_WRITE judged (R180) -/

theorem kindOfCode_above {n : Nat} (above : 7 < n) : kindOfCode n = none := by
  match n, above with
  | _ + 8, _ => rfl

theorem serveTableWrite_unnamed {s : State} {bank kind flags hi lo count : Byte} {entries : List Byte}
    (unnamed : 1 < bank.toNat ∨ 7 < kind.toNat) :
    serveTableWrite ([bank, kind, flags, hi, lo, count] ++ entries) s = tableReply .range bank false s := by
  have codes : bankOfCode bank.toNat = none ∨ kindOfCode kind.toNat = none :=
    unnamed.imp bankOfCode_above kindOfCode_above
  change (match bankOfCode bank.toNat, kindOfCode kind.toNat with
    | some _, some _ => _
    | _, _ => tableReply .range bank false s) = _
  split
  · simp_all
  · rfl

theorem serveTableWrite_named {s : State} {bank kindCode flags hi lo count : Byte} {entries : List Byte} {x : BankId}
    {kind : TableKind} (bankNamed : bankOfCode bank.toNat = some x) (kindNamed : kindOfCode kindCode.toNat = some kind) :
    serveTableWrite ([bank, kindCode, flags, hi, lo, count] ++ entries) s =
      if count.toNat = 0 ∨ 128 < count.toNat then tableReply .range bank false s
      else
        (tableCheck x kind (flags.getLsbD 0) (hi.toNat * 256 + lo.toNat) count.toNat s).elim
          (let t := loadEntries x kind (flags.getLsbD 0) (hi.toNat * 256 + lo.toNat)
            (chunks kind.entrySize count.toNat entries) s
          if flags.getLsbD 1 then closeSequence x kind bank t else tableReply .ok bank false t)
          fun st => tableReply st bank false s := by
  unfold serveTableWrite
  have first : bankOfCode (byteAt ([bank, kindCode, flags, hi, lo, count] ++ entries) 0) = some x := bankNamed
  have second : kindOfCode (byteAt ([bank, kindCode, flags, hi, lo, count] ++ entries) 1) = some kind := kindNamed
  simp only [first, second]
  refine if_congr Iff.rfl rfl ?_
  change (match tableCheck x kind (flags.getLsbD 0) (hi.toNat * 256 + lo.toNat) count.toNat s with
    | some st => tableReply st bank false s
    | none => _) = _
  cases tableCheck x kind (flags.getLsbD 0) (hi.toNat * 256 + lo.toNat) count.toNat s <;> rfl

theorem tableWrite_lengthOk {bank kindCode flags hi lo count : Byte} {entries : List Byte} {kind : TableKind}
    (kindNamed : kindOfCode kindCode.toNat = some kind) (length : entries.length = count.toNat * kind.entrySize) :
    Request.tableWrite.lengthOk ([bank, kindCode, flags, hi, lo, count] ++ entries) = true := by
  have second : kindOfCode (byteAt ([bank, kindCode, flags, hi, lo, count] ++ entries) 1) = some kind := kindNamed
  have sixth : byteAt ([bank, kindCode, flags, hi, lo, count] ++ entries) 5 = count.toNat := rfl
  simp only [Request.lengthOk, second, sixth, List.length_append, length]
  simp [Nat.add_comm]

theorem tableWrite_lengthOk_unnamed {bank kindCode flags hi lo count : Byte} {entries : List Byte}
    (unnamed : 7 < kindCode.toNat) :
    Request.tableWrite.lengthOk ([bank, kindCode, flags, hi, lo, count] ++ entries) = true := by
  have second : kindOfCode (byteAt ([bank, kindCode, flags, hi, lo, count] ++ entries) 1) = none := kindOfCode_above unnamed
  simp only [Request.lengthOk, second]
  simp

theorem tableReply_state (st : Status) (b : Byte) (closed : Bool) (s : State) :
    tableReply st b closed s = ⟨s, st, (tableReply st b closed s).content⟩ := rfl

/-- Settles O56. -/
theorem tableWritesAreJudged : Obligations.TableWritesAreJudged := by
  rintro s tag bank kindCode flags hi lo count entries body rfl waits
  refine ⟨fun unnamed long => ?unnamed, fun x kind offset n bankNamed kindNamed counted at_ length => ?_⟩
  case unnamed =>
    have fixed : Request.tableWrite.lengthOk ([bank, kindCode, flags, hi, lo, count] ++ entries) = true :=
      long.elim tableWrite_lengthOk_unnamed id
    exact ⟨_, congrArg Host.Outcome.next (request_reads .tableWrite tag _ s waits fixed .range _
      ((serveTableWrite_unnamed (s := s.serving) unnamed).trans (tableReply_state _ _ _ _)))⟩
  subst counted at_
  have fixed := tableWrite_lengthOk (bank := bank) (flags := flags) (hi := hi) (lo := lo) kindNamed length
  have judged := serveTableWrite_named (s := s.serving) (flags := flags) (hi := hi) (lo := lo) (count := count)
    (entries := entries) bankNamed kindNamed
  refine ⟨fun status turnedAway => ?refused, fun least most fits opens => ?taken⟩
  case refused =>
    have refusal : ∃ st, serve .tableWrite ([bank, kindCode, flags, hi, lo, count] ++ entries) s.serving =
        tableReply st bank false s.serving ∧ status = BitVec.ofNat 8 st.code := by
      rcases turnedAway with ⟨outside, rfl⟩ | ⟨least, most, next⟩
      · exact ⟨.range, judged.trans (if_pos outside), rfl⟩
      · have weighed := judged.trans (if_neg (by omega))
        rcases next with ⟨first, refused⟩ | ⟨later, refused⟩
        · obtain ⟨st, check, code⟩ := tableCheck_first_refused (s := s.serving) refused
          exact ⟨st, weighed.trans (by rw [first, check]; rfl), code⟩
        · obtain ⟨st, check, code⟩ := tableCheck_next_refused (s := s.serving) refused
          exact ⟨st, weighed.trans (by rw [later, check]; rfl), code⟩
    obtain ⟨st, served, rfl⟩ := refusal
    exact congrArg Host.Outcome.next (request_reads .tableWrite tag _ s waits fixed st _
      (served.trans (tableReply_named bankNamed st s.serving)))
  case taken =>
    have check : tableCheck x kind (flags.getLsbD 0) (hi.toNat * 256 + lo.toNat) count.toNat s.serving = none := by
      rcases opens with ⟨first, start, closed, inactive, unpended, pieces, logs⟩ | ⟨later, goesOn⟩
      · rw [first]
        refine tableCheck_first.mpr ⟨closed, inactive, unpended, ?_, start, fits⟩
        rw [← Bool.not_eq_true, referenced_iff]
        rintro (⟨p, hp, same⟩ | ⟨l, hl, same⟩)
        · exact pieces p hp same
        · exact logs l hl same
      · rw [later]
        exact tableCheck_next.mpr ⟨goesOn, fits⟩
    have served := judged.trans (if_neg (by omega))
    rw [check] at served
    obtain ⟨self, others, sequence, geometry, pending, frame⟩ := loadEntries_spec x kind (flags.getLsbD 0)
      (hi.toNat * 256 + lo.toNat) (chunks kind.entrySize count.toNat entries) s.serving
    rw [chunks_length] at sequence
    generalize loadEntries x kind (flags.getLsbD 0) (hi.toNat * 256 + lo.toNat)
      (chunks kind.entrySize count.toNat entries) s.serving = u at *
    cases last : flags.getLsbD 1 with
    | false =>
      simp only [Option.elim, last, Bool.false_eq_true, if_false] at served
      rw [tableReply_named bankNamed, sequence, self] at served
      have reply := request_replied .tableWrite tag _ s waits fixed _ _ _ served (by rw [frame]; rfl)
      refine ⟨_, _, congrArg Host.Outcome.next reply, rfl, ?_, geometry, pending, others, fun _ => ⟨self, sequence, ?_⟩,
        fun h => (by cases h)⟩
      · rw [frame]; rfl
      · rw [frame]; rfl
    | true =>
      simp only [Option.elim, last, if_true] at served
      obtain ⟨t, closes, selfNow, othersNow, closed, geometryNow, pendingNow, frameNow⟩ := closeSequence_spec x kind bankNamed u
      rw [closes] at served
      have reply := request_replied .tableWrite tag _ s waits fixed _ _ _ served (by rw [frameNow, frame]; rfl)
      have state : (t.bank x).state = (t.bank x).closedState := by rw [selfNow]; rfl
      have whole : t.bank x = { (u.bank x).setLoaded ((u.bank x).kindOk kind) kind with state := (t.bank x).state } := by
        rw [selfNow]; rfl
      have status : put1 (if (u.bank x).kindOk kind then Status.ok else Status.range).code =
          [if (u.bank x).kindOk kind then 0 else 3] := by
        cases (u.bank x).kindOk kind <;> rfl
      rw [status, self] at reply
      rw [self] at whole
      refine ⟨_, _, congrArg Host.Outcome.next reply, rfl, ?_, geometryNow.trans geometry, pendingNow.trans pending,
        fun y other => (othersNow y other).trans (others y other), fun h => (by cases h), fun _ => ⟨?_, ?_, closed, ?_⟩⟩
      · rw [frameNow, frame]; rfl
      · exact whole
      · exact state
      · rw [frameNow, frame]; rfl

end Sys2Proof.Machine
end

section
/-! SUPPORT. The frames of a panel port (R74), the presence of a panel (R75), and what is told it. -/

namespace Sys2Proof.Machine

/-! ### A frame made for a port (R74) -/

theorem start_spec (q : PanelPort) : q.start.frames = q.frames ∧ q.start.sending = q.frames.head? ∧
    q.start.present = q.present ∧ q.start.timer = q.timer ∧ q.start.seq = q.seq ∧ q.start.dropped = q.dropped := by
  unfold PanelPort.start PanelPort.frames
  cases sending : q.sending <;> cases queue : q.queue <;> simp [sending, queue]

theorem push_gained (q : PanelPort) (f : Frame) : q.Gained (q.push f) 0 f := by
  by_cases room : q.queue.length < 160
  · have kept : q.push f = PanelPort.start { q with queue := q.queue ++ [f] } := if_pos room
    obtain ⟨frames, sending, present, timer, seq, dropped⟩ := start_spec { q with queue := q.queue ++ [f] }
    rw [kept]
    refine ⟨present, timer, seq.trans (by simp), fun _ => ⟨?_, sending.trans (by rw [frames]), dropped⟩,
      fun full => absurd room (Nat.not_lt.mpr full)⟩
    rw [frames]
    simp [PanelPort.frames]
  · have dropped : q.push f = { q with dropped := q.dropped.bump } := if_neg room
    rw [dropped]
    exact ⟨rfl, rfl, by simp, fun h => absurd h room, fun _ => ⟨rfl, rfl, rfl⟩⟩

theorem PanelPort.Gained.spend {q r : PanelPort} {f : Frame} (h : q.Gained r 0 f) :
    q.Gained { r with seq := r.seq + 1 } 1 f := by
  obtain ⟨present, timer, seq, kept, dropped⟩ := h
  exact ⟨present, timer, by rw [seq]; simp, kept, dropped⟩

/-- What is answered on a panel's port (R74, R174). -/
theorem answerPanel_spec (p : PanelId) (kind tag : Byte) (body : List Byte) (s : State) :
    (s.panels.port p).Gained ((answerPanel p kind tag body s).panels.port p) 0 ⟨kind, tag, body⟩ ∧
    (answerPanel p kind tag body s).panels.port (otherPanel p) = s.panels.port (otherPanel p) ∧
    (answerPanel p kind tag body s).panels.answers = s.panels.answers ∧
    answerPanel p kind tag body s = { s with panels := (answerPanel p kind tag body s).panels } := by
  obtain ⟨this, other, answers, frame⟩ := port_onPort p (fun q => q.push ⟨kind, tag, body⟩) s
  exact ⟨this ▸ push_gained _ _, other, answers, frame⟩

/-- What is told a panel: a frame with the port's sequence number when it is PRESENT, and nothing otherwise (R74). -/
theorem tellPanel_spec (p : PanelId) (kind : Byte) (body : List Byte) (s : State) :
    (if (s.panels.port p).present then
      (s.panels.port p).Gained ((tellPanel p kind body s).panels.port p) 1 ⟨kind, (s.panels.port p).seq, body⟩
      else (tellPanel p kind body s).panels.port p = s.panels.port p) ∧
    (tellPanel p kind body s).panels.port (otherPanel p) = s.panels.port (otherPanel p) ∧
    (tellPanel p kind body s).panels.answers = s.panels.answers ∧
    tellPanel p kind body s = { s with panels := (tellPanel p kind body s).panels } := by
  obtain ⟨this, other, answers, frame⟩ := port_onPort p
    (fun q => if q.present then { q.push ⟨kind, q.seq, body⟩ with seq := q.seq + 1 } else q) s
  refine ⟨?_, other, answers, frame⟩
  have this : (tellPanel p kind body s).panels.port p = _ := this
  rw [this]
  split
  · have gained := (push_gained (s.panels.port p) ⟨kind, (s.panels.port p).seq, body⟩).spend
    have seq : ((s.panels.port p).push ⟨kind, (s.panels.port p).seq, body⟩).seq = (s.panels.port p).seq := by
      rw [(push_gained _ _).2.2.1]; simp
    rwa [seq] at gained
  · rfl

/-! ### A valid frame heard on a panel's port (R75) -/

theorem panelHeard_spec (p : PanelId) (s : State) : (panelHeard p s).panels.port p = (s.panels.port p).heard ∧
    (panelHeard p s).panels.port (otherPanel p) = s.panels.port (otherPanel p) ∧
    (panelHeard p s).panels.answers = s.panels.answers ∧ (panelHeard p s).link = s.heardLink p ∧
    OnlyPressure s (panelHeard p s) ∧
    panelHeard p s = { s with
      panels := (panelHeard p s).panels, link := (panelHeard p s).link, governor := (panelHeard p s).governor } := by
  obtain ⟨this, other, answers, frame⟩ := port_onPort p (fun q => { q with timer := 0 }) s
  cases present : (s.panels.port p).present with
  | true =>
    have heard : panelHeard p s = onPort p (fun q => { q with timer := 0 }) s := if_pos (by rw [this]; exact present)
    rw [heard]
    refine ⟨?_, other, answers, ?_, .of_eq (by rw [frame]), by rw [frame]⟩
    · rw [this, PanelPort.heard, ← present]
    · rw [frame, State.heardLink, if_pos present]
  | false =>
    have heard : panelHeard p s = setPresence p true (onPort p (fun q => { q with timer := 0 }) s) :=
      if_neg (by rw [this]; simp [present])
    rw [heard]
    generalize onPort p (fun q => { q with timer := 0 }) s = u at this other answers frame
    obtain ⟨thisNow, otherNow, answersNow, link, pressure, frameNow⟩ := setPresence_spec p true u
    refine ⟨?_, otherNow.trans other, answersNow.trans answers, ?_,
      OnlyPressure.trans (t := u) (.of_eq (by rw [frame])) pressure, ?_⟩
    · rw [thisNow, this]; rfl
    · rw [link, State.heardLink, if_neg (by simp [present]), frame]
    · rw [frameNow, frame]

/-- A frame heard from a panel and answered, and nothing else done. -/
theorem answerPanel_heard (p : PanelId) (kind tag : Byte) (body : List Byte) (s : State) :
    let t := answerPanel p kind tag body (panelHeard p s)
    (s.panels.port p).heard.Gained (t.panels.port p) 0 ⟨kind, tag, body⟩ ∧
    t.panels.port (otherPanel p) = s.panels.port (otherPanel p) ∧ t.panels.answers = s.panels.answers ∧
    t.link = s.heardLink p ∧ OnlyPressure s t ∧
    t = { s with panels := t.panels, link := t.link, governor := t.governor } := by
  obtain ⟨this, other, answers, link, pressure, frame⟩ := panelHeard_spec p s
  generalize panelHeard p s = u at this other answers link pressure frame
  obtain ⟨gained, others, answersNow, frameNow⟩ := answerPanel_spec p kind tag body u
  rw [this] at gained
  refine ⟨gained, others.trans other, answersNow.trans answers, ?_, ?_, ?_⟩
  · rw [frameNow]; exact link
  · exact pressure.trans (.of_eq (by rw [frameNow]))
  · rw [frameNow, frame]

/-! ### HELLO (R77) -/

/-- Settles O31. -/
theorem helloIsAnswered : Obligations.HelloIsAnswered := by
  intro s p tag
  refine ⟨_, rfl, ?_⟩
  obtain ⟨_, _, _, _, _, frame⟩ := panelHeard_spec p s
  have answered := answerPanel_heard p kindHello tag
    (put1 s.line.state.code ++ put2 s.chain.lug.toNat ++ put1 (s.markOffset p)) s
  have hello : panelHello p tag s = answerPanel p kindHello tag
      (put1 s.line.state.code ++ put2 s.chain.lug.toNat ++ put1 (s.markOffset p)) (panelHeard p s) := by
    rw [panelHello, frame]; cases p <;> rfl
  rw [put2_word] at answered hello
  rw [hello]
  refine ⟨?_, answered.2⟩
  have gained := answered.1
  revert gained
  generalize answerPanel p kindHello tag _ (panelHeard p s) = t
  unfold State.markOffset
  cases s.line.state <;> cases s.store.geometry <;> cases p <;> exact id

/-! ### OVERRIDEs turned away (R80, R81) -/

theorem OverrideKind.valueOk_iff (kind : OverrideKind) (value : Byte) :
    kind.valueOk value.toNat = true ↔ kind.Accepts value := by
  cases kind <;> simp [OverrideKind.valueOk, OverrideKind.Accepts]

theorem replyBody_eq (lug : LugNo) (st : OverrideStatus) (revision : Byte) :
    put2 lug.toNat ++ put1 st.code ++ put1 revision.toNat = replyBody lug (BitVec.ofNat 8 st.code) revision := by
  rw [put2_word, put1_toNat]; rfl

theorem exec_overrideCommand (kind : OverrideKind) (p : PanelId) (tag : Byte) (lug : LugNo) (value : Byte) (s : State) :
    exec (overrideCommand kind p tag lug value) s = .next (overrideFrame p tag lug kind value s) := by
  cases kind <;> rfl

theorem overrideReply_eq (p : PanelId) (tag : Byte) (lug : LugNo) (st : OverrideStatus) (revision : Byte) (s : State) :
    overrideReply p tag lug st revision s =
      answerPanel p 0x22 tag (replyBody lug (BitVec.ofNat 8 st.code) revision) s := by
  rw [overrideReply, replyBody_eq]; rfl

/-- An OVERRIDE judged by its value, its record and the solver queue, in that order (R81). -/
theorem judgeOverride_invalid {p : PanelId} {tag : Byte} {lug : LugNo} {kind : OverrideKind} {value : Byte} {s : State}
    (refused : ¬kind.Accepts value) :
    judgeOverride p tag lug kind value.toNat s = overrideReply p tag lug .invalid 0 s := by
  rw [← OverrideKind.valueOk_iff] at refused
  exact if_pos (by simpa using refused)

theorem judgeOverride_accepts {p : PanelId} {tag : Byte} {lug : LugNo} {kind : OverrideKind} {value : Byte} {s : State}
    (accepts : kind.Accepts value) : judgeOverride p tag lug kind value.toNat s =
      (s.piece? lug).elim (overrideReply p tag lug .noPiece 0 s) fun x =>
        if x.isCommitted then overrideReply p tag lug .tooLate x.revision s
        else if needsResolve kind x && !canTakeRequest lug s then overrideReply p tag lug .busy x.revision s
        else acceptOverride p tag lug kind value.toNat x s := by
  rw [← OverrideKind.valueOk_iff] at accepts
  unfold judgeOverride
  rw [if_neg (by simp [accepts])]
  cases s.piece? lug <;> rfl

theorem overrideKindOfCode_above {n : Nat} (above : 5 < n) : overrideKindOfCode n = none := by
  match n, above with
  | _ + 6, _ => rfl

theorem overrideBody_malformed {p : PanelId} {tag : Byte} {body : List Byte} {s : State}
    (malformed : body.length ≠ 4 ∨ 5 < (body.getD 2 0).toNat) :
    overrideBody p tag body s = overrideReply p tag (lugOfOverride body) .invalid 0 (panelHeard p s) := by
  have unread : overrideKindOfCode (byteAt body 2) = none ∨ decide (body.length = 4) = false :=
    (malformed.symm.imp overrideKindOfCode_above) (by simp)
  unfold overrideBody
  split
  · simp_all
  · rfl

theorem lugOfOverride_eq (body : List Byte) :
    lugOfOverride body = if 2 ≤ body.length then body.getD 0 0 ++ body.getD 1 0 else Config.missingLug body :=
  if_congr Iff.rfl (word_of_bytes _ _) rfl

/-- An OVERRIDE turned away is answered with a status and a revision, and nothing else is done. -/
def TurnedAway (p : PanelId) (tag : Byte) (lug : LugNo) (status revision : Byte) (s t : State) : Prop :=
  t = answerPanel p 0x22 tag (replyBody lug status revision) (panelHeard p s)

theorem override_turnedAway {s : State} {kind : OverrideKind} {p : PanelId} {tag value : Byte} {lug : LugNo}
    {status revision : Byte}
    (why : ¬kind.Accepts value ∧ status = 0 ∧ revision = 0 ∨
      kind.Accepts value ∧ s.piece? lug = none ∧ status = 1 ∧ revision = 0 ∨
      kind.Accepts value ∧ (∃ x, s.piece? lug = some x ∧ (x.stage = .committed ∨ x.stage = .pastSaw) ∧ status = 2 ∧
        revision = x.revision) ∨
      kind.Accepts value ∧ kind ≠ .slash ∧ kind ≠ .regrade ∧ (∃ x, s.piece? lug = some x ∧ x.stage = .closed ∧
        x.profile.status ≠ some .empty ∧ lug ∉ s.solver.queue ∧ 8 ≤ s.solver.queue.length ∧ status = 3 ∧
        revision = x.revision)) :
    TurnedAway p tag lug status revision s (overrideFrame p tag lug kind value s) := by
  obtain ⟨_, _, _, _, _, frame⟩ := panelHeard_spec p s
  have pieces : (panelHeard p s).piece? lug = s.piece? lug := by rw [frame]; rfl
  have solver : (panelHeard p s).solver = s.solver := by rw [frame]
  unfold TurnedAway overrideFrame
  generalize panelHeard p s = u at pieces solver
  rcases why with ⟨refused, rfl, rfl⟩ | ⟨accepts, absent, rfl, rfl⟩ | ⟨accepts, x, found, late, rfl, rfl⟩ |
    ⟨accepts, notSlash, notRegrade, x, found, closed, filled, unqueued, full, rfl, rfl⟩
  · rw [judgeOverride_invalid refused, overrideReply_eq]; rfl
  · rw [judgeOverride_accepts accepts, pieces, absent]
    exact overrideReply_eq _ _ _ .noPiece _ _
  · have committed : x.isCommitted = true := by rcases late with h | h <;> exact decide_eq_true (by simp [h])
    rw [judgeOverride_accepts accepts, pieces, found]
    exact (if_pos committed).trans (overrideReply_eq _ _ _ .tooLate _ _)
  · have uncommitted : ¬x.isCommitted = true := by
      unfold Piece.isCommitted; rw [closed]; decide
    have resolve : needsResolve kind x = true := by
      have nonempty : x.emptyProfile = false := decide_eq_false filled
      unfold needsResolve
      rw [nonempty, decide_eq_true closed]
      cases kind <;> first | rfl | exact absurd rfl notSlash | exact absurd rfl notRegrade
    have noRoom : canTakeRequest lug u = false :=
      Bool.or_eq_false_iff.mpr ⟨decide_eq_false (by rw [solver]; exact unqueued),
        decide_eq_false (by rw [solver]; exact Nat.not_lt.mpr full)⟩
    rw [judgeOverride_accepts accepts, pieces, found]
    exact (if_neg uncommitted).trans ((if_pos (by rw [resolve, noRoom]; rfl)).trans (overrideReply_eq _ _ _ .busy _ _))

/-- Settles O33. -/
theorem overridesTurnedAway : Obligations.OverridesTurnedAway := by
  intro s c p tag lug status revision turned
  have answered : ∃ t, exec c s = .next t ∧ TurnedAway p tag lug status revision s t := by
    rcases turned with ⟨kind, value, rfl, why⟩ | ⟨body, rfl, malformed, rfl, rfl, rfl⟩
    · exact ⟨_, exec_overrideCommand kind p tag lug value s, override_turnedAway why⟩
    · refine ⟨_, rfl, ?_⟩
      rw [TurnedAway, overrideBody_malformed malformed, overrideReply_eq, lugOfOverride_eq]
      rfl
  obtain ⟨t, run, rfl⟩ := answered
  exact ⟨_, run, answerPanel_heard p 0x22 tag (replyBody lug status revision) s⟩

end Sys2Proof.Machine
end

section
/-! SUPPORT. One record of the piece queue changed, a solve begun, and the answers that a piece is owed (R65, R88 to R92). -/

namespace Sys2Proof.Machine

/-! ### One record changed -/

theorem changeFirst_find_other {α : Type} {p q : α → Bool} {f : α → α} {l : List α}
    (apart : ∀ a, l.find? p = some a → q a = false ∧ q (f a) = false) : (changeFirst p f l).find? q = l.find? q := by
  induction l with
  | nil => rfl
  | cons a l ih =>
    by_cases here : p a = true
    · obtain ⟨before, after⟩ := apart a (by simp [here])
      simp [changeFirst, here, before, after]
    · have rest := ih fun b hb => apart b (by simp [here, hb])
      simp only [changeFirst, here, Bool.false_eq_true, if_false, List.find?_cons, rest]

theorem piece?_changePiece_of_ne {s : State} {lug other : LugNo} {f : Piece → Piece} (ne : other ≠ lug)
    (keeps : ∀ p, s.piece? lug = some p → (f p).lug = lug) :
    (changePiece lug f s).piece? other = s.piece? other := by
  refine changeFirst_find_other fun p found => ⟨?_, ?_⟩
  · rw [piece?_lug found]; exact beq_false_of_ne (Ne.symm ne)
  · rw [keeps p found]; exact beq_false_of_ne (Ne.symm ne)

/-- The record of a lug stands as `q` afterwards, and no other record and nothing but the records, and what is not
compared here, has changed. -/
structure Recorded (lug : LugNo) (q : Piece) (s t : State) : Prop where
  record : t.piece? lug = some q
  others : ∀ other, other ≠ lug → t.piece? other = s.piece? other
  chain : t.chain = { s.chain with pieces := t.chain.pieces }

theorem Recorded.refl {s : State} {lug : LugNo} {q : Piece} (found : s.piece? lug = some q) : Recorded lug q s s :=
  ⟨found, fun _ _ => rfl, rfl⟩

theorem Recorded.trans {s t u : State} {lug : LugNo} {p q : Piece} (h : Recorded lug p s t) (k : Recorded lug q t u) :
    Recorded lug q s u :=
  ⟨k.record, fun other ne => (k.others other ne).trans (h.others other ne), by rw [k.chain, h.chain]⟩

theorem Recorded.of_chain {s t u : State} {lug : LugNo} {q : Piece} (h : Recorded lug q s t) (chain : u.chain = t.chain) :
    Recorded lug q s u :=
  ⟨(piece?_of_chain chain lug).trans h.record, fun other ne => (piece?_of_chain chain other).trans (h.others other ne),
    by rw [chain, ← h.chain]⟩

theorem Recorded.start {s s' t : State} {lug : LugNo} {q : Piece} (h : Recorded lug q s t) (chain : s'.chain = s.chain) :
    Recorded lug q s' t :=
  ⟨h.record, fun other ne => (h.others other ne).trans (piece?_of_chain chain other).symm, by rw [chain]; exact h.chain⟩

theorem changePiece_recorded {s : State} {lug : LugNo} {f : Piece → Piece} {p : Piece} (found : s.piece? lug = some p)
    (keeps : (f p).lug = p.lug) : Recorded lug (f p) s (changePiece lug f s) := by
  have same : ∀ x, s.piece? lug = some x → (f x).lug = lug := fun x hx => by
    rw [found] at hx; cases hx; exact keeps.trans (piece?_lug found)
  exact ⟨(piece?_changePiece same).trans (by rw [found]; rfl), fun other ne => piece?_changePiece_of_ne ne same, rfl⟩

/-! ### A solve begun (R65) -/

/-- The record of a piece whose solve starts (R44, R65). -/
def Piece.solving (p : Piece) (b : Bank) (m : Moisture) : Piece := { p.fillMoisture b m with solveState := .running }

/-- The solve of a piece that becomes `q` as it starts (R50, R65). -/
def Piece.solve (p q : Piece) (lug : LugNo) (bins : List Bin) : Solve :=
  { lug := lug, revision := p.revision, cells := p.profile.cells, moisture := q.moisture, override := p.override,
    bank := p.bank, bins := bins }

theorem startSolve_idle {s : State} (idle : s.solver.running ≠ none ∨ s.solver.queue = []) : startSolve s = s := by
  unfold startSolve
  split
  · rename_i free queue
    rcases idle with busy | empty
    · exact absurd free busy
    · rw [empty] at queue; cases queue
  · rfl

/-- The oldest entry that waits starts where no solve is in progress (R65). -/
theorem startSolve_spec {s : State} {lug : LugNo} {rest : List LugNo} {p : Piece} (free : s.solver.running = none)
    (queue : s.solver.queue = lug :: rest) (found : s.piece? lug = some p) :
    let q := p.solving (s.bank p.bank) s.moisture
    Recorded lug q s (startSolve s) ∧
    (startSolve s).solver = { queue := rest, running := some (p.solve q lug s.bins) } ∧
    startSolve s = { s with chain := (startSolve s).chain, solver := (startSolve s).solver } := by
  have started : startSolve s =
      (changePiece lug (fun _ => p.solving (s.bank p.bank) s.moisture) (s.onSolver fun v => { v with queue := rest })).onSolver
        fun v => { v with running := some (p.solve (p.solving (s.bank p.bank) s.moisture) lug s.bins) } := by
    unfold startSolve
    rw [free, queue]
    simp only [show (s.onSolver fun v => { v with queue := rest }).piece? lug = some p from found]
    cases p.bank <;> rfl
  have recorded := changePiece_recorded (s := s.onSolver fun v => { v with queue := rest })
    (f := fun _ => p.solving (s.bank p.bank) s.moisture) (p := p) found rfl
  rw [started]
  exact ⟨⟨recorded.record, recorded.others, rfl⟩, rfl, rfl⟩

theorem solveBegun_solving (p : Piece) (s : State) : SolveBegun p (p.solving (s.bank p.bank) s.moisture) s.bins
    (some (p.solve (p.solving (s.bank p.bank) s.moisture) p.lug s.bins)) := ⟨rfl, rfl⟩

/-! ### Answers paid (R88 to R92) -/

theorem AnswerPaid.congr {due : Answer → Prop} {kind : Byte} {body : Answer → List Byte} {lug : LugNo} {s s' t t' : State}
    (h : AnswerPaid due kind body lug s t) (before : s'.panels = s.panels) (after : t'.panels = t.panels) :
    AnswerPaid due kind body lug s' t' := by
  have same : s'.answer? lug = s.answer? lug := by rw [State.answer?, before]; rfl
  constructor
  · rw [same, before, after]; exact h.quiet
  · rw [same, before, after]; exact h.paid

theorem dropAnswer_port (lug : LugNo) (s : State) (p : PanelId) : (dropAnswer lug s).panels.port p = s.panels.port p := by
  cases p <;> rfl

/-- An answer that is due leaves the list, and its panel is told (R89, R90). -/
theorem tellPanel_paid {due : Answer → Prop} {kind : Byte} {body : Answer → List Byte} {lug : LugNo} {s : State} {a : Answer}
    (owed : s.answer? lug = some a) (isDue : due a) :
    AnswerPaid due kind body lug s (tellPanel a.panel kind (body a) (dropAnswer lug s)) := by
  obtain ⟨told, other, answers, _⟩ := tellPanel_spec a.panel kind (body a) (dropAnswer lug s)
  simp only [dropAnswer_port] at told other
  refine ⟨fun none_due => absurd isDue (none_due a owed), fun b found _ => ?_⟩
  rw [owed] at found
  cases found
  exact ⟨answers, other, told⟩

theorem AnswerPaid.none_due {due : Answer → Prop} {kind : Byte} {body : Answer → List Byte} {lug : LugNo} {s : State}
    (quiet : ∀ a, s.answer? lug = some a → ¬due a) : AnswerPaid due kind body lug s s :=
  ⟨fun _ => rfl, fun a found isDue => absurd isDue (quiet a found)⟩

theorem payLapsed_paid (lug : LugNo) (why : LapseReason) (s : State) :
    LapsedPaid why ((s.piece? lug).bind Piece.decision) lug s (payLapsed lug why s) ∧
    payLapsed lug why s = { s with panels := (payLapsed lug why s).panels } := by
  unfold payLapsed
  cases owed : s.answer? lug with
  | none => exact ⟨.none_due fun a found => (by rw [owed] at found; cases found), rfl⟩
  | some a =>
    have frame := (tellPanel_spec a.panel kindLapsed (a.putLapsed why ((s.piece? lug).bind Piece.decision)) (dropAnswer lug s)).2.2.2
    exact ⟨tellPanel_paid (due := fun _ => True) (body := fun a => a.putLapsed why _) owed trivial, frame⟩

theorem reportResult_paid {lug : LugNo} {s : State} {q : Piece} (found : s.piece? lug = some q) (revision : Byte) :
    ResultPaid q revision lug s (reportResult lug revision s) ∧
    reportResult lug revision s = { s with panels := (reportResult lug revision s).panels } := by
  unfold reportResult
  cases owed : s.answer? lug with
  | none => exact ⟨.none_due fun a found => (by rw [owed] at found; cases found), rfl⟩
  | some a =>
    by_cases same : a.revision = revision
    · simp only [if_pos same]
      have told : sendResult a.panel a.tag lug (dropAnswer lug s) =
          tellPanel a.panel 0x24 (q.putResult a.tag) (dropAnswer lug s) := by
        rw [sendResult, show (dropAnswer lug s).piece? lug = some q from found]; rfl
      rw [told]
      have frame := (tellPanel_spec a.panel 0x24 (q.putResult a.tag) (dropAnswer lug s)).2.2.2
      exact ⟨tellPanel_paid (due := fun b => b.revision = revision) (body := fun b => q.putResult b.tag) owed same,
        frame⟩
    · simp only [if_neg same]
      refine ⟨.none_due fun b found => ?_, trivial⟩
      rw [owed] at found
      cases found
      exact same

end Sys2Proof.Machine
end

section
/-! PROOF. A solve starts with the moisture filled (R44, R50, R65), and the requests made of the solver (R62 to R64). -/

namespace Sys2Proof.Machine

/-! ### The moisture filled (R44) -/

theorem fillChannel_value (enabled : Bool) (own : Option Reading) (held : Option Nat) (fresh : Bool) :
    (fillChannel enabled own held fresh).1 = if !enabled then none else match own with
      | some ⟨v, false⟩ => some ⟨v, false⟩
      | _ => if fresh then held.map fun v => ⟨v, true⟩ else none := by
  unfold fillChannel
  cases enabled
  · rfl
  · cases own with
    | none => cases held <;> cases fresh <;> rfl
    | some r => obtain ⟨v, _ | _⟩ := r <;> cases held <;> cases fresh <;> rfl

theorem fillChannel_held (enabled : Bool) (own : Option Reading) (held : Option Nat) (fresh : Bool) :
    (fillChannel enabled own held fresh).2.1 = true ↔ ∃ v, (fillChannel enabled own held fresh).1 = some ⟨v, true⟩ := by
  unfold fillChannel
  cases enabled
  · simp
  · cases own with
    | none => cases held <;> cases fresh <;> simp
    | some r => obtain ⟨v, _ | _⟩ := r <;> cases held <;> cases fresh <;> simp

theorem fillChannel_stale (enabled : Bool) (own : Option Reading) (held : Option Nat) (fresh : Bool) :
    (fillChannel enabled own held fresh).2.2 = true ↔
      (fillChannel enabled own held fresh).1 = none ∧ enabled = true ∧ held.isSome = true := by
  unfold fillChannel
  cases enabled
  · simp
  · cases own with
    | none => cases held <;> cases fresh <;> simp
    | some r => obtain ⟨v, _ | _⟩ := r <;> cases held <;> cases fresh <;> simp

/-- The filling of channel `c` of a piece at a solve start. -/
def Piece.filling (p : Piece) (b : Bank) (m : Moisture) (c : Nat) : Option Reading × Bool × Bool :=
  fillChannel (b.channel c).isSome (p.moisture[c]?).join (m.held[c]?).join (decide (m.ages.getD c 0 ≤ b.moistureCommon.2))

theorem solving_moisture (p : Piece) (b : Bank) (m : Moisture) {c : Nat} (within : c < 4) :
    (p.solving b m).moisture[c]? = some (p.filling b m c).1 := by
  simp [Piece.solving, Piece.fillMoisture, within, Piece.filling]

theorem solving_held (p : Piece) (b : Bank) (m : Moisture) : (p.solving b m).flags.heldMoisture = true ↔
    p.flags.heldMoisture = true ∨ ∃ c, c < 4 ∧ (p.filling b m c).2.1 = true := by
  simp [Piece.solving, Piece.fillMoisture, Piece.filling]

theorem solving_stale (p : Piece) (b : Bank) (m : Moisture) : (p.solving b m).flags.staleMoisture = true ↔
    p.flags.staleMoisture = true ∨ ∃ c, c < 4 ∧ (p.filling b m c).2.2 = true := by
  simp [Piece.solving, Piece.fillMoisture, Piece.filling]

/-- Settles O27. -/
theorem solveStarts : Obligations.SolveStarts := by
  refine ⟨fun s lug rest p free queue found => ?_, fun s idle => congrArg Host.Outcome.next (startSolve_idle idle)⟩
  obtain ⟨⟨record, others, chain⟩, solver, frame⟩ := startSolve_spec free queue found
  refine ⟨_, _, rfl, record, rfl, fun c within => ?_, ?_, ?_, solver, others, ?_⟩
  · rw [solving_moisture _ _ _ within, Piece.filling, fillChannel_value]
    cases (s.bank p.bank).channel c
    · rfl
    · obtain _ | ⟨v, _ | _⟩ := (p.moisture[c]?).join <;> simp
  · rw [solving_held]
    refine or_congr_right (exists_congr fun c => ?_)
    rw [Piece.filling, fillChannel_held]
    constructor
    · rintro ⟨within, v, filled⟩
      exact ⟨v, within, by rw [solving_moisture _ _ _ within]; exact congrArg some filled⟩
    · rintro ⟨v, within, filled⟩
      rw [solving_moisture _ _ _ within] at filled
      exact ⟨within, v, Option.some.inj filled⟩
  · rw [solving_stale]
    refine or_congr_right (exists_congr fun c => and_congr_right fun within => ?_)
    rw [solving_moisture _ _ _ within, Option.some.injEq]
    exact fillChannel_stale _ _ _ _
  · rw [← chain]; exact frame

/-! ### The requests made of the solver (R62 to R64) -/

theorem setSolveState_recorded {s : State} {lug : LugNo} {p : Piece} (st : SolveState) (found : s.piece? lug = some p) :
    Recorded lug { p with solveState := st } s (setSolveState lug st s) :=
  changePiece_recorded (f := fun p => { p with solveState := st }) found rfl

/-- A request that joins while a solve is in progress waits (R62). -/
theorem joinSolver_waits {s : State} {lug : LugNo} {p : Piece} (found : s.piece? lug = some p)
    (busy : s.solver.running ≠ none) : Recorded lug { p with solveState := .queued } s (joinSolver lug s) ∧
      (joinSolver lug s).solver = { s.solver with queue := s.solver.queue ++ [lug] } ∧
      joinSolver lug s = { s with chain := (joinSolver lug s).chain, solver := (joinSolver lug s).solver } := by
  have waits : joinSolver lug s = setSolveState lug .queued (s.onSolver fun v => { v with queue := v.queue ++ [lug] }) :=
    startSolve_idle (.inl busy)
  obtain ⟨record, others, chain⟩ :=
    setSolveState_recorded (s := s.onSolver fun v => { v with queue := v.queue ++ [lug] }) (p := p) .queued found
  rw [waits]
  exact ⟨⟨record, others, chain⟩, rfl, rfl⟩

/-- A request that joins an idle solver with nothing queued starts at once (R62, R65). -/
theorem joinSolver_begins {s : State} {lug : LugNo} {p : Piece} (found : s.piece? lug = some p)
    (free : s.solver.running = none) (empty : s.solver.queue = []) :
    let q := p.solving (s.bank p.bank) s.moisture
    Recorded lug q s (joinSolver lug s) ∧ (joinSolver lug s).solver = { queue := [], running := some (p.solve q lug s.bins) } ∧
    joinSolver lug s = { s with chain := (joinSolver lug s).chain, solver := (joinSolver lug s).solver } := by
  obtain ⟨record, others, chain⟩ :=
    setSolveState_recorded (s := s.onSolver fun v => { v with queue := v.queue ++ [lug] }) (p := p) .queued found
  generalize joined : setSolveState lug .queued (s.onSolver fun v => { v with queue := v.queue ++ [lug] }) = u
    at record others chain
  have solver : u.solver = { queue := [lug], running := none } := by
    rw [← joined, ← free]
    show ({ s.solver with queue := s.solver.queue ++ [lug] } : Solver) = _
    rw [empty]; rfl
  have frame : u = { s with chain := u.chain, solver := u.solver } := by rw [← joined]; rfl
  obtain ⟨begun, running, frameNow⟩ := startSolve_spec (s := u) (lug := lug) (rest := []) (by rw [solver]) (by rw [solver]) record
  have start : joinSolver lug s = startSolve u := by rw [← joined]; rfl
  have settings : u.moisture = s.moisture ∧ u.bins = s.bins ∧ u.bank p.bank = s.bank p.bank := by
    rw [frame]; exact ⟨rfl, rfl, rfl⟩
  obtain ⟨moisture, bins, bank⟩ := settings
  have same : Piece.solving { p with solveState := .queued } (u.bank p.bank) u.moisture =
      p.solving (s.bank p.bank) s.moisture := by rw [bank, moisture]; rfl
  dsimp only at begun running
  rw [same] at begun running
  rw [start]
  refine ⟨⟨begun.record, fun other ne => (begun.others other ne).trans (others other ne), ?_⟩, ?_, ?_⟩
  · rw [begun.chain, chain]; rfl
  · rw [running, bins]; rfl
  · rw [frameNow, frame]

/-- The record of a piece whose EMPTY profile is decided at once (R63). -/
def Piece.completedEmpty (p : Piece) : Piece :=
  { p with sizeClass := none, solveState := .done, decision := if isSlash p.override then some .slash else none }

theorem completeEmpty_spec {s : State} {lug : LugNo} {p : Piece} (found : s.piece? lug = some p) :
    Recorded lug p.completedEmpty s (completeEmpty lug s) ∧
    ResultPaid p.completedEmpty p.revision lug s (completeEmpty lug s) ∧
    completeEmpty lug s = { s with chain := (completeEmpty lug s).chain, panels := (completeEmpty lug s).panels } := by
  have completed : completeEmpty lug s = reportResult lug p.revision (changePiece lug Piece.completedEmpty s) := by
    rw [completeEmpty, found]; rfl
  obtain ⟨record, others, chain⟩ := changePiece_recorded (f := Piece.completedEmpty) found rfl
  obtain ⟨paid, frame⟩ := reportResult_paid record p.revision
  rw [completed]
  refine ⟨⟨?_, fun other ne => ?_, ?_⟩, paid.congr rfl rfl, ?_⟩
  · rw [frame]; exact record
  · rw [frame]; exact others other ne
  · rw [frame]; exact chain
  · rw [frame]; rfl

end Sys2Proof.Machine
end

section
/-! PROOF. An override accepted for a piece (R83 to R88). -/

namespace Sys2Proof.Machine

/-! ### The frames of a port with room -/

theorem start_queue_length (q : PanelPort) : q.start.queue.length ≤ q.queue.length := by
  unfold PanelPort.start
  cases q.sending <;> cases queue : q.queue <;> simp [queue]

theorem push_queue_length (q : PanelPort) (f : Frame) : (q.push f).queue.length ≤ q.queue.length + 1 := by
  unfold PanelPort.push
  split
  · exact (start_queue_length _).trans (by simp)
  · exact Nat.le_succ _

theorem PanelPort.Gained.frames_eq {q r : PanelPort} {spent : Byte} {f : Frame} (h : q.Gained r spent f)
    (room : q.queue.length < 160) : r.frames = q.frames ++ [f] := (h.2.2.2.1 room).1

/-! ### The record, the reply and the answer list (R81, R83, R88) -/

theorem Piece.accept_eq (x : Piece) (p : PanelId) (kind : OverrideKind) (value : Byte) :
    x.accept p kind value.toNat = x.overridden p kind value := by
  cases kind <;> rfl

/-- The answer an accepted override of a kind leaves owed (R88). -/
def owedAnswer (p : PanelId) (tag : Byte) (kind : OverrideKind) (lug : LugNo) (x : Piece) : List Answer :=
  if answerOwed kind x.solveState then [⟨lug, x.revision + 1, p, tag⟩] else []

/-- The state after the record, the reply and the answer list of an accepted override, before the rule of its kind. -/
def accepted (p : PanelId) (tag : Byte) (lug : LugNo) (kind : OverrideKind) (value : Byte) (x : Piece) (s : State) : State :=
  updateAnswers p tag lug kind (x.revision + 1) (answerOwed kind x.solveState)
    (overrideReply p tag lug .accepted (x.revision + 1) (changePiece lug (fun y => y.accept p kind value.toNat) s))

theorem acceptOverride_eq (p : PanelId) (tag : Byte) (lug : LugNo) (kind : OverrideKind) (value : Byte) (x : Piece)
    (s : State) : acceptOverride p tag lug kind value.toNat x s =
      afterAcceptance p tag lug kind x (accepted p tag lug kind value x s) := rfl

/-- The other panel's port when the answer owed for a lug is replaced (R88). -/
structure OtherTold (p : PanelId) (kind : OverrideKind) (lug : LugNo) (s t : State) : Prop where
  replaced : ∀ a, s.answer? lug = some a → a.panel = otherPanel p →
    if (s.panels.port (otherPanel p)).present then
      (s.panels.port (otherPanel p)).Gained (t.panels.port (otherPanel p)) 1
        ⟨0x26, (s.panels.port (otherPanel p)).seq, a.putReplaced kind p⟩
    else t.panels.port (otherPanel p) = s.panels.port (otherPanel p)
  own : (∀ a, s.answer? lug = some a → a.panel = p) →
    t.panels.port (otherPanel p) = s.panels.port (otherPanel p)

theorem updateAnswers_spec (p : PanelId) (tag : Byte) (lug : LugNo) (kind : OverrideKind) (revision : Byte) (owed : Bool)
    (s : State) :
    (updateAnswers p tag lug kind revision owed s).panels.answers = s.panels.answers.filter (fun a => a.lug != lug) ++
      (if owed then [⟨lug, revision, p, tag⟩] else []) ∧
    (updateAnswers p tag lug kind revision owed s).panels.port p = s.panels.port p ∧
    OtherTold p kind lug s (updateAnswers p tag lug kind revision owed s) ∧
    updateAnswers p tag lug kind revision owed s =
      { s with panels := (updateAnswers p tag lug kind revision owed s).panels } := by
  generalize joined : (if owed then (dropAnswer lug s).onPanels fun x =>
    { x with answers := x.answers ++ [⟨lug, revision, p, tag⟩] } else dropAnswer lug s) = u
  have answers : u.panels.answers = s.panels.answers.filter (fun a => a.lug != lug) ++
      (if owed then [⟨lug, revision, p, tag⟩] else []) := by
    rw [← joined]; cases owed
    · exact (List.append_nil _).symm
    · rfl
  have ports : ∀ q, u.panels.port q = s.panels.port q := fun q => by
    rw [← joined]; cases owed <;> cases q <;> rfl
  have frame : u = { s with panels := u.panels } := by rw [← joined]; cases owed <;> rfl
  unfold updateAnswers
  simp only [joined]
  cases old : s.answer? lug with
  | none => exact ⟨answers, ports p, ⟨fun a found => (by rw [old] at found; cases found), fun _ => ports _⟩, frame⟩
  | some a =>
    by_cases own : a.panel = p
    · simp only [if_pos own]
      refine ⟨answers, ports p, ⟨fun b found other => ?_, fun _ => ports _⟩, frame⟩
      rw [old] at found
      cases found
      rw [own] at other
      cases p <;> cases other
    · simp only [if_neg own]
      have other : a.panel = otherPanel p := by
        revert own; cases a.panel <;> cases p <;> decide
      have back : otherPanel (otherPanel p) = p := by cases p <;> rfl
      obtain ⟨told, rest, answersNow, frameNow⟩ := tellPanel_spec (otherPanel p) kindReplaced (a.putReplaced kind p) u
      rw [back] at rest
      rw [ports] at told
      rw [other]
      refine ⟨answersNow.trans answers, rest.trans (ports p), ⟨fun b found _ => ?_, fun all => absurd (all a old) own⟩, ?_⟩
      · rw [old] at found
        cases found
        exact told
      · rw [frameNow, frame]

/-- What an accepted override leaves before the rule of its kind (R81, R83, R88). -/
structure OverrideTaken (p : PanelId) (tag : Byte) (lug : LugNo) (kind : OverrideKind) (value : Byte) (x : Piece)
    (s t : State) : Prop where
  record : Recorded lug (x.overridden p kind value) s t
  present : (t.panels.port p).present = true
  timer : (t.panels.port p).timer = 0
  seq : (t.panels.port p).seq = (s.panels.port p).seq
  room : (t.panels.port p).queue.length < 160
  frames : (t.panels.port p).frames = (s.panels.port p).frames ++ [⟨0x22, tag, replyBody lug 4 (x.revision + 1)⟩]
  answers : t.panels.answers = s.panels.answers.filter (fun a => a.lug != lug) ++ owedAnswer p tag kind lug x
  other : OtherTold p kind lug s t
  link : t.link = s.heardLink p
  pressure : OnlyPressure s t
  frame : t = { s with chain := t.chain, panels := t.panels, link := t.link, governor := t.governor }

theorem accepted_taken {s : State} {p : PanelId} {tag : Byte} {lug : LugNo} {kind : OverrideKind} {value : Byte} {x : Piece}
    (found : s.piece? lug = some x) (room : (s.panels.port p).queue.length < 159) :
    OverrideTaken p tag lug kind value x s (accepted p tag lug kind value x (panelHeard p s)) := by
  obtain ⟨heard, otherPort, answers, link, pressure, frame⟩ := panelHeard_spec p s
  unfold accepted
  generalize panelHeard p s = u at heard otherPort answers link pressure frame
  have foundNow : u.piece? lug = some x := by rw [frame]; exact found
  obtain ⟨record, others, chain⟩ := changePiece_recorded (f := fun y => y.accept p kind value.toNat) foundNow rfl
  rw [Piece.accept_eq] at record
  generalize changed : changePiece lug (fun y => y.accept p kind value.toNat) u = v at record others chain
  have frameV : v = { u with chain := v.chain } := by rw [← changed]; rfl
  have panelsV : v.panels = u.panels := by rw [frameV]
  rw [overrideReply_eq]
  have length := push_queue_length (u.panels.port p) ⟨0x22, tag, replyBody lug 4 (x.revision + 1)⟩
  obtain ⟨gained, otherNow, answersNow, frameNow⟩ := answerPanel_spec p 0x22 tag (replyBody lug 4 (x.revision + 1)) v
  have replied : answerPanel p 0x22 tag (replyBody lug (BitVec.ofNat 8 OverrideStatus.accepted.code) (x.revision + 1)) v =
      answerPanel p 0x22 tag (replyBody lug 4 (x.revision + 1)) v := rfl
  rw [replied]
  have queue : ((answerPanel p 0x22 tag (replyBody lug 4 (x.revision + 1)) v).panels.port p).queue.length < 160 := by
    have this := (port_onPort p (fun q => q.push ⟨0x22, tag, replyBody lug 4 (x.revision + 1)⟩) v).1
    have this : (answerPanel p 0x22 tag (replyBody lug 4 (x.revision + 1)) v).panels.port p = _ := this
    rw [this, panelsV, heard]
    rw [heard] at length
    have same : (s.panels.port p).heard.queue.length = (s.panels.port p).queue.length := rfl
    omega
  rw [panelsV, heard] at gained
  rw [panelsV, otherPort] at otherNow
  rw [panelsV, answers] at answersNow
  generalize answerPanel p 0x22 tag (replyBody lug 4 (x.revision + 1)) v = w at gained otherNow answersNow frameNow queue
  obtain ⟨answersT, portT, toldT, frameT⟩ := updateAnswers_spec p tag lug kind (x.revision + 1) (answerOwed kind x.solveState) w
  generalize updateAnswers p tag lug kind (x.revision + 1) (answerOwed kind x.solveState) w = t at answersT portT toldT frameT
  have owed : w.answer? lug = s.answer? lug := by rw [State.answer?, answersNow]; rfl
  have whole : t = { s with chain := v.chain, panels := t.panels, link := u.link, governor := u.governor } := by
    rw [frameT, frameNow, frameV, frame]
  constructor
  case record =>
    refine ⟨?_, fun o ne => ?_, ?_⟩
    · rw [whole]; exact record
    · rw [whole]; exact (others o ne).trans (by rw [frame]; rfl)
    · rw [whole]; exact chain.trans (by rw [frame])
  case present => rw [portT]; exact gained.1
  case timer => rw [portT]; exact gained.2.1
  case seq => rw [portT]; exact gained.2.2.1.trans (by simp [PanelPort.heard])
  case room => rw [portT]; exact queue
  case frames => rw [portT]; exact gained.frames_eq (Nat.lt_succ_of_lt room)
  case answers => rw [answersT, answersNow]; rfl
  case other =>
    obtain ⟨replaced, own⟩ := toldT
    rw [owed, otherNow] at replaced own
    exact ⟨replaced, own⟩
  case link => rw [whole]; exact link
  case pressure => exact pressure.trans (.of_eq (by rw [whole]))
  case frame => rw [whole]

end Sys2Proof.Machine
end

section
/-! PROOF. What an accepted override asks for after the answer list (R84 to R88). -/

namespace Sys2Proof.Machine

theorem overrideFrame_accepted {s : State} {p : PanelId} {tag : Byte} {lug : LugNo} {kind : OverrideKind} {value : Byte}
    {x : Piece} (accepts : kind.Accepts value) (found : s.piece? lug = some x) (uncommitted : x.isCommitted = false)
    (taken : needsResolve kind x = true → canTakeRequest lug s = true) :
    overrideFrame p tag lug kind value s =
      afterAcceptance p tag lug kind x (accepted p tag lug kind value x (panelHeard p s)) := by
  obtain ⟨_, _, _, _, _, frame⟩ := panelHeard_spec p s
  have foundNow : (panelHeard p s).piece? lug = some x := by rw [frame]; exact found
  have room : canTakeRequest lug (panelHeard p s) = canTakeRequest lug s := by rw [frame]; rfl
  unfold overrideFrame
  rw [judgeOverride_accepts accepts, foundNow]
  refine (if_neg (by simp [uncommitted])).trans (if_neg ?_)
  rw [room]
  intro refused
  simp only [Bool.and_eq_true, Bool.not_eq_true'] at refused
  rw [taken refused.1] at refused
  exact absurd refused.2 (by decide)

/-- A RESULT told to a PRESENT panel whose queue has room (R85, R86). -/
theorem sendResult_spec {s : State} {p : PanelId} {lug : LugNo} {q : Piece} (tag : Byte) (found : s.piece? lug = some q)
    (present : (s.panels.port p).present = true) :
    (s.panels.port p).Gained ((sendResult p tag lug s).panels.port p) 1 ⟨0x24, (s.panels.port p).seq, q.putResult tag⟩ ∧
    (sendResult p tag lug s).panels.port (otherPanel p) = s.panels.port (otherPanel p) ∧
    (sendResult p tag lug s).panels.answers = s.panels.answers ∧
    sendResult p tag lug s = { s with panels := (sendResult p tag lug s).panels } := by
  have told := tellPanel_spec p kindResult (q.putResult tag) s
  rw [if_pos present] at told
  have sent : sendResult p tag lug s = tellPanel p kindResult (q.putResult tag) s := by rw [sendResult, found]
  rw [sent]
  exact told

theorem answers_unowed {s : State} {lug : LugNo} (unowed : s.answer? lug = none) :
    s.panels.answers.filter (fun a => a.lug != lug) = s.panels.answers := by
  rw [List.filter_eq_self]
  intro a ha
  have other := List.find?_eq_none.mp unowed a ha
  simpa [bne] using other

/-- Settles O34. -/
theorem overrideOfAScannedPiece : Obligations.OverrideOfAScannedPiece := by
  intro s kind p tag value lug x accepts found scanning unsolved unowed room
  have uncommitted : x.isCommitted = false := by unfold Piece.isCommitted; rw [scanning]; decide
  have noResolve : needsResolve kind x = false := by unfold needsResolve; rw [scanning]; rfl
  have run := overrideFrame_accepted (p := p) (tag := tag) accepts found uncommitted
    (fun h => by rw [noResolve] at h; cases h)
  have taken := accepted_taken (p := p) (tag := tag) (kind := kind) (value := value) found room
  have otherPort := taken.other.own fun a owed => by rw [unowed] at owed; cases owed
  have answers := taken.answers
  rw [answers_unowed unowed] at answers
  rw [exec_overrideCommand, run]
  generalize accepted p tag lug kind value x (panelHeard p s) = w at taken otherPort answers
  obtain ⟨⟨record, others, chain⟩, present, timer, seq, queue, frames, _, _, link, pressure, frame⟩ := taken
  refine ⟨_, rfl, ?_⟩
  by_cases slash : kind = .slash
  · subst slash
    have sent : afterAcceptance p tag lug .slash x w = sendResult p tag lug w := rfl
    obtain ⟨gained, otherNow, answersNow, frameNow⟩ := sendResult_spec tag record present
    rw [sent]
    generalize sendResult p tag lug w = t at gained otherNow answersNow frameNow
    refine ⟨?_, fun o ne => ?_, gained.1.trans present, gained.2.1.trans timer, ?_, ?_, otherNow.trans otherPort, ?_, ?_, ?_, ?_⟩
    · rw [frameNow]; exact record
    · rw [frameNow]; exact others o ne
    · rw [gained.frames_eq queue, frames, seq]; simp
    · rw [gained.2.2.1, seq]; rfl
    · rw [answersNow, answers]; rfl
    · rw [frameNow]; exact link
    · exact pressure.trans (.of_eq (by rw [frameNow]))
    · rw [frameNow]; dsimp only; rw [← chain]; exact congrArg (fun u : State => { u with panels := t.panels }) frame
  · have owed : answerOwed kind x.solveState = true := by
      rw [unsolved]; cases kind <;> first | rfl | exact absurd rfl slash
    have moving : ¬x.stage = .closed := by rw [scanning]; decide
    have stays : afterAcceptance p tag lug kind x w = w := by
      cases kind
      case slash => exact absurd rfl slash
      case regrade => exact if_pos owed
      all_goals exact if_neg moving
    rw [stays]
    refine ⟨record, others, present, timer, ?_, ?_, otherPort, ?_, link, pressure, ?_⟩
    · rw [frames, if_neg slash]
    · rw [seq, if_neg slash]; simp
    · rw [answers, owedAnswer, owed, if_neg slash]; rfl
    · rw [← chain]; exact frame

/-! ### An override accepted for a CLOSED piece (R84 to R88) -/

/-- What the rule of an accepted override's kind leaves: the record as `q`, and a RESULT showing it where one is due. -/
structure Concluded (p : PanelId) (tag : Byte) (lug : LugNo) (q : Piece) (due : Prop) (s t : State) : Prop where
  record : Recorded lug q s t
  told : due → (s.panels.port p).Gained (t.panels.port p) 1 ⟨0x24, (s.panels.port p).seq, q.putResult tag⟩
  untold : ¬due → t.panels.port p = s.panels.port p
  otherPort : t.panels.port (otherPanel p) = s.panels.port (otherPanel p)
  frame : t = { s with chain := t.chain, solver := t.solver, panels := t.panels }

theorem concluded_unchanged {p : PanelId} {tag : Byte} {lug : LugNo} {q : Piece} {due : Prop} {s : State}
    (found : s.piece? lug = some q) (undue : ¬due) : Concluded p tag lug q due s s :=
  ⟨.refl found, fun h => absurd h undue, fun _ => rfl, rfl, rfl⟩

theorem concluded_sendResult {p : PanelId} {tag : Byte} {lug : LugNo} {q : Piece} {due : Prop} {s : State}
    (found : s.piece? lug = some q) (present : (s.panels.port p).present = true) (isDue : due) :
    Concluded p tag lug q due s (sendResult p tag lug s) ∧ (sendResult p tag lug s).solver = s.solver ∧
    (sendResult p tag lug s).panels.answers = s.panels.answers := by
  obtain ⟨gained, other, answers, frame⟩ := sendResult_spec tag found present
  generalize sendResult p tag lug s = t at gained other frame answers
  refine ⟨⟨⟨?_, fun o _ => ?_, ?_⟩, fun _ => gained, fun h => absurd isDue h, other, ?_⟩, by rw [frame], answers⟩
  · rw [frame]; exact found
  · rw [frame]; rfl
  · rw [frame]
  · rw [frame]

/-- A request made of the solver for a CLOSED piece of a filled profile changes the record and the solver (R63, R64). -/
theorem requestForOverride_concluded {p : PanelId} {tag : Byte} {lug : LugNo} {y : Piece} {due : Prop} {s : State}
    (found : s.piece? lug = some y) (filled : y.profile.status ≠ some .empty) (undue : ¬due)
    (room : s.solver.running = none → lug ∉ s.solver.queue → s.solver.queue = []) :
    ∃ q, Concluded p tag lug q due s (requestForOverride lug s) ∧
      (requestForOverride lug s).panels = s.panels ∧
      (lug ∈ s.solver.queue → q = { y with solveState := .queued } ∧ (requestForOverride lug s).solver = s.solver) ∧
      (lug ∉ s.solver.queue → s.solver.running ≠ none → q = { y with solveState := .queued } ∧
        (requestForOverride lug s).solver = { s.solver with queue := s.solver.queue ++ [lug] }) ∧
      (lug ∉ s.solver.queue → s.solver.running = none →
        SolveBegun y q s.bins (requestForOverride lug s).solver.running ∧ (requestForOverride lug s).solver.queue = []) := by
  have judged : requestForOverride lug s =
      if lug ∈ s.solver.queue then setSolveState lug .queued s else joinSolver lug s := by
    have nonempty : ¬y.emptyProfile = true := by simpa [Piece.emptyProfile] using filled
    unfold requestForOverride
    rw [found]
    exact if_neg nonempty
  by_cases queued : lug ∈ s.solver.queue
  · rw [judged, if_pos queued]
    exact ⟨_, ⟨setSolveState_recorded .queued found, fun h => absurd h undue, fun _ => rfl, rfl, rfl⟩, rfl,
      fun _ => ⟨rfl, rfl⟩, fun h => absurd queued h, fun h => absurd queued h⟩
  · rw [judged, if_neg queued]
    by_cases free : s.solver.running = none
    · obtain ⟨record, solver, frame⟩ := joinSolver_begins found free (room free queued)
      have panels : (joinSolver lug s).panels = s.panels := by rw [frame]
      refine ⟨_, ⟨record, fun h => absurd h undue, fun _ => by rw [panels], by rw [panels], ?_⟩, panels,
        fun h => absurd h queued, fun _ h => absurd free h, fun _ _ => ⟨?_, by rw [solver]⟩⟩
      · rw [panels]; exact frame
      · rw [solver, ← piece?_lug found]; exact solveBegun_solving y s
    · obtain ⟨record, solver, frame⟩ := joinSolver_waits found free
      have panels : (joinSolver lug s).panels = s.panels := by rw [frame]
      refine ⟨_, ⟨record, fun h => absurd h undue, fun _ => by rw [panels], by rw [panels], ?_⟩, panels,
        fun h => absurd h queued, fun _ _ => ⟨rfl, solver⟩, fun _ h => absurd h free⟩
      rw [panels]; exact frame

theorem answer?_owed {s : State} {l : List Answer} {lug : LugNo} {a : Answer} (same : a.lug = lug)
    (answers : s.panels.answers = l.filter (fun a => a.lug != lug) ++ [a]) : s.answer? lug = some a := by
  rw [State.answer?, answers, List.find?_append]
  have absent : (l.filter fun a => a.lug != lug).find? (fun a => a.lug == lug) = none := by
    rw [List.find?_eq_none]
    intro b hb
    simpa [bne] using (List.mem_filter.mp hb).2
  simp [absent, same]

/-- A request for an EMPTY profile is decided at once, and the RESULT pays the answer just owed (R63, R71, R89). -/
theorem completeEmpty_concluded {p : PanelId} {tag : Byte} {lug : LugNo} {y : Piece} {due : Prop} {l : List Answer} {s : State}
    (found : s.piece? lug = some y) (present : (s.panels.port p).present = true) (isDue : due)
    (answers : s.panels.answers = l.filter (fun a => a.lug != lug) ++ [⟨lug, y.revision, p, tag⟩]) :
    Concluded p tag lug y.completedEmpty due s (completeEmpty lug s) ∧
    (completeEmpty lug s).panels.answers = l.filter (fun a => a.lug != lug) ∧
    (completeEmpty lug s).solver = s.solver := by
  obtain ⟨record, paid, frame⟩ := completeEmpty_spec found
  obtain ⟨left, other, told⟩ := paid.paid _ (answer?_owed rfl answers) rfl
  rw [if_pos present] at told
  refine ⟨⟨record, fun _ => told, fun h => absurd isDue h, other, ?_⟩, ?_, by rw [frame]⟩
  · rw [frame]
  · rw [left, answers]; simp

/-- The conclusions every kind of accepted override shares, from what it leaves before and by its own rule. -/
theorem OverrideTaken.conclude {p : PanelId} {tag : Byte} {lug : LugNo} {kind : OverrideKind} {value : Byte} {x q : Piece}
    {due : Prop} [Decidable due] {s w t : State} (taken : OverrideTaken p tag lug kind value x s w)
    (c : Concluded p tag lug q due w t) :
    (∀ other, other ≠ lug → t.piece? other = s.piece? other) ∧
    (∀ q, t.piece? lug = some q → (t.panels.port p).frames = (s.panels.port p).frames ++
      (⟨0x22, tag, replyBody lug 4 (x.revision + 1)⟩ ::
        if due then [⟨0x24, (s.panels.port p).seq, q.putResult tag⟩] else [])) ∧
    OtherTold p kind lug s t ∧ t.link = s.heardLink p ∧ OnlyPressure s t ∧
    t = { s with chain := { s.chain with pieces := t.chain.pieces }, solver := t.solver, panels := t.panels,
                 link := t.link, governor := t.governor } := by
  have chain : t.chain = { s.chain with pieces := t.chain.pieces } := (taken.record.trans c.record).chain
  refine ⟨(taken.record.trans c.record).others, fun q' found => ?_, ⟨?_, ?_⟩, ?_, ?_, ?_⟩
  · rw [c.record.record] at found
    cases found
    by_cases isDue : due
    · rw [(c.told isDue).frames_eq taken.room, taken.frames, taken.seq, if_pos isDue]; simp
    · rw [c.untold isDue, taken.frames, if_neg isDue]
  · rw [c.otherPort]; exact taken.other.replaced
  · rw [c.otherPort]; exact taken.other.own
  · rw [c.frame]; exact taken.link
  · exact taken.pressure.trans (.of_eq (by rw [c.frame]))
  · rw [← chain]
    exact c.frame.trans (by rw [taken.frame, c.frame])

theorem afterAcceptance_resolve {p : PanelId} {tag : Byte} {lug : LugNo} {kind : OverrideKind} {x : Piece} {s : State}
    (closed : x.stage = .closed) (notSlash : kind ≠ .slash) (notRegrade : kind ≠ .regrade) :
    afterAcceptance p tag lug kind x s = requestForOverride lug s := by
  cases kind
  case slash => exact absurd rfl notSlash
  case regrade => exact absurd rfl notRegrade
  all_goals exact if_pos closed

theorem answerOwed_resolve {kind : OverrideKind} (notSlash : kind ≠ .slash) (notRegrade : kind ≠ .regrade) (st : SolveState) :
    answerOwed kind st = true := by
  cases kind <;> first | rfl | exact absurd rfl notSlash | exact absurd rfl notRegrade

/-- The command of an override accepted for a CLOSED piece (R81, R82). -/
theorem overrideFrame_closed {s : State} {p : PanelId} {tag : Byte} {lug : LugNo} {kind : OverrideKind} {value : Byte}
    {x : Piece} (accepts : kind.Accepts value) (found : s.piece? lug = some x) (closed : x.stage = .closed)
    (room : x.profile.status = some .empty ∨ kind = .slash ∨ kind = .regrade ∨ lug ∈ s.solver.queue ∨
      s.solver.queue.length < 8 ∧ (s.solver.running = none → s.solver.queue = [])) :
    exec (overrideCommand kind p tag lug value) s =
      .next (afterAcceptance p tag lug kind x (accepted p tag lug kind value x (panelHeard p s))) := by
  have uncommitted : x.isCommitted = false := by unfold Piece.isCommitted; rw [closed]; decide
  rw [exec_overrideCommand, overrideFrame_accepted accepts found uncommitted fun resolve => ?_]
  unfold needsResolve Piece.emptyProfile at resolve
  unfold canTakeRequest
  rcases room with empty | rfl | rfl | queued | ⟨few, _⟩
  · rw [decide_eq_true empty] at resolve; simp at resolve
  · simp at resolve
  · simp at resolve
  · rw [decide_eq_true queued]; rfl
  · rw [decide_eq_true (show s.solver.queue.length < solverMax from few), Bool.or_true]

theorem owedAnswer_regrade (p : PanelId) (tag : Byte) (lug : LugNo) (x : Piece) : owedAnswer p tag .regrade lug x =
    if x.solveState = .done ∨ x.solveState = .failed then [] else [⟨lug, x.revision + 1, p, tag⟩] := by
  unfold owedAnswer
  cases x.solveState <;> rfl

theorem afterAcceptance_regrade (p : PanelId) (tag : Byte) (lug : LugNo) (x : Piece) (s : State) :
    afterAcceptance p tag lug .regrade x s =
      if x.solveState = .done ∨ x.solveState = .failed then sendResult p tag lug s else s := by
  unfold afterAcceptance
  cases x.solveState <;> rfl

/-- When an accepted override of a CLOSED piece is answered with a RESULT at once (R84 to R86). -/
abbrev ResultDue (kind : OverrideKind) (x : Piece) : Prop :=
  kind = .slash ∨ kind = .regrade ∧ (x.solveState = .done ∨ x.solveState = .failed) ∨
    kind ≠ .regrade ∧ x.profile.status = some .empty

/-- Settles O35. -/
theorem overrideOfAClosedPiece : Obligations.OverrideOfAClosedPiece := by
  intro s kind p tag value lug x accepts found closed room159 room
  have taken := accepted_taken (p := p) (tag := tag) (kind := kind) (value := value) found room
  rw [overrideFrame_closed accepts found closed room159]
  generalize accepted p tag lug kind value x (panelHeard p s) = w at taken
  have solver : w.solver = s.solver := by rw [taken.frame]
  have bins : w.bins = s.bins := by rw [taken.frame]
  have answers := taken.answers
  refine ⟨_, rfl, ?_⟩
  by_cases slash : kind = .slash
  · subst slash
    obtain ⟨c, solverNow, answersNow⟩ :=
      concluded_sendResult (tag := tag) (due := ResultDue .slash x) taken.record.record taken.present (.inl rfl)
    have rule : afterAcceptance p tag lug .slash x w = sendResult p tag lug w := rfl
    rw [rule]
    generalize sendResult p tag lug w = t at c solverNow answersNow
    obtain ⟨others, frames, told, link, pressure, frame⟩ := taken.conclude c
    exact ⟨fun h => absurd rfl h, fun h => absurd rfl h,
      fun _ => ⟨c.record.record, solverNow.trans solver, answersNow.trans (answers.trans (List.append_nil _))⟩,
      fun h => (by cases h), others, frames, told.replaced, told.own, link, pressure, frame⟩
  by_cases regrade : kind = .regrade
  · subst regrade
    have concluded : Concluded p tag lug (x.overridden p .regrade value) (ResultDue .regrade x) w
          (afterAcceptance p tag lug .regrade x w) ∧
        (afterAcceptance p tag lug .regrade x w).solver = w.solver ∧
        (afterAcceptance p tag lug .regrade x w).panels.answers = w.panels.answers := by
      rw [afterAcceptance_regrade]
      by_cases settled : x.solveState = .done ∨ x.solveState = .failed
      · rw [if_pos settled]
        exact concluded_sendResult taken.record.record taken.present (.inr (.inl ⟨rfl, settled⟩))
      · rw [if_neg settled]
        exact ⟨concluded_unchanged taken.record.record (by simp [settled]), rfl, rfl⟩
    obtain ⟨c, solverNow, answersNow⟩ := concluded
    generalize afterAcceptance p tag lug .regrade x w = t at c solverNow answersNow
    obtain ⟨others, frames, told, link, pressure, frame⟩ := taken.conclude c
    rw [owedAnswer_regrade] at answers
    exact ⟨fun _ h => absurd rfl h, fun _ h => absurd rfl h, fun h => absurd h slash,
      fun _ => ⟨c.record.record, solverNow.trans solver, answersNow.trans answers⟩,
      others, frames, told.replaced, told.own, link, pressure, frame⟩
  rw [owedAnswer, if_pos (answerOwed_resolve slash regrade _)] at answers
  rw [afterAcceptance_resolve closed slash regrade]
  by_cases empty : x.profile.status = some .empty
  · have emptyNow : (x.overridden p kind value).emptyProfile = true := decide_eq_true empty
    have rule : requestForOverride lug w = completeEmpty lug w := by
      unfold requestForOverride
      rw [taken.record.record]
      exact if_pos emptyNow
    obtain ⟨c, answersNow, solverNow⟩ := completeEmpty_concluded (tag := tag) (due := ResultDue kind x)
      taken.record.record taken.present (.inr (.inr ⟨regrade, empty⟩)) answers
    rw [rule]
    generalize completeEmpty lug w = t at c answersNow solverNow
    obtain ⟨others, frames, told, link, pressure, frame⟩ := taken.conclude c
    have undecided : (x.overridden p kind value).completedEmpty =
        { x.overridden p kind value with sizeClass := none, decision := none, solveState := .done } := by
      have plain : isSlash (x.overridden p kind value).override = false := by
        cases kind <;> first | rfl | exact absurd rfl slash
      unfold Piece.completedEmpty
      rw [plain]
      rfl
    exact ⟨fun _ _ h => absurd empty h,
      fun _ _ _ => ⟨c.record.record.trans (congrArg some undecided), solverNow.trans solver, answersNow⟩,
      fun h => absurd h slash, fun h => absurd h regrade, others, frames, told.replaced, told.own, link, pressure, frame⟩
  · have undue : ¬ResultDue kind x := by simp [ResultDue, slash, regrade, empty]
    obtain ⟨q, c, panels, queued, waits, begun⟩ := requestForOverride_concluded (p := p) (tag := tag)
      taken.record.record (show (x.overridden p kind value).profile.status ≠ some .empty from empty) undue (by
        rw [solver]
        intro free unqueued
        rcases room159 with h | h | h | h | ⟨_, h⟩
        · exact absurd h empty
        · exact absurd h slash
        · exact absurd h regrade
        · exact absurd h unqueued
        · exact h free)
    rw [solver] at queued waits begun
    rw [bins] at begun
    generalize requestForOverride lug w = t at c panels queued waits begun
    obtain ⟨others, frames, told, link, pressure, frame⟩ := taken.conclude c
    have record := c.record.record
    refine ⟨fun _ _ _ => ⟨by rw [panels]; exact answers, fun h => ?_, fun h busy => ?_, fun h free => ⟨q, record, begun h free⟩⟩,
      fun _ _ h => absurd h empty, fun h => absurd h slash, fun h => absurd h regrade,
      others, frames, told.replaced, told.own, link, pressure, frame⟩
    · obtain ⟨rfl, same⟩ := queued h
      exact ⟨record, same⟩
    · obtain ⟨rfl, joined⟩ := waits h busy
      exact ⟨record, joined⟩

end Sys2Proof.Machine
end

section
/-! PROOF. A conversion's result taken (R42). -/

namespace Sys2Proof.Machine

theorem clampMoisture_cast (v : Int) : (clampMoisture v : Int) = min (max v 0) 600 := by
  unfold clampMoisture
  omega

theorem takeReading_open {p : Piece} {c v : Nat} (uncommitted : p.stage = .scanning ∨ p.stage = .closed) :
    p.takeReading c v = { p with moisture := p.moisture.set c (some ⟨v, false⟩) } := by
  refine if_neg ?_
  unfold Piece.isCommitted
  rcases uncommitted with h | h <;> rw [h] <;> decide

theorem takeReading_committed {p : Piece} {c v : Nat} (scanned : p.stage ≠ .scanning) (closed : p.stage ≠ .closed) :
    p.takeReading c v = p := by
  refine if_pos ?_
  unfold Piece.isCommitted
  revert scanned closed
  cases p.stage <;> decide

theorem takeReading_lug (p : Piece) (c v : Nat) : (p.takeReading c v).lug = p.lug := by
  unfold Piece.takeReading
  split <;> rfl

/-- Settles O26. -/
theorem moistureResultIsTaken : Obligations.MoistureResultIsTaken := by
  intro s raw owner x c rest converting
  let cal := (s.bank x).calibrated c raw.toNat
  let v := clampMoisture cal
  generalize measured : (s.onMoisture fun m =>
    { m with
      converter := if rest.isEmpty then none else some ⟨owner, x, rest⟩
      held := m.held.set c (some v)
      ages := m.ages.set c 0
      clamps := if cal < 0 ∨ 600 < cal then setAt m.clamps c EventCounter.bump else m.clamps }) = u
  have run : exec (.moistureConversionComplete raw) s = .next (changePiece owner (Piece.takeReading c v) u) := by
    rw [← measured]
    show Host.Outcome.next (completeConversion raw.toNat s) = _
    rw [completeConversion, converting]
  have pieces : ∀ lug, u.piece? lug = s.piece? lug := fun lug => by rw [← measured]; rfl
  have keeps : ∀ p, u.piece? owner = some p → (Piece.takeReading c v p).lug = owner := fun p found =>
    (takeReading_lug p c v).trans (piece?_lug found)
  have record : (changePiece owner (Piece.takeReading c v) u).piece? owner = (s.piece? owner).map (Piece.takeReading c v) := by
    rw [piece?_changePiece keeps, pieces]
  refine ⟨_, cal, v, run, ?_, ?_, clampMoisture_cast cal, ?_, fun p found open_ => ?_, fun p found scanned closed => ?_,
    fun lug ne => ?_, ?_⟩
  · intro r resolution stale loaded row common
    have calibrated := Bank.calibrated_loaded (s.bank x) c raw.toNat r loaded row
    rw [common] at calibrated
    exact calibrated
  · exact Bank.calibrated_open (s.bank x) c raw.toNat
  · rw [← measured]
    have last : rest.isEmpty = true ↔ rest = [] := List.isEmpty_iff
    simp only [changePiece, State.onChain, State.onMoisture, last]
    rfl
  · rw [record, found, Option.map_some, takeReading_open open_]
  · rw [record, found, Option.map_some, takeReading_committed scanned closed]
  · rw [piece?_changePiece_of_ne ne keeps, pieces]
  · rw [← measured]; rfl

end Sys2Proof.Machine
end

section
/-! PROOF. A solve's completion (R65, R67, R68, R71). -/

namespace Sys2Proof.Machine

/-! ### The state with no solve in progress -/

/-- The solver's solve has ended, before its result is weighed. -/
def State.solveEnded (s : State) : State := s.onSolver fun x => { x with running := none }

/-- A discarded solve is counted (R67). -/
def State.discarded (s : State) : State := countFault .discarded s.solveEnded

theorem discarded_eq (s : State) : s.discarded = { s with
    solver := { s.solver with running := none }
    line := { s.line with counters := { s.line.counters with discarded := s.line.counters.discarded.bump } } } := rfl

theorem completeSolve_gone {s : State} {v : Solve} (running : s.solver.running = some v) (absent : s.piece? v.lug = none) :
    completeSolve s = startSolve s.discarded := by
  unfold completeSolve
  rw [running]
  simp only [show (s.onSolver fun x => { x with running := none }).piece? v.lug = none from absent]
  rfl

/-- The record a written result leaves (R67). -/
def Solve.written (v : Solve) (b : Bank) (p : Piece) : Piece :=
  { p with sizeClass := (v.result b).1, decision := (v.result b).2, solveState := .done }

theorem completeSolve_wanted {s : State} {v : Solve} {p : Piece} (running : s.solver.running = some v)
    (found : s.piece? v.lug = some p) (closed : p.stage = .closed) (revision : p.revision = v.revision) :
    completeSolve s = startSolve (reportResult v.lug v.revision
      (changePiece v.lug (v.written (s.bank v.bank)) s.solveEnded)) := by
  have wanted : v.stillWanted p = true := by simp [Solve.stillWanted, closed, revision]
  unfold completeSolve
  rw [running]
  simp only [show (s.onSolver fun x => { x with running := none }).piece? v.lug = some p from found, wanted, if_true]
  cases v.bank <;> rfl

theorem completeSolve_discards {s : State} {v : Solve} {p : Piece} (running : s.solver.running = some v)
    (found : s.piece? v.lug = some p) (unwanted : ¬(p.stage = .closed ∧ p.revision = v.revision)) :
    completeSolve s = startSolve (settleDiscard v.lug s.discarded) := by
  have wanted : v.stillWanted p = false := by
    rw [← Bool.not_eq_true]
    simpa [Solve.stillWanted] using unwanted
  unfold completeSolve
  rw [running]
  simp only [show (s.onSolver fun x => { x with running := none }).piece? v.lug = some p from found, wanted]
  rfl

/-! ### What becomes of a discarded solve's piece (R68) -/

theorem settleDiscard_committed {s : State} {lug : LugNo} {p : Piece} (found : s.piece? lug = some p)
    (committed : p.isCommitted = true) : settleDiscard lug s = setSolveState lug p.settled s := by
  unfold settleDiscard
  rw [found]
  exact if_pos committed

theorem settleDiscard_again {s : State} {lug : LugNo} {p : Piece} (found : s.piece? lug = some p)
    (uncommitted : p.isCommitted = false) : settleDiscard lug s =
      if lug ∈ s.solver.queue then setSolveState lug .queued s
      else if s.solver.queue.length < 8 then joinSolver lug s
      else countFault .failed (setSolveState lug .failed s) := by
  unfold settleDiscard
  rw [found]
  exact if_neg (by simp [uncommitted])

theorem isCommitted_iff (p : Piece) : p.isCommitted = false ↔ p.stage = .scanning ∨ p.stage = .closed := by
  unfold Piece.isCommitted
  cases p.stage <;> decide

/-! ### With nothing queued -/

theorem solveCompletes_written {s : State} {v : Solve} {p : Piece} (solver : s.solver = { queue := [], running := some v })
    (found : s.piece? v.lug = some p) (closed : p.stage = .closed) (revision : p.revision = v.revision) :
    ∃ t q, exec .solveComplete s = .next t ∧ t.piece? v.lug = some q ∧ q = v.written (s.bank v.bank) p ∧
      t.solver = { queue := [], running := none } ∧ (∀ other, other ≠ v.lug → t.piece? other = s.piece? other) ∧
      ResultPaid q v.revision v.lug s t ∧
      t = { s with chain := { s.chain with pieces := t.chain.pieces }, solver := t.solver, panels := t.panels } := by
  obtain ⟨record, others, chain⟩ := changePiece_recorded (s := s.solveEnded) (f := v.written (s.bank v.bank)) found rfl
  obtain ⟨paid, frame⟩ := reportResult_paid record v.revision
  have ended : (changePiece v.lug (v.written (s.bank v.bank)) s.solveEnded).solver = { queue := [], running := none } := by
    show ({ s.solver with running := none } : Solver) = _
    rw [solver]
  have run := completeSolve_wanted (by rw [solver]) found closed revision
  generalize reported : reportResult v.lug v.revision (changePiece v.lug (v.written (s.bank v.bank)) s.solveEnded) = t
    at paid frame run
  have empty : t.solver = { queue := [], running := none } := by rw [frame]; exact ended
  rw [startSolve_idle (.inr (by rw [empty]))] at run
  refine ⟨t, _, congrArg Host.Outcome.next run, ?_, rfl, empty, fun other ne => ?_, paid.congr rfl rfl, ?_⟩
  · rw [frame]; exact record
  · rw [frame]; exact others other ne
  · have pieces : t.chain.pieces = (changePiece v.lug (v.written (s.bank v.bank)) s.solveEnded).chain.pieces := by rw [frame]
    rw [empty, pieces, ← ended]; exact frame

theorem solveCompletes_settled {s : State} {v : Solve} {p : Piece} (solver : s.solver = { queue := [], running := some v })
    (found : s.piece? v.lug = some p) (committed : p.stage = .committed ∨ p.stage = .pastSaw) :
    ∃ t, exec .solveComplete s = .next t ∧ t.piece? v.lug = some { p with solveState := p.settled } ∧
      t = { s with
        chain := { s.chain with pieces := t.chain.pieces }, solver := { queue := [], running := none }
        line := { s.line with counters := { s.line.counters with discarded := s.line.counters.discarded.bump } } } := by
  have late : p.isCommitted = true := by
    unfold Piece.isCommitted
    rcases committed with h | h <;> rw [h] <;> decide
  have unwanted : ¬(p.stage = .closed ∧ p.revision = v.revision) := by
    rcases committed with h | h <;> rw [h] <;> simp
  have run := completeSolve_discards (by rw [solver]) found unwanted
  rw [settleDiscard_committed (s := s.discarded) found late] at run
  obtain ⟨record, _, _⟩ := setSolveState_recorded (s := s.discarded) p.settled found
  have ended : s.discarded.solver = { queue := [], running := none } := by rw [discarded_eq, solver]
  have empty : (setSolveState v.lug p.settled s.discarded).solver = { queue := [], running := none } := ended
  rw [startSolve_idle (.inr (by rw [empty]))] at run
  refine ⟨_, congrArg Host.Outcome.next run, record, ?_⟩
  rw [← ended]
  rfl

theorem solveCompletes_again {s : State} {v : Solve} {p : Piece} (solver : s.solver = { queue := [], running := some v })
    (found : s.piece? v.lug = some p) (closed : p.stage = .closed) (revision : p.revision ≠ v.revision) :
    ∃ t q w, exec .solveComplete s = .next t ∧ t.piece? v.lug = some q ∧ q.solveState = .running ∧
      q.decision = p.decision ∧ t.solver = { queue := [], running := some w } ∧ w.lug = v.lug ∧
      w.revision = p.revision ∧ w.override = p.override ∧ w.cells = p.profile.cells ∧
      t = { s with
        chain := { s.chain with pieces := t.chain.pieces }, solver := t.solver
        line := { s.line with counters := { s.line.counters with discarded := s.line.counters.discarded.bump } } } := by
  have run := completeSolve_discards (by rw [solver]) found fun h => revision h.2
  have ended : s.discarded.solver = { queue := [], running := none } := by rw [discarded_eq, solver]
  rw [settleDiscard_again (s := s.discarded) found ((isCommitted_iff p).mpr (.inr closed)),
    if_neg (by rw [ended]; exact List.not_mem_nil), if_pos (by rw [ended]; decide)] at run
  obtain ⟨record, running, frame⟩ := joinSolver_begins (s := s.discarded) found (by rw [ended]) (by rw [ended])
  rw [startSolve_idle (.inl (by rw [running]; exact Option.some_ne_none _))] at run
  generalize joinSolver v.lug s.discarded = t at run record running frame
  refine ⟨t, _, _, congrArg Host.Outcome.next run, record.record, rfl, rfl, running, rfl, rfl, rfl, rfl, ?_⟩
  rw [frame]
  exact congrArg (fun c => ({ s.discarded with chain := c, solver := t.solver } : State)) record.chain

/-! ### With entries that wait -/

/-- Two records of one piece give a solve that starts the same inputs but the moisture (R50). -/
structure SameInputs (p q : Piece) : Prop where
  revision : q.revision = p.revision
  profile : q.profile = p.profile
  override : q.override = p.override
  bank : q.bank = p.bank

/-- The state in which the oldest entry that waits starts after a solve's completion: what has become of the record of
the solve that ended and of its place in the queue (R67, R68). -/
structure Weighed (v : Solve) (queue : List LugNo) (again : Prop) (s u : State) : Prop where
  free : u.solver.running = none
  records : ∀ lug p, s.piece? lug = some p → ∃ q, u.piece? lug = some q ∧ SameInputs p q
  kept : ¬again → u.solver.queue = queue
  joined : again → queue.length < 8 → u.solver.queue = queue ++ [v.lug]
  failed : again → 8 ≤ queue.length → u.solver.queue = queue ∧ (∃ x, u.piece? v.lug = some x ∧ x.solveState = .failed) ∧
    u.line.counters.failed = s.line.counters.failed.bump
  frame : u = { s with chain := { s.chain with pieces := u.chain.pieces }, solver := u.solver, panels := u.panels,
                       line := u.line }

theorem Recorded.sameInputs {lug : LugNo} {x q : Piece} {s u : State} (h : Recorded lug q s u) (found : s.piece? lug = some x)
    (same : SameInputs x q) {other : LugNo} {p : Piece} (there : s.piece? other = some p) :
    ∃ r, u.piece? other = some r ∧ SameInputs p r := by
  by_cases here : other = lug
  · subst here
    rw [found] at there
    cases there
    exact ⟨q, h.record, same⟩
  · exact ⟨p, (h.others other here).trans there, ⟨rfl, rfl, rfl, rfl⟩⟩

/-- A second start of the oldest entry finds a solve in progress. -/
theorem startSolve_twice {u : State} {lug : LugNo} {rest : List LugNo} {p : Piece} (free : u.solver.running = none)
    (queue : u.solver.queue = lug :: rest) (found : u.piece? lug = some p) : startSolve (startSolve u) = startSolve u := by
  obtain ⟨_, solver, _⟩ := startSolve_spec free queue found
  exact startSolve_idle (.inl (by rw [solver]; exact Option.some_ne_none _))

/-- Every completion weighs the solve that ended, and then the oldest entry that waits starts (R65, R67, R68). -/
theorem completeSolve_weighed {s : State} {v : Solve} {lug : LugNo} {rest : List LugNo} {p : Piece}
    (solver : s.solver = { queue := lug :: rest, running := some v }) (found : s.piece? lug = some p) :
    ∃ u, completeSolve s = startSolve u ∧ Weighed v (lug :: rest) (∃ x, s.piece? v.lug = some x ∧
      (x.stage = .scanning ∨ x.stage = .closed) ∧ ¬(x.stage = .closed ∧ x.revision = v.revision) ∧ v.lug ∉ lug :: rest) s u := by
  have running : s.solver.running = some v := by rw [solver]
  have queue : s.discarded.solver = { queue := lug :: rest, running := none } := by rw [discarded_eq, solver]
  cases standing : s.piece? v.lug with
  | none =>
    refine ⟨_, completeSolve_gone running standing, ?_⟩
    exact ⟨rfl, fun o q there => ⟨q, there, ⟨rfl, rfl, rfl, rfl⟩⟩, fun _ => by rw [queue], fun ⟨x, h, _⟩ => (by cases h),
      fun ⟨x, h, _⟩ => (by cases h), rfl⟩
  | some x =>
    by_cases wanted : x.stage = .closed ∧ x.revision = v.revision
    · have no : ¬∃ y, some x = some y ∧ (y.stage = .scanning ∨ y.stage = .closed) ∧
          ¬(y.stage = .closed ∧ y.revision = v.revision) ∧ v.lug ∉ lug :: rest := by
        rintro ⟨y, h, _, not, _⟩
        cases h
        exact not wanted
      have record := changePiece_recorded (s := s.solveEnded) (f := v.written (s.bank v.bank)) standing rfl
      obtain ⟨_, frame⟩ := reportResult_paid record.record v.revision
      refine ⟨_, completeSolve_wanted running standing wanted.1 wanted.2, ?_⟩
      have records := fun o q => record.sameInputs (s := s.solveEnded) standing ⟨rfl, rfl, rfl, rfl⟩ (other := o) (p := q)
      have ended : (changePiece v.lug (v.written (s.bank v.bank)) s.solveEnded).solver = { queue := lug :: rest, running := none } := by
        show ({ s.solver with running := none } : Solver) = _
        rw [solver]
      generalize reportResult v.lug v.revision (changePiece v.lug (v.written (s.bank v.bank)) s.solveEnded) = u at frame
      refine ⟨by rw [frame, ended], fun o q there => ?_, fun _ => by rw [frame, ended], fun h => absurd h no,
        fun h => absurd h no, ?_⟩
      · rw [frame]; exact records o q there
      · rw [frame]; rfl
    · cases uncommitted : x.isCommitted with
      | true =>
        have no : ¬∃ y, some x = some y ∧ (y.stage = .scanning ∨ y.stage = .closed) ∧
            ¬(y.stage = .closed ∧ y.revision = v.revision) ∧ v.lug ∉ lug :: rest := by
          rintro ⟨y, h, open_, _, _⟩
          cases h
          rw [(isCommitted_iff x).mpr open_] at uncommitted
          cases uncommitted
        refine ⟨_, completeSolve_discards running standing wanted, ?_⟩
        rw [settleDiscard_committed (s := s.discarded) standing uncommitted]
        have record := setSolveState_recorded (s := s.discarded) x.settled standing
        exact ⟨rfl, fun o q there => record.sameInputs (s := s.discarded) standing ⟨rfl, rfl, rfl, rfl⟩ there,
          fun _ => (by show s.discarded.solver.queue = _; rw [queue]), fun h => absurd h no, fun h => absurd h no, rfl⟩
      | false =>
        have settled := settleDiscard_again (s := s.discarded) standing uncommitted
        have run := completeSolve_discards running standing wanted
        rw [settled, queue] at run
        by_cases waits : v.lug ∈ lug :: rest
        · rw [if_pos waits] at run
          have no : ¬∃ y, some x = some y ∧ (y.stage = .scanning ∨ y.stage = .closed) ∧
              ¬(y.stage = .closed ∧ y.revision = v.revision) ∧ v.lug ∉ lug :: rest := by
            rintro ⟨_, _, _, _, not⟩
            exact not waits
          have record := setSolveState_recorded (s := s.discarded) .queued standing
          exact ⟨_, run, ⟨rfl, fun o q there => record.sameInputs (s := s.discarded) standing ⟨rfl, rfl, rfl, rfl⟩ there,
            fun _ => (by show s.discarded.solver.queue = _; rw [queue]), fun h => absurd h no, fun h => absurd h no, rfl⟩⟩
        · rw [if_neg waits] at run
          have yes : ∃ y, some x = some y ∧ (y.stage = .scanning ∨ y.stage = .closed) ∧
              ¬(y.stage = .closed ∧ y.revision = v.revision) ∧ v.lug ∉ lug :: rest :=
            ⟨x, rfl, (isCommitted_iff x).mp uncommitted, wanted, waits⟩
          by_cases few : (lug :: rest).length < 8
          · rw [if_pos few] at run
            have record := setSolveState_recorded (p := x)
              (s := s.discarded.onSolver fun y => { y with queue := y.queue ++ [v.lug] }) .queued standing
            have records := fun o q => record.sameInputs
              (s := s.discarded.onSolver fun y => { y with queue := y.queue ++ [v.lug] }) standing ⟨rfl, rfl, rfl, rfl⟩
              (other := o) (p := q)
            have start : joinSolver v.lug s.discarded = startSolve (setSolveState v.lug .queued
              (s.discarded.onSolver fun y => { y with queue := y.queue ++ [v.lug] })) := rfl
            have after : (setSolveState v.lug .queued
                (s.discarded.onSolver fun y => { y with queue := y.queue ++ [v.lug] })).solver =
                { queue := lug :: (rest ++ [v.lug]), running := none } := by
              show ({ s.discarded.solver with queue := s.discarded.solver.queue ++ [v.lug] } : Solver) = _
              rw [queue]; rfl
            obtain ⟨q, there, _⟩ := records lug p found
            rw [start, startSolve_twice (by rw [after]) (by rw [after]) there] at run
            exact ⟨_, run, ⟨by rw [after], records, fun h => absurd yes h, fun _ _ => by rw [after]; rfl,
              fun _ h => absurd few (Nat.not_lt.mpr h), rfl⟩⟩
          · rw [if_neg few] at run
            have record := setSolveState_recorded (s := s.discarded) .failed standing
            refine ⟨_, run, ⟨rfl, fun o q there => record.sameInputs (s := s.discarded) standing ⟨rfl, rfl, rfl, rfl⟩ there,
              fun h => absurd yes h, fun _ h => absurd h few, fun _ _ => ⟨?_, ⟨_, record.record, rfl⟩, rfl⟩, rfl⟩⟩
            show s.discarded.solver.queue = _
            rw [queue]

/-- Settles O28. -/
theorem solveCompletes : Obligations.SolveCompletes := by
  refine ⟨fun s v p solver found closed revision => solveCompletes_written solver found closed revision,
    fun s v solver absent => ?gone,
    fun s v p solver found committed => solveCompletes_settled solver found committed,
    fun s v p solver found closed revision => solveCompletes_again solver found closed revision,
    fun s v lug rest p again solver found isAgain => ?waiting, fun s idle => congrArg Host.Outcome.next ?idle⟩
  case gone =>
    have run := completeSolve_gone (by rw [solver]) absent
    have ended : s.discarded.solver = { queue := [], running := none } := by rw [discarded_eq, solver]
    rw [startSolve_idle (.inr (by rw [ended]))] at run
    refine congrArg Host.Outcome.next (run.trans ?_)
    rw [← ended]
    rfl
  case idle => rw [completeSolve, idle]
  case waiting =>
    obtain ⟨u, run, weighed⟩ := completeSolve_weighed solver found
    rw [← isAgain] at weighed
    obtain ⟨q, there, same⟩ := weighed.records lug p found
    obtain ⟨rest', queue⟩ : ∃ l, u.solver.queue = lug :: l := by
      cases again with
      | false => exact ⟨rest, weighed.kept (by decide)⟩
      | true =>
        by_cases few : (lug :: rest).length < 8
        · exact ⟨_, weighed.joined rfl few⟩
        · exact ⟨_, (weighed.failed rfl (Nat.not_lt.mp few)).1⟩
    obtain ⟨record, solverNow, frame⟩ := startSolve_spec weighed.free queue there
    have bins : u.bins = s.bins := by rw [weighed.frame]
    rw [← run] at record solverNow frame
    generalize completed : completeSolve s = t at record solverNow frame
    have queueNow : t.solver.queue = rest' := by rw [solverNow]
    refine ⟨t, _, congrArg Host.Outcome.next completed, record.record, rfl, same.revision, ?_, fun stays => ?_,
      fun joins few => ?_, fun fails full => ?_, ?_⟩
    · rw [solverNow, Piece.solve, same.revision, same.profile, same.override, same.bank, bins]
    · have kept := weighed.kept (by rw [stays]; decide)
      rw [queue] at kept
      rw [queueNow]; exact (List.cons.inj kept).2
    · have joined := weighed.joined joins (by rw [List.length_cons]; omega)
      rw [queue] at joined
      rw [queueNow]; exact (List.cons.inj joined).2
    · obtain ⟨failed, ⟨x, failedRecord, state⟩, counted⟩ := weighed.failed fails (by rw [List.length_cons]; omega)
      rw [queue] at failed
      obtain ⟨_, _, _, _, apart⟩ := isAgain.mp fails
      have ne : v.lug ≠ lug := fun h => apart (h ▸ List.mem_cons_self)
      refine ⟨by rw [queueNow]; exact (List.cons.inj failed).2, ⟨x, (record.others _ ne).trans failedRecord, state⟩, ?_⟩
      rw [frame]; exact counted
    · rw [frame, record.chain, weighed.frame]

end Sys2Proof.Machine
end

section
/-! SUPPORT. The close of a profile and the solve it asks for (R36, R38, R62, R63). -/

namespace Sys2Proof.Machine

/-! ### The request at a close (R62, R63) -/

theorem startSolve_stands {u : State} {lug : LugNo} {p : Piece} (found : u.piece? lug = some p) :
    (∃ q, (startSolve u).piece? lug = some q) ∧
    startSolve u = { u with chain := { u.chain with pieces := (startSolve u).chain.pieces }, solver := (startSolve u).solver } := by
  by_cases idle : u.solver.running ≠ none ∨ u.solver.queue = []
  · rw [startSolve_idle idle]
    exact ⟨⟨p, found⟩, rfl⟩
  · rw [not_or, not_not] at idle
    obtain ⟨free, queued⟩ := idle
    obtain ⟨first, rest, queue⟩ := List.exists_cons_of_ne_nil queued
    cases there : u.piece? first with
    | none =>
      have started : startSolve u = u.onSolver fun v => { v with queue := rest } := by
        unfold startSolve
        rw [free, queue]
        simp only [show (u.onSolver fun v => { v with queue := rest }).piece? first = none from there]
      rw [started]
      exact ⟨⟨p, found⟩, rfl⟩
    | some x =>
      obtain ⟨record, _, frame⟩ := startSolve_spec free queue there
      refine ⟨?_, by rw [← record.chain]; exact frame⟩
      by_cases same : lug = first
      · exact ⟨_, same ▸ record.record⟩
      · exact ⟨p, (record.others lug same).trans found⟩

theorem completedEmpty_eq (w : Piece) : w.completedEmpty = { w with
    sizeClass := none, solveState := .done
    decision := if w.override.map Override.kind = some .slash then some .slash else none } := by
  unfold Piece.completedEmpty isSlash
  simp only [beq_iff_eq]

/-- What a profile's close asks of the solver, and what it leaves as it was. -/
structure RequestMade (lug : LugNo) (w q : Piece) (s t : State) : Prop where
  record : t.piece? lug = some q
  asked : SolveAsked w q s t
  frame : t = { s with chain := { s.chain with pieces := t.chain.pieces }, solver := t.solver, panels := t.panels,
                       line := t.line }
  others : (s.solver.running = none → s.solver.queue = []) → ∀ other, other ≠ lug → t.piece? other = s.piece? other

theorem requestAtClose_empty {s : State} {lug : LugNo} {w : Piece} (found : s.piece? lug = some w)
    (empty : w.profile.status = some .empty) : RequestMade lug w w.completedEmpty s (requestAtClose lug s) := by
  have judged : requestAtClose lug s = completeEmpty lug s := by
    unfold requestAtClose
    rw [found]
    exact if_pos (decide_eq_true empty)
  obtain ⟨record, paid, frame⟩ := completeEmpty_spec found
  rw [judged]
  refine ⟨record.record, ?_, ?_, fun _ => record.others⟩
  · exact {
      emptyProfile := fun _ => ⟨completedEmpty_eq w, by rw [frame], by rw [frame], by rw [piece?_lug found]; exact paid⟩
      panels := fun h => absurd empty h
      waiting := fun h => absurd empty h
      joined := fun h => absurd empty h
      begun := fun h => absurd empty h
      failed := fun h => absurd empty h }
  · rw [← record.chain]
    exact frame.trans (by rw [frame])

theorem requestAtClose_filled {s : State} {lug : LugNo} {w : Piece} (found : s.piece? lug = some w)
    (filled : w.profile.status ≠ some .empty) : ∃ q, RequestMade lug w q s (requestAtClose lug s) := by
  have nonempty : ¬w.emptyProfile = true := by simpa [Piece.emptyProfile] using filled
  have judged : requestAtClose lug s = if lug ∈ s.solver.queue then s
      else if s.solver.queue.length < 8 then joinSolver lug s
      else countFault .failed (setSolveState lug .failed s) := by
    unfold requestAtClose
    rw [found]
    exact if_neg nonempty
  have named := piece?_lug found
  by_cases waits : lug ∈ s.solver.queue
  · rw [judged, if_pos waits]
    exact ⟨w, found, {
      emptyProfile := fun h => absurd h filled
      panels := fun _ => rfl
      waiting := fun _ _ => ⟨rfl, rfl, rfl⟩
      joined := fun _ h => absurd (named ▸ waits) h
      begun := fun _ _ h => by rw [h] at waits; cases waits
      failed := fun _ h => absurd (named ▸ waits) h }, rfl, fun _ _ _ => rfl⟩
  by_cases few : s.solver.queue.length < 8
  · rw [judged, if_neg waits, if_pos few]
    by_cases busy : s.solver.running = none
    · by_cases empty : s.solver.queue = []
      · obtain ⟨record, solver, frame⟩ := joinSolver_begins found busy empty
        refine ⟨_, record.record, {
          emptyProfile := fun h => absurd h filled
          panels := fun _ => by rw [frame]
          waiting := fun _ h => absurd (named ▸ h) waits
          joined := fun _ _ h => absurd busy h
          begun := fun _ _ _ => ⟨?_, by rw [solver], by rw [frame]⟩
          failed := fun _ _ h => absurd few (Nat.not_lt.mpr h) }, ?_, fun _ => record.others⟩
        · rw [solver, ← named]; exact solveBegun_solving w s
        · rw [← record.chain]; exact frame.trans (by rw [frame])
      · have joined := setSolveState_recorded (s := s.onSolver fun v => { v with queue := v.queue ++ [lug] }) .queued found
        obtain ⟨⟨q, record⟩, frame⟩ := startSolve_stands joined.record
        have start : joinSolver lug s =
            startSolve (setSolveState lug .queued (s.onSolver fun v => { v with queue := v.queue ++ [lug] })) := rfl
        rw [start]
        refine ⟨q, record, {
          emptyProfile := fun h => absurd h filled
          panels := fun _ => by rw [frame]; rfl
          waiting := fun _ h => absurd (named ▸ h) waits
          joined := fun _ _ h => absurd busy h
          begun := fun _ _ h => absurd h empty
          failed := fun _ _ h => absurd few (Nat.not_lt.mpr h) }, ?_, fun h => absurd (h busy) empty⟩
        rw [frame]; rfl
    · obtain ⟨record, solver, frame⟩ := joinSolver_waits found busy
      refine ⟨_, record.record, {
        emptyProfile := fun h => absurd h filled
        panels := fun _ => by rw [frame]
        waiting := fun _ h => absurd (named ▸ h) waits
        joined := fun _ _ _ _ => ⟨rfl, by rw [solver, named], by rw [frame]⟩
        begun := fun _ h => absurd h busy
        failed := fun _ _ h => absurd few (Nat.not_lt.mpr h) }, ?_, fun _ => record.others⟩
      rw [← record.chain]; exact frame.trans (by rw [frame])
  · have record := setSolveState_recorded (s := s) .failed found
    rw [judged, if_neg waits, if_neg few]
    exact ⟨_, record.record, {
      emptyProfile := fun h => absurd h filled
      panels := fun _ => rfl
      waiting := fun _ h => absurd (named ▸ h) waits
      joined := fun _ _ _ h => absurd h few
      begun := fun _ _ h => absurd (by rw [h]; decide) few
      failed := fun _ _ _ => ⟨rfl, rfl, rfl⟩ }, rfl, fun _ => record.others⟩

theorem requestAtClose_made {s : State} {lug : LugNo} {w : Piece} (found : s.piece? lug = some w) :
    ∃ q, RequestMade lug w q s (requestAtClose lug s) := by
  by_cases empty : w.profile.status = some .empty
  · exact ⟨_, requestAtClose_empty found empty⟩
  · exact requestAtClose_filled found empty

theorem SolveAsked.congr {w q : Piece} {s s' t t' : State} (h : SolveAsked w q s t)
    (before : s'.solver = s.solver ∧ s'.line = s.line ∧ s'.bins = s.bins ∧ s'.panels = s.panels)
    (after : t'.solver = t.solver ∧ t'.line = t.line ∧ t'.panels = t.panels) : SolveAsked w q s' t' := by
  obtain ⟨solver, line, bins, panels⟩ := before
  obtain ⟨solver', line', panels'⟩ := after
  have paid : ResultPaid q w.revision w.lug s t → ResultPaid q w.revision w.lug s' t' := fun p => p.congr panels panels'
  obtain ⟨empty, silent, waits, joined, begun, failed⟩ := h
  constructor <;> simp only [solver, line, bins, panels, solver', line', panels']
  · exact fun e => ⟨(empty e).1, (empty e).2.1, (empty e).2.2.1, paid (empty e).2.2.2⟩
  · exact silent
  · exact waits
  · exact joined
  · exact begun
  · exact failed

/-! ### The summary of a closed profile (R38) -/

theorem writeSummary_spec {l : List ProfileBuffer} (m : Summary) (free : ∃ b ∈ l, b.role = .free) :
    ∃ (i : Nat) (b : ProfileBuffer), l[i]? = some b ∧ b.role = .free ∧ (writeSummary m l)[i]? = some ⟨.latest, some m⟩ ∧
      ∀ k, k ≠ i → (writeSummary m l)[k]? = (l[k]?).map fun x => if x.role = .latest then { x with role := .free } else x := by
  obtain ⟨b, hb, isFree⟩ := free
  have found : (l.findIdx? fun x => x.role == .free).isSome = true := by
    rw [List.findIdx?_isSome, List.any_eq_true]
    exact ⟨b, hb, by rw [isFree]; rfl⟩
  obtain ⟨i, at_⟩ := Option.isSome_iff_exists.mp found
  obtain ⟨within, here, _⟩ := List.findIdx?_eq_some_iff_getElem.mp at_
  have written : writeSummary m l =
      (l.map fun x => if x.role = .latest then { x with role := .free } else x).set i ⟨.latest, some m⟩ := by
    unfold writeSummary
    rw [at_]
  rw [written]
  refine ⟨i, l[i], List.getElem?_eq_getElem within, eq_of_beq here, ?_, fun k ne => ?_⟩
  · rw [List.getElem?_set_self (by simpa using within)]
  · rw [List.getElem?_set_ne (Ne.symm ne), List.getElem?_map]

/-! ### A profile closed (R36) -/

theorem profileStatus_eq (cells : List Cell) : profileStatus cells =
    if ∀ c ∈ cells, c = .absent then .empty else if .unknown ∈ cells then .partialCells else .complete := by
  unfold profileStatus
  simp only [List.all_eq_true, beq_iff_eq, List.contains_iff_mem]

theorem closeProfile_record (p : Piece) : p.closeProfile = { p with
    stage := .closed
    profile := { p.profile with cells := p.closeProfile.profile.cells, status := p.closeProfile.profile.status }
    flags := { p.flags with
      partialProfile := p.flags.partialProfile || decide (p.closeProfile.profile.status = some .partialCells) } } := by
  simp only [Piece.closeProfile, Option.some.injEq]

/-- The profile of a piece in stage SCANNING closes (R36, R38). -/
theorem closeProfile_spec {s : State} {lug : LugNo} {p : Piece} (cause : CloseCause) (found : s.piece? lug = some p)
    (scanning : p.stage = .scanning) :
    ∃ w q, (closeProfile lug cause s).piece? lug = some q ∧ ProfileClosed cause p w q s (closeProfile lug cause s) ∧
      closeProfile lug cause s = { s with
        chain := { s.chain with pieces := (closeProfile lug cause s).chain.pieces }
        scan := { s.scan with buffers := (closeProfile lug cause s).scan.buffers }
        solver := (closeProfile lug cause s).solver, panels := (closeProfile lug cause s).panels
        line := (closeProfile lug cause s).line } ∧
      ((s.solver.running = none → s.solver.queue = []) →
        ∀ other, other ≠ lug → (closeProfile lug cause s).piece? other = s.piece? other) := by
  have record := changePiece_recorded (f := fun _ => p.closeProfile) found rfl
  obtain ⟨q, made⟩ := requestAtClose_made record.record
  have closed : closeProfile lug cause s = (requestAtClose lug (changePiece lug (fun _ => p.closeProfile) s)).onScan fun x =>
      { x with buffers := writeSummary (p.closeProfile.summary (s.bank p.bank) cause) x.buffers } := by
    unfold closeProfile
    rw [found]
    exact if_pos scanning
  generalize requestAtClose lug (changePiece lug (fun _ => p.closeProfile) s) = u at made closed
  have scan : u.scan = s.scan := by rw [made.frame]; rfl
  rw [closed]
  refine ⟨p.closeProfile, q, made.record, ?_, ?_, fun only other ne => ?_⟩
  · exact {
      cells := rfl
      status := congrArg some (profileStatus_eq _)
      record := closeProfile_record p
      asked := made.asked.congr ⟨rfl, rfl, rfl, rfl⟩ ⟨rfl, rfl, rfl⟩
      buffer := fun free => by
        obtain ⟨i, b, at_, isFree, latest, rest⟩ := writeSummary_spec (p.closeProfile.summary (s.bank p.bank) cause) free
        refine ⟨i, b, p.closeProfile.summary (s.bank p.bank) cause, at_, isFree, ?_, fun k ne => ?_, rfl, rfl, rfl, rfl, rfl, rfl, rfl, fun h r reported => ?_⟩
        · show (writeSummary _ u.scan.buffers)[i]? = _
          rw [scan]; exact latest
        · show (writeSummary _ u.scan.buffers)[k]? = _
          rw [scan]; exact rest k ne
        · simp [Piece.summary, Piece.closeProfile, reported] }
  · rw [made.frame]; rfl
  · exact (made.others only other ne).trans (record.others other ne)

end Sys2Proof.Machine
end

section
/-! PROOF. A head's report read from its bytes and written into its run (R29, R34). -/

namespace Sys2Proof.Machine

/-! ### The bytes of a SEGMENT (R29, 11.5) -/

theorem chunks_getElem? (n k i : Nat) (bs : List Byte) (within : i < k) :
    (chunks n k bs)[i]? = some ((bs.drop (n * i)).take n) := by
  induction k generalizing bs i with
  | zero => cases within
  | succ k ih =>
    cases i with
    | zero => rfl
    | succ i =>
      rw [chunks, List.getElem?_cons_succ, ih i _ (Nat.lt_of_succ_lt_succ within), List.drop_drop]
      rw [Nat.mul_succ, Nat.add_comm]

theorem word_of_four_bytes (a b c d : Byte) :
    BitVec.ofNat 32 ((a.toNat * 256 + b.toNat) * 65536 + (c.toNat * 256 + d.toNat)) = a ++ b ++ c ++ d := by
  apply BitVec.eq_of_toNat_eq
  have ha := a.isLt
  have hb := b.isLt
  have hc := c.isLt
  have hd := d.isLt
  rw [BitVec.toNat_append, ← Nat.shiftLeft_add_eq_or_of_lt hd, BitVec.toNat_append, ← Nat.shiftLeft_add_eq_or_of_lt hc,
    BitVec.toNat_append, ← Nat.shiftLeft_add_eq_or_of_lt hb, BitVec.toNat_ofNat]
  simp only [Nat.shiftLeft_eq]
  omega

theorem cellOfEntry_eq (e : List Byte) : cellOfEntry e = cellOfWord (BitVec.ofNat 32 (u32At e 0)) := by
  unfold cellOfEntry cellOfWord
  generalize BitVec.ofNat 32 (u32At e 0) = w
  have present : w.getLsbD 31 = decide (2 ^ 31 ≤ w.toNat) :=
    (BitVec.msb_eq_getLsbD_last w).symm.trans (BitVec.msb_eq_decide w)
  simp only [BitVec.extractLsb'_toNat, Nat.shiftRight_eq_div_pow, present, decide_eq_true_eq]
  by_cases absent : w.toNat < 2 ^ 31
  · rw [if_neg (Nat.not_le.mpr absent), if_pos absent]
  · rw [if_pos (Nat.not_lt.mp absent), if_neg absent]

theorem segmentStatusOfCode_cases {n : Nat} {st : SegmentStatus} (code : segmentStatusOfCode n = some st) :
    n = 0 ∧ st = .noBoard ∨ n = 1 ∧ st = .board ∨ n = 2 ∧ st = .headFault := by
  match n, code with
  | 0, rfl => exact .inl ⟨rfl, rfl⟩
  | 1, rfl => exact .inr (.inl ⟨rfl, rfl⟩)
  | 2, rfl => exact .inr (.inr ⟨rfl, rfl⟩)

theorem readFrom_ofBody {body : List Byte} {f : SegmentFields} (read : SegmentFields.ofBody body = some f) :
    f.ReadFrom body := by
  unfold SegmentFields.ofBody at read
  simp only [Option.ite_none_right_eq_some, Option.map_eq_some_iff] at read
  obtain ⟨⟨_, length⟩, st, code, rfl⟩ := read
  constructor
  case head => rfl
  case lug => exact word_of_bytes _ _
  case status =>
    rcases segmentStatusOfCode_cases code with ⟨byte, rfl⟩ | ⟨byte, rfl⟩ | ⟨byte, rfl⟩ <;>
      exact BitVec.eq_of_toNat_eq byte
  case count => rfl
  case length => exact length
  case number => rw [List.length_map, chunks_length]
  case cells =>
    intro i within
    rw [List.getElem?_map, chunks_getElem? 4 _ i _ within, Option.map_some, cellOfEntry_eq, u32At_take, List.drop_drop,
      u32At_drop]
    refine congrArg (fun w => some (cellOfWord w)) ?_
    rw [← word_of_four_bytes]
    have second : 6 + 4 * i = 5 + 4 * i + 1 := by omega
    have third : 7 + 4 * i = 5 + 4 * i + 2 := by omega
    have fourth : 8 + 4 * i = 5 + 4 * i + 2 + 1 := by omega
    simp only [u32At, u16At, byteAt, second, third, fourth, Nat.add_zero]

/-! ### The run written (R34) -/

theorem writeRun_length (first last : Nat) (new cells : List Cell) : (writeRun first last new cells).length = cells.length := by
  simp [writeRun]

theorem writeRun_getElem? (first last : Nat) (new cells : List Cell) (k : Nat) : (writeRun first last new cells)[k]? =
    (cells[k]?).map fun c => if first ≤ k ∧ k ≤ last then new.getD (k - first) c else c := by
  simp [writeRun, List.getElem?_zipIdx, Function.comp_def]

theorem report_getD {f : SegmentFields} {n i : Nat} (c : Cell) (number : f.cells.length = n) (within : i < n) :
    (f.report n).2.getD i c =
      match f.status with | .board => f.cells.getD i .absent | .noBoard => .absent | .headFault => .unknown := by
  unfold SegmentFields.report
  cases f.status with
  | board =>
    have there : i < f.cells.length := number ▸ within
    simp only [List.getD_eq_getElem?_getD, List.getElem?_eq_getElem there, Option.getD_some]
  | noBoard => simp [within]
  | headFault => simp [within]

theorem report_head (f : SegmentFields) (n : Nat) : (f.report n).1 =
    match f.status with | .board => .board | .noBoard => .noBoard | .headFault => .headFault := by
  unfold SegmentFields.report
  cases f.status <;> rfl

theorem report_made (f : SegmentFields) (n : Nat) : (f.report n).1 ≠ .notReported := by
  unfold SegmentFields.report
  cases f.status <;> exact nofun

theorem allReported_iff (b : Bank) (p : Profile) : allReported b p = true ↔
    ∀ k, k < 8 → (b.headRun k).isSome = true → p.reports[k]? ≠ some .notReported := by
  simp only [allReported, List.all_eq_true, List.mem_range, Bool.or_eq_true, Option.isNone_iff_eq_none, bne_iff_ne]
  refine forall_congr' fun k => imp_congr_right fun _ => ?_
  cases b.headRun k <;> simp

theorem judgeSegment_report {s : State} {h : Fin 8} {body : List Byte} {f : SegmentFields} {p : Piece} {first last : Nat}
    (read : SegmentFields.ofBody body = some f) (history : s.scan.history.find? (fun e => e.1 == f.lug) = some (f.lug, true))
    (found : s.piece? f.lug = some p) (scanning : p.stage = .scanning)
    (run : (s.bank p.bank).headRun h.val = some (first, last)) (head : f.head = h.val) (count : f.count = last - first + 1)
    (reported : p.profile.reports[h.val]? = some .notReported) :
    judgeSegment h body s = takeReport p h.val first last f s := by
  have judged : judgeReport h f p s = takeReport p h.val first last f s := by
    unfold judgeReport
    rw [run]
    exact (if_neg (by simp [head, count])).trans (if_pos reported)
  unfold judgeSegment
  simp only [read, history, found]
  exact (if_pos scanning).trans judged

/-- Settles O25. -/
theorem headReportIsWritten : Obligations.HeadReportIsWritten := by
  intro s h body f p first last read history found scanning run head count ordered reported length
  have fields := readFrom_ofBody read
  have named := piece?_lug found
  have taken := judgeSegment_report read history found scanning run head count reported
  have record := changePiece_recorded (f := fun _ => p.takeReport h.val first last f) found rfl
  have others : ∀ k, k ≠ h.val → (p.takeReport h.val first last f).profile.reports[k]? = p.profile.reports[k]? := fun k ne =>
    List.getElem?_set_ne (Ne.symm ne)
  have own : (p.takeReport h.val first last f).profile.reports[h.val]? ≠ some .notReported := by
    have there : (p.profile.reports.set h.val (f.report (last - first + 1)).1)[h.val]? = some (f.report (last - first + 1)).1 :=
      List.getElem?_set_self (by rw [length]; exact h.isLt)
    intro made
    exact report_made f _ (Option.some.inj (there.symm.trans made))
  have whole : takeReport p h.val first last f s =
      if allReported (s.bank p.bank) (p.takeReport h.val first last f).profile then
        closeProfile f.lug .allReported (changePiece f.lug (fun _ => p.takeReport h.val first last f) s)
      else changePiece f.lug (fun _ => p.takeReport h.val first last f) s := by
    rw [takeReport, named]
  rw [whole] at taken
  refine ⟨fields, ?_⟩
  have written : p.takeReport h.val first last f = { p with profile := { p.profile with
      cells := (p.takeReport h.val first last f).profile.cells
      reports := p.profile.reports.set h.val
        (match f.status with | .board => .board | .noBoard => .noBoard | .headFault => .headFault) } } := by
    rw [← report_head f (last - first + 1)]; rfl
  have inRun : ∀ k, first ≤ k → k ≤ last → k < p.profile.cells.length →
      (p.takeReport h.val first last f).profile.cells[k]? = some
        (match f.status with
          | .board => f.cells.getD (k - first) .absent | .noBoard => .absent | .headFault => .unknown) := fun k least most within => by
    rw [← report_getD p.profile.cells[k] (fields.number.trans count) (by omega : k - first < last - first + 1)]
    refine (writeRun_getElem? first last _ _ k).trans ?_
    rw [List.getElem?_eq_getElem within, Option.map_some, if_pos ⟨least, most⟩]
  have outside : ∀ k, ¬(first ≤ k ∧ k ≤ last) →
      (p.takeReport h.val first last f).profile.cells[k]? = p.profile.cells[k]? := fun k out => by
    refine (writeRun_getElem? first last _ _ k).trans ?_
    simp only [if_neg out, Option.map_id']
  by_cases all : allReported (s.bank p.bank) (p.takeReport h.val first last f).profile = true
  · rw [if_pos all] at taken
    obtain ⟨w, q, recordNow, closed, frame, apart⟩ := closeProfile_spec .allReported record.record scanning
    rw [← taken] at recordNow closed frame apart
    refine ⟨_, q, _, rfl, recordNow, written, writeRun_length _ _ _ _, inRun, outside,
      fun only lug ne => (apart only lug ne).trans (record.others lug ne), fun waits => ?_, fun _ => ⟨⟨w, ?_⟩, ?_⟩⟩
    · obtain ⟨k, ne, within, mapped, unreported⟩ := waits
      exact absurd ((others k ne).trans unreported) ((allReported_iff _ _).mp all k within mapped)
    · exact ⟨closed.cells, closed.status, closed.record, closed.asked.congr ⟨rfl, rfl, rfl, rfl⟩ ⟨rfl, rfl, rfl⟩, closed.buffer⟩
    · exact frame
  · rw [if_neg all] at taken
    refine ⟨_, _, _, congrArg Host.Outcome.next taken, record.record, written, writeRun_length _ _ _ _, inRun, outside,
      fun _ lug ne => record.others lug ne, fun _ => ⟨rfl, rfl⟩, fun reports => absurd ?_ all⟩
    rw [allReported_iff]
    intro k within mapped
    by_cases same : k = h.val
    · rw [same]; exact own
    · rw [others k same]; exact reports k same within mapped

end Sys2Proof.Machine
end

section
/-! SUPPORT. A good lug edge with no activation pending, and the station a piece stands at (R11, R13). -/

namespace Sys2Proof.Machine

/-! ### The advance up to the stations (R11, R14, R28, R30, R43) -/

/-- The state at an advance of count `c` before the stations act, with no activation pending. -/
def State.arrived (c : Count) (good eye : Bool) (s : State) : State :=
  let s1 := s.onChain fun ch =>
    { ch with lug := ch.lug + 1, c0 := c, goodRun := if good then min 255 (ch.goodRun + 1) else ch.goodRun }
  ageMoisture (admitPiece c eye (sendLug s1.chain.lug (s1.onScan fun x => { x with eye })))

theorem lugAdvance_settled {s : State} (settled : s.store.pendingBank = none) (c : Count) (good eye : Bool) :
    lugAdvance c good eye s = stepGovernor (runStations c (s.arrived c good eye)) := by
  unfold lugAdvance takePending
  simp only [show (s.onChain fun ch => { ch with
      lug := ch.lug + 1, c0 := c, goodRun := if good then min 255 (ch.goodRun + 1) else ch.goodRun }).store.pendingBank = none
    from settled]
  rfl

/-- What an advance has changed before the stations act: the chain, the scan assembler but for its profiles, and the ages
of the held readings; at an admission also the count of FILL_DURING_HOLD. -/
structure Arrived (s u : State) (pieces : List Piece) : Prop where
  chain : u.chain = { s.chain with
    lug := s.chain.lug + 1, c0 := s.chain.count, goodRun := min 255 (s.chain.goodRun + 1), lockOn := false
    pieces := pieces, admitted := u.chain.admitted }
  scan : u.scan.buffers = s.scan.buffers
  moisture : u.moisture = { s.moisture with ages := s.moisture.ages.map fun a => min 255 (a + 1) }
  line : u.line = { s.line with counters := u.line.counters }
  frame : u = { s with chain := u.chain, scan := u.scan, moisture := u.moisture, line := u.line }

theorem sendLug_eq (lug : LugNo) (s : State) :
    sendLug lug s = { s with scan := { s.scan with lugSent := (sendLug lug s).scan.lugSent } } := by
  unfold sendLug
  cases s.activeBank <;> rfl

theorem recordHistory_eq (lug : LugNo) (filled : Bool) (u : State) : recordHistory lug filled u = { u with
    scan := { u.scan with
      history := (u.scan.history ++ [(lug, filled)]).drop (u.scan.history.length + 1 - 128) } } := by
  simp only [recordHistory, State.onScan, List.length_append, List.length_singleton]

theorem admitPiece_unblocked (c : Count) (s : State) : admitPiece c false s = recordHistory s.chain.lug false s := rfl

theorem admitPiece_blocked (c : Count) {s : State} {x : BankId} (active : s.activeBank = some x) :
    admitPiece c true s = recordHistory s.chain.lug true (weighAdmission s.chain.lug (s.onChain fun ch =>
      { ch with pieces := ch.pieces ++ [Piece.admitted s.chain.lug c x ch.suspect], admitted := ch.admitted + 1 })) := by
  unfold admitPiece
  rw [active]

/-- A good edge with the scan eye clear brings every piece on and admits none. -/
theorem arrived_unblocked (s : State) : Arrived s (s.disarmed.arrived s.chain.count true false) s.chain.pieces ∧
    (s.disarmed.arrived s.chain.count true false).line = s.line ∧
    (s.disarmed.arrived s.chain.count true false).chain.admitted = s.chain.admitted ∧
    (s.disarmed.arrived s.chain.count true false).scan.history =
      (s.scan.history ++ [(s.chain.lug + 1, false)]).drop (s.scan.history.length + 1 - 128) ∧
    (s.disarmed.arrived s.chain.count true false).scan.eye = false := by
  unfold State.arrived
  dsimp only
  rw [sendLug_eq]
  generalize (sendLug _ _).scan.lugSent = told
  rw [admitPiece_unblocked]
  rw [recordHistory_eq]
  refine ⟨⟨rfl, rfl, rfl, rfl, rfl⟩, rfl, rfl, ?_, rfl⟩
  dsimp only [ageMoisture, State.onMoisture, State.onScan, State.onChain, State.disarmed]

/-- The state of a good edge, up to the stations (R5, R11). -/
theorem lugEdge_eq {s : State} {g : Geometry} (good : EdgeGood s g) (settled : s.store.pendingBank = none) (eye : Bool) :
    exec (.lugEdge eye) s =
      .next (stepGovernor (runStations s.chain.count (s.disarmed.arrived s.chain.count true eye))) := by
  refine congrArg Host.Outcome.next ((judgeEdge_good eye good).trans ?_)
  exact lugAdvance_settled (s := s.disarmed) settled _ _ _

theorem runStations_none {c : Count} {u : State} (none : u.chain.pieces = []) : runStations c u = u := by
  unfold runStations
  rw [none]
  cases u.store.geometry <;> rfl

theorem runStations_one {c : Count} {u : State} {g : Geometry} {p : Piece} (loaded : u.store.geometry = some g)
    (alone : u.chain.pieces = [p]) : runStations c u = visitStations g c u p.lug := by
  unfold runStations
  rw [loaded, alone]
  rfl

theorem piece?_alone {u : State} {p : Piece} (alone : u.chain.pieces = [p]) : u.piece? p.lug = some p := by
  rw [State.piece?, alone]
  simp

theorem pieces_alone {u : State} {q : Piece} {lug : LugNo} (one : u.chain.pieces.length = 1) (found : u.piece? lug = some q) :
    u.chain.pieces = [q] := by
  obtain ⟨x, hx⟩ := List.length_eq_one_iff.mp one
  have found : (u.chain.pieces.find? fun p => p.lug == lug) = some q := found
  rw [hx] at found ⊢
  have there := List.mem_of_find?_eq_some found
  rw [List.mem_singleton.mp there]

/-- The governor's step changes the governor alone. -/
theorem stepGovernor_eq (v : State) : stepGovernor v = { v with governor := (stepGovernor v).governor } := by
  apply State.eq_of_blocks <;> simp

/-- A good edge that brings the one piece in the queue to a station: the stations act on it, then the governor steps. -/
theorem lugEdge_atStation {s : State} {g : Geometry} {p : Piece} {offset : Nat} (h : AtStation s g p offset) :
    ∃ u, exec (.lugEdge false) s = .next (stepGovernor (visitStations g s.chain.count u p.lug)) ∧
      Arrived s u [p] ∧ u.line = s.line ∧ u.chain.admitted = s.chain.admitted ∧ u.piece? p.lug = some p ∧
      u.position p.lug = offset := by
  obtain ⟨arrived, line, admitted, _, _⟩ := arrived_unblocked s
  rw [h.alone] at arrived
  generalize reached_ : s.disarmed.arrived s.chain.count true false = u at arrived line admitted
  have pieces : u.chain.pieces = [p] := by rw [arrived.chain]
  have loaded : u.store.geometry = some g := by rw [arrived.frame]; exact h.good.1.2.2.1
  refine ⟨u, ?_, arrived, line, admitted, piece?_alone pieces, ?_⟩
  · rw [lugEdge_eq h.good h.settled, reached_, runStations_one loaded pieces]
  · rw [State.position, arrived.chain]; exact h.position

/-! ### The station a piece stands at (R13, R178) -/

/-- The order of the station offsets of a geometry set in range. -/
structure Geometry.Stations (g : Geometry) : Prop where
  moisture : g.moistureOffset ≤ g.closeOffset
  close : 1 ≤ g.closeOffset
  markP1 : g.closeOffset < g.markP1 ∧ g.markP1 < g.commit
  markP2 : g.closeOffset < g.markP2 ∧ g.markP2 < g.commit
  saw : g.commit < g.sawLine
  drops : ∀ (b d : Nat), g.drops[b]? = some d → g.sawLine < d ∧ d < g.runOut
  runOut : g.sawLine < g.runOut

theorem Geometry.stations {g : Geometry} (inRange : g.firstBad = none) (drops : g.drops.length = 48) : g.Stations := by
  have ok : ∀ i, i < 70 → g.itemOk i = true := fun i hi => Geometry.itemOk_of_inRange inRange hi
  have close := ok 4 (by decide)
  have moisture := ok 5 (by decide)
  have markP1 := ok 6 (by decide)
  have markP2 := ok 7 (by decide)
  simp only [Geometry.itemOk, decide_eq_true_eq] at close moisture markP1 markP2
  have ordered := Geometry.ordered inRange drops
  have dropOf : ∀ (b d : Nat), g.drops[b]? = some d → g.sawLine < d ∧ d < g.runOut := fun b d at_ => by
    have within : b < 48 := drops ▸ (List.getElem?_eq_some_iff.mp at_).1
    obtain ⟨above, below, same⟩ := ordered.drops b within
    rw [same] at at_
    cases at_
    exact ⟨above, below⟩
  have first := ordered.drops 0 (by decide)
  exact ⟨moisture, close.1, by omega, by omega, ordered.saw, dropOf, by omega⟩

theorem dropAt_none {g : Geometry} {pos : Nat} (apart : ∀ (b d : Nat), g.drops[b]? = some d → d ≠ pos) (u : State) (lug : LugNo) :
    dropAt g pos u lug = none := by
  unfold dropAt
  rw [Option.filter_eq_none_iff]
  intro b _
  cases at_ : g.drops[b]? with
  | none => simp
  | some d => simpa using apart b d at_

theorem onlyIf_eq {pos offset : Nat} (here : pos = offset) (f : State → State) (u : State) :
    onlyIf (pos == offset) f u = f u := if_pos (beq_iff_eq.mpr here)

theorem onlyIf_ne {pos offset : Nat} (away : pos ≠ offset) (f : State → State) (u : State) :
    onlyIf (pos == offset) f u = u := if_neg (by simpa using away)

end Sys2Proof.Machine
end

section
/-! PROOF. The governor's step at an advance (R155 to R160), and the admission of a blocked eye (R14, R15, R30, R161). -/

namespace Sys2Proof.Machine

/-! ### The governor (R155 to R160) -/

/-- A FILL sampled, the gap target adjusted, and the next phase (R158 to R160). -/
theorem endPhase_fill {r : GovernorRow} {bins : List Bin} {g : Governor} (phase : g.phase = .fill) :
    let pressed := bins.countP (Bin.pressed r.margin)
    let found := decide (r.binPressure ≤ pressed) || g.pressure
    let target := r.adjust found g.g
    g.endPhase r bins = { g with
      sample := some ⟨pressed, g.pressure, found⟩, g := target
      phase := if 0 < target then .gap else .fill
      remaining := if 0 < target then target else r.window } := by
  unfold Governor.endPhase
  rw [phase]
  dsimp only
  generalize r.adjust _ g.g = target
  by_cases rises : 0 < target
  · simp only [if_pos rises]
  · simp only [if_neg rises]

theorem phaseEnded_iff (r : GovernorRow) (bins : List Bin) (g e : Governor) :
    PhaseEnded r bins g e ↔ e = g.endPhase r bins := by
  have pressed : (fun b : Bin => decide (b.state = .opened ∧ b.capacity ≤ b.count + b.reserved + r.margin)) =
      Bin.pressed r.margin := by
    funext b
    simp [Bin.pressed]
  have sampled : ∀ found : Bool, (found = true ↔ r.binPressure ≤ bins.countP (Bin.pressed r.margin) ∨ g.pressure = true) ↔
      found = (decide (r.binPressure ≤ bins.countP (Bin.pressed r.margin)) || g.pressure) := fun found => by
    constructor
    · intro h
      rw [Bool.eq_iff_iff, h]
      simp
    · rintro rfl
      simp
  unfold PhaseEnded
  rw [pressed]
  cases phase : g.phase with
  | gap => simp [Governor.endPhase, phase]
  | fill =>
    rw [endPhase_fill phase]
    simp only [reduceCtorEq, false_implies, true_and, forall_const]
    constructor
    · rintro ⟨n, found, target, rfl, same, rfl, rfl⟩
      obtain rfl := (sampled found).mp same
      rfl
    · rintro rfl
      exact ⟨_, _, _, rfl, (sampled _).mpr rfl, rfl, rfl⟩

theorem frame_governor {s u : State} (frame : u = { s with
    chain := u.chain, scan := u.scan, moisture := u.moisture, line := u.line }) (e : Governor) :
    ({ u with governor := e } : State) = { s with
      chain := u.chain, scan := u.scan, moisture := u.moisture, line := u.line, governor := e } := by
  rw [frame]

theorem stepGovernor_held {u : State} (held : u.governor.causes.any = true) : stepGovernor u = u := if_pos held

theorem stepGovernor_free {u : State} {x : BankId} {r : GovernorRow} (free : u.governor.causes.any = false)
    (active : u.activeBank = some x) (row : (u.bank x).governor.rows.head? = some r) :
    stepGovernor u = { u with governor := u.governor.step r u.bins u.chain.lug } := by
  unfold stepGovernor
  rw [if_neg (by simp [free]), active]
  simp only [Option.bind_some, Bank.governorRow, row]
  rfl

/-- The LUG message goes by the bank store and what has been sent before (R28). -/
theorem sendLug_told {s t : State} (lug : LugNo) (store : t.store = s.store) (sent : t.scan.lugSent = s.scan.lugSent) :
    (sendLug lug t).scan.lugSent = (sendLug lug s).scan.lugSent := by
  have active : t.activeBank = s.activeBank := by rw [State.activeBank, store]; rfl
  have bank : ∀ x, t.bank x = s.bank x := fun x => by cases x <;> simp only [State.bank, store]
  unfold sendLug
  rw [active]
  cases s.activeBank with
  | none => exact sent
  | some x => simp only [State.onScan, bank, sent]

/-- The state at an advance before the admission, with no activation pending. -/
def State.broughtOn (c : Count) (good eye : Bool) (s : State) : State :=
  { s with
    chain := { s.chain with
      lug := s.chain.lug + 1, c0 := c, goodRun := if good then min 255 (s.chain.goodRun + 1) else s.chain.goodRun }
    scan := { s.scan with eye, lugSent := (sendLug (s.chain.lug + 1) s).scan.lugSent } }

theorem arrived_eq (c : Count) (good eye : Bool) (s : State) :
    s.arrived c good eye = ageMoisture (admitPiece c eye (s.broughtOn c good eye)) := by
  have sent : ∀ t : State, t.store = s.store → t.scan.lugSent = s.scan.lugSent → sendLug (s.chain.lug + 1) t =
      { t with scan := { t.scan with lugSent := (sendLug (s.chain.lug + 1) s).scan.lugSent } } := fun t store sent => by
    rw [← sendLug_told (t := t) _ store sent]; exact sendLug_eq _ _
  exact congrArg (fun t => ageMoisture (admitPiece c eye t)) (sent _ rfl rfl)

/-- A good edge with the scan eye clear does not read the governor before the governor's own step. -/
theorem arrived_governor (s : State) (e : Governor) :
    ({ s with governor := e } : State).disarmed.arrived s.chain.count true false =
      { s.disarmed.arrived s.chain.count true false with governor := e } := by
  have told : ({ s with governor := e } : State).disarmed.broughtOn s.chain.count true false =
      { s.disarmed.broughtOn s.chain.count true false with governor := e } := by
    unfold State.broughtOn
    rw [sendLug_told (s := s.disarmed) (t := State.disarmed { s with governor := e }) _ rfl rfl]
    rfl
  rw [arrived_eq, arrived_eq, told, admitPiece_unblocked, admitPiece_unblocked]
  rfl

theorem endPhase_causes (r : GovernorRow) (bins : List Bin) (g : Governor) : (g.endPhase r bins).causes = g.causes := by
  cases phase : g.phase with
  | gap => unfold Governor.endPhase; rw [phase]
  | fill => rw [endPhase_fill phase]

/-- The decision for the next lug, with advances left in the phase (R155, R159). -/
def Governor.decided (lug : LugNo) (g : Governor) : Governor :=
  { g with
    permit := g.phase == .fill
    record := (g.record ++ [(lug + 1, g.phase == .fill)]).drop (g.record.length + 1 - 2)
    remaining := g.remaining - 1 }

theorem step_within {r : GovernorRow} {bins : List Bin} {lug : LugNo} {g : Governor} (left : 0 < g.remaining) :
    g.step r bins lug = if g.remaining - 1 = 0 then (g.decided lug).endPhase r bins else g.decided lug := by
  have decided : (g.record ++ [(lug + 1, g.phase == .fill)]).length = g.record.length + 1 := by simp
  unfold Governor.step Governor.permitFor Governor.decided
  rw [if_neg (Nat.ne_of_gt left), ← decided]

/-- A phase with no advance left ends before the decision (R159). -/
theorem step_ended {r : GovernorRow} {bins : List Bin} {lug : LugNo} {g : Governor} (spent : g.remaining = 0)
    (left : 0 < (g.endPhase r bins).remaining) : g.step r bins lug = (g.endPhase r bins).step r bins lug := by
  unfold Governor.step
  rw [if_pos spent, if_neg (Nat.ne_of_gt left)]

/-- Settles O20. -/
theorem governorSteps : Obligations.GovernorSteps := by
  intro s g x r good empty settled active row
  obtain ⟨arrived, line, _, _, _⟩ := arrived_unblocked s
  have other := arrived_governor s
  have run := lugEdge_eq good settled false
  generalize s.disarmed.arrived s.chain.count true false = u at arrived line run other
  have pieces : u.chain.pieces = [] := by rw [arrived.chain]; exact empty
  have blocks : u.governor = s.governor ∧ u.bins = s.bins ∧ u.store = s.store := by rw [arrived.frame]; exact ⟨rfl, rfl, rfl⟩
  obtain ⟨governor, bins, store⟩ := blocks
  have activeNow : u.activeBank = some x := by rw [← active, State.activeBank, store]; rfl
  have rowNow : (u.bank x).governor.rows.head? = some r := by
    have same : u.bank x = s.bank x := by cases x <;> simp only [State.bank, store]
    rw [same]; exact row
  have lug : u.chain.lug = s.chain.lug + 1 := by rw [arrived.chain]
  have frame : u = { s with chain := u.chain, scan := u.scan, moisture := u.moisture } := by
    have whole := arrived.frame
    rw [line] at whole
    exact whole
  rw [runStations_none pieces] at run
  refine ⟨fun held => ?held, fun e free spent ended left => ?ended, fun free left => ?within⟩
  case held =>
    rw [stepGovernor_held (by rw [governor]; exact held)] at run
    exact ⟨u, run, governor, frame⟩
  case ended =>
    obtain rfl := (phaseEnded_iff r s.bins s.governor e).mp ended
    have run' := lugEdge_eq (s := { s with governor := s.governor.endPhase r s.bins }) (g := g) good settled false
    have other := other (s.governor.endPhase r s.bins)
    rw [show ({ s with governor := s.governor.endPhase r s.bins } : State).chain.count = s.chain.count from rfl, other,
      runStations_none (u := { u with governor := s.governor.endPhase r s.bins }) pieces,
      stepGovernor_free (u := { u with governor := s.governor.endPhase r s.bins })
        ((congrArg HoldCauses.any (endPhase_causes r s.bins s.governor)).trans free) activeNow rowNow] at run'
    rw [run, run', stepGovernor_free (by rw [governor]; exact free) activeNow rowNow, governor, bins]
    dsimp only
    rw [step_ended spent left]
  case within =>
    have stepped : u.governor.step r u.bins u.chain.lug = if s.governor.remaining - 1 = 0
        then (s.governor.decided (s.chain.lug + 1)).endPhase r s.bins else s.governor.decided (s.chain.lug + 1) := by
      rw [governor, bins, lug, step_within left]
    rw [stepGovernor_free (by rw [governor]; exact free) activeNow rowNow, stepped] at run
    have second : s.chain.lug + 1 + 1 = s.chain.lug + 2 := by rw [BitVec.add_assoc]; rfl
    refine ⟨_, s.governor.decided (s.chain.lug + 1), run, ?_, fun more => if_neg (by omega), fun last => ?_, ?_⟩
    · unfold Governor.decided
      rw [second]
    · rw [phaseEnded_iff]
      exact if_pos (by omega)
    · exact (frame_governor arrived.frame _).trans (by rw [line])

/-! ### The admission (R14, R15, R161) -/

theorem weighAdmission_eq (lug : LugNo) (u : State) : weighAdmission lug u = { u with
    line := { u.line with counters := if (lug, true) ∉ u.governor.record then
      { u.line.counters with fillDuringHold := u.line.counters.fillDuringHold.bump } else u.line.counters } } := by
  unfold weighAdmission Governor.given
  by_cases given : (lug, true) ∈ u.governor.record
  · rw [if_pos (decide_eq_true given), if_neg (not_not.mpr given)]
  · rw [if_neg (by simpa using given), if_pos given]
    rfl

/-- A good edge with the scan eye blocked brings every piece on and admits one (R14, R15, R30). -/
theorem arrived_blocked {s : State} {x : BankId} (active : s.activeBank = some x) :
    let u := s.disarmed.arrived s.chain.count true true
    Arrived s u (s.chain.pieces ++ [Piece.admitted (s.chain.lug + 1) s.chain.count x s.chain.suspect]) ∧
    u.chain.admitted = s.chain.admitted + 1 ∧
    u.scan.history = (s.scan.history ++ [(s.chain.lug + 1, true)]).drop (s.scan.history.length + 1 - 128) ∧
    u.line.counters = (if (s.chain.lug + 1, true) ∉ s.governor.record then
      { s.line.counters with fillDuringHold := s.line.counters.fillDuringHold.bump } else s.line.counters) ∧
    u.scan.eye = true := by
  have admitted := admitPiece_blocked s.chain.count (s := s.disarmed.broughtOn s.chain.count true true) (x := x) active
  rw [recordHistory_eq, weighAdmission_eq] at admitted
  rw [arrived_eq, admitted]
  refine ⟨⟨rfl, rfl, rfl, rfl, rfl⟩, rfl, ?_, rfl, rfl⟩
  dsimp only [ageMoisture, State.onMoisture, State.onChain, State.disarmed, State.broughtOn]

/-- Every station but the scan and the moisture station is past position 0 (R178). -/
theorem Geometry.past_admission {g : Geometry} (inRange : g.firstBad = none) :
    0 < g.closeOffset ∧ 0 < g.markP1 ∧ 0 < g.markP2 ∧ 0 < g.commit ∧ 0 < g.sawLine ∧ 0 < g.runOut := by
  have ok : ∀ i, i < 70 → g.itemOk i = true := fun i hi => Geometry.itemOk_of_inRange inRange hi
  have close := ok 4 (by decide)
  have markP1 := ok 6 (by decide)
  have markP2 := ok 7 (by decide)
  have commit := ok 8 (by decide)
  have saw := ok 9 (by decide)
  have drop := ok 12 (by decide)
  have runOut := ok 62 (by decide)
  simp only [Geometry.itemOk, decide_eq_true_eq, Bool.and_eq_true, List.all_eq_true] at close markP1 markP2 commit saw drop runOut
  have there : g.drops.getD 0 0 ∈ g.drops := by
    cases first : g.drops with
    | nil => rw [first] at drop; exact absurd drop.1 (by simp)
    | cons d ds => simp
  have last := runOut.1 _ there
  omega

theorem dropAt_unbound {u : State} {lug : LugNo} {p : Piece} (found : u.piece? lug = some p) (unbound : p.dest = none)
    (g : Geometry) (pos : Nat) : dropAt g pos u lug = none := by
  unfold dropAt
  rw [found, Option.bind_some, Piece.reservedBin, unbound]
  rfl

/-- A piece just admitted stands at no station but the scan station, and at the moisture station when that is at 0 (R13). -/
theorem visitStations_admitted {g : Geometry} {u : State} {lug : LugNo} {p : Piece} (inRange : g.firstBad = none)
    (found : u.piece? lug = some p) (unbound : p.dest = none) (fresh : u.position lug = 0) (c : Count) :
    visitStations g c u lug = onlyIf (0 == g.moistureOffset) (triggerMoisture lug) u := by
  obtain ⟨close, markP1, markP2, commit, saw, runOut⟩ := Geometry.past_admission inRange
  have foundNow : (onlyIf (0 == g.moistureOffset) (triggerMoisture lug) u).piece? lug = some p := by
    rw [onlyIf_keeps (State.piece? · lug) _ _ _ fun t => by simp [State.piece?], found]
  unfold visitStations
  dsimp only
  rw [fresh, onlyIf_ne (Nat.ne_of_lt close), onlyIf_ne (Nat.ne_of_lt markP1), onlyIf_ne (Nat.ne_of_lt markP2),
    onlyIf_ne (Nat.ne_of_lt commit), onlyIf_ne (Nat.ne_of_lt saw), dropAt_unbound foundNow unbound, Option.elim_none,
    onlyIf_ne (Nat.ne_of_lt runOut)]

/-- A good edge with the scan eye blocked on an empty queue: the piece admitted visits the stations. -/
theorem lugEdge_admits {s : State} {g : Geometry} {x : BankId} (good : EdgeGood s g) (inRange : g.firstBad = none)
    (empty : s.chain.pieces = []) (settled : s.store.pendingBank = none) (active : s.activeBank = some x) :
    ∃ u, exec (.lugEdge true) s =
        .next (stepGovernor (onlyIf (0 == g.moistureOffset) (triggerMoisture (s.chain.lug + 1)) u)) ∧
      Arrived s u [Piece.admitted (s.chain.lug + 1) s.chain.count x s.chain.suspect] ∧
      u.chain.admitted = s.chain.admitted + 1 ∧
      u.scan.history = (s.scan.history ++ [(s.chain.lug + 1, true)]).drop (s.scan.history.length + 1 - 128) ∧
      u.line.counters = (if (s.chain.lug + 1, true) ∉ s.governor.record then
        { s.line.counters with fillDuringHold := s.line.counters.fillDuringHold.bump } else s.line.counters) := by
  obtain ⟨arrived, admitted, history, counters, _⟩ := arrived_blocked active
  rw [empty, List.nil_append] at arrived
  have run := lugEdge_eq good settled true
  generalize s.disarmed.arrived s.chain.count true true = u at arrived admitted history counters run
  have pieces : u.chain.pieces = [Piece.admitted (s.chain.lug + 1) s.chain.count x s.chain.suspect] := by
    rw [arrived.chain]
  have loaded : u.store.geometry = some g := by rw [arrived.frame]; exact good.1.2.2.1
  have fresh : u.position (s.chain.lug + 1) = 0 := by
    rw [State.position, arrived.chain]
    exact (congrArg BitVec.toNat (BitVec.sub_self _)).trans rfl
  have found : u.piece? (s.chain.lug + 1) = some (Piece.admitted (s.chain.lug + 1) s.chain.count x s.chain.suspect) :=
    piece?_alone pieces
  rw [runStations_one loaded pieces] at run
  exact ⟨u, run.trans (congrArg (fun t => Host.Outcome.next (stepGovernor t))
    (visitStations_admitted inRange found rfl fresh _)), arrived, admitted, history, counters⟩

/-- Settles O16. -/
theorem blockedEyeAdmits : Obligations.BlockedEyeAdmits := by
  intro s g x eye good inRange offset empty settled active
  cases eye with
  | false =>
    obtain ⟨arrived, line, admitted, history, _⟩ := arrived_unblocked s
    have run := lugEdge_eq good settled false
    generalize s.disarmed.arrived s.chain.count true false = u at arrived line admitted history run
    rw [runStations_none (by rw [arrived.chain]; exact empty), stepGovernor_eq] at run
    refine ⟨_, run, ?_, ?_, ?_, history, ?_, frame_governor arrived.frame _⟩
    · exact (congrArg Chain.pieces arrived.chain).trans empty
    · simpa using admitted
    · exact (congrArg Chain.finished arrived.chain :)
    · simpa using congrArg Line.counters line
  | true =>
    obtain ⟨u, run, arrived, admitted, history, counters⟩ := lugEdge_admits good inRange empty settled active
    rw [onlyIf_ne (Nat.ne_of_lt offset), stepGovernor_eq] at run
    refine ⟨_, run, congrArg Chain.pieces arrived.chain, admitted, (congrArg Chain.finished arrived.chain :), history, ?_,
      frame_governor arrived.frame _⟩
    simpa using counters

end Sys2Proof.Machine
end

section
/-! SUPPORT. What a lug advance leaves beyond the stations, and the station a piece stands at (R11, R13, R28, R43). -/

namespace Sys2Proof.Machine

/-! ### What no station changes -/

/-- The parts of a state that no station touches, but the chain's course: the scan eye, the LUG messages, the held
readings and their ages, the logs, the bank store and the commands that wait. -/
def State.beyondStations (s : State) :
    Bool × List (Option LugNo) × List Nat × List (Option Nat) × Logs × Store × List Instr :=
  (s.scan.eye, s.scan.lugSent, s.moisture.ages, s.moisture.held, s.logs, s.store, s.pending)

theorem beyondStations_of_blocks {s t : State} (scan : t.scan = s.scan) (moisture : t.moisture = s.moisture)
    (logs : t.logs = s.logs) (store : t.store = s.store) (pending : t.pending = s.pending) :
    t.beyondStations = s.beyondStations := by
  simp only [State.beyondStations, scan, moisture, logs, store, pending]

section

variable (s : State)

theorem closeProfile_scan (lug : LugNo) (cause : CloseCause) :
    (closeProfile lug cause s).scan = { s.scan with buffers := (closeProfile lug cause s).scan.buffers } := by
  unfold closeProfile
  repeat' split
  · rfl
  · simp
  · rfl

theorem triggerMoisture_moisture (lug : LugNo) : (triggerMoisture lug s).moisture = { s.moisture with
    converter := (triggerMoisture lug s).moisture.converter, skipped := (triggerMoisture lug s).moisture.skipped } := by
  unfold triggerMoisture
  dsimp only
  repeat' split
  all_goals rfl

theorem visitStations_beyond (g : Geometry) (c : Count) (lug : LugNo) :
    (visitStations g c s lug).beyondStations = s.beyondStations := by
  have moisture : ∀ t, (triggerMoisture lug t).beyondStations = t.beyondStations := fun t => by
    simp only [State.beyondStations, triggerMoisture_frame]
    rw [triggerMoisture_moisture]
  have closed : ∀ t, (closeProfile lug .closeOffset t).beyondStations = t.beyondStations := fun t => by
    simp only [State.beyondStations, closeProfile_frame]
    rw [closeProfile_scan]
  have marked : ∀ p t, (markPiece p lug t).beyondStations = t.beyondStations := fun p t =>
    beyondStations_of_blocks (by simp) (by simp) (by simp) (by simp) (by simp)
  have committed : ∀ t, (commitPiece g c lug t).beyondStations = t.beyondStations := fun t =>
    beyondStations_of_blocks (by simp) (by simp) (by simp) (by simp) (by simp)
  have sawn : ∀ t, (passSaw lug t).beyondStations = t.beyondStations := fun t =>
    beyondStations_of_blocks (by simp) (by simp) (by simp) (by simp) (by simp)
  have dropped : ∀ b t, (dropPiece b lug t).beyondStations = t.beyondStations := fun b t =>
    beyondStations_of_blocks (by simp) (by simp) (by simp) (by simp) (by simp)
  have ended : ∀ t, (runOutPiece lug t).beyondStations = t.beyondStations := fun t =>
    beyondStations_of_blocks (by simp) (by simp) (by simp) (by simp) (by simp)
  unfold visitStations
  dsimp only
  rw [onlyIf_keeps State.beyondStations _ _ _ ended]
  have stations : (onlyIf (s.position lug == g.sawLine) (passSaw lug) (onlyIf (s.position lug == g.commit) (commitPiece g c lug)
      (onlyIf (s.position lug == g.markP2) (markPiece .p2 lug) (onlyIf (s.position lug == g.markP1) (markPiece .p1 lug)
      (onlyIf (s.position lug == g.closeOffset) (closeProfile lug .closeOffset)
      (onlyIf (s.position lug == g.moistureOffset) (triggerMoisture lug) s)))))).beyondStations = s.beyondStations := by
    rw [onlyIf_keeps State.beyondStations _ _ _ sawn, onlyIf_keeps State.beyondStations _ _ _ committed,
      onlyIf_keeps State.beyondStations _ _ _ (marked _), onlyIf_keeps State.beyondStations _ _ _ (marked _),
      onlyIf_keeps State.beyondStations _ _ _ closed, onlyIf_keeps State.beyondStations _ _ _ moisture]
  cases dropAt g _ _ lug with
  | none => exact stations
  | some b => exact (dropped b _).trans stations

theorem runStations_beyond (c : Count) : (runStations c s).beyondStations = s.beyondStations := by
  unfold runStations
  split
  · rfl
  · exact foldl_keeps State.beyondStations _ (fun t lug => visitStations_beyond t _ c lug) _ s

theorem admitPiece_beyond (c : Count) (eye : Bool) : (admitPiece c eye s).beyondStations = s.beyondStations := by
  have noted : ∀ lug b t, (recordHistory lug b t).beyondStations = t.beyondStations := fun lug b t => by
    rw [recordHistory_eq]
    dsimp only [State.beyondStations]
  have weighed : ∀ lug t, (weighAdmission lug t).beyondStations = t.beyondStations := fun lug t => by
    unfold weighAdmission; split <;> rfl
  unfold admitPiece
  split
  · rw [noted, weighed]; rfl
  · rw [noted]

/-- An advance beyond the stations: the scan eye is read, the LUG message sent by the bank now active, every held reading
ages, and a pending activation is taken (R11, R28, R43, R181). -/
theorem lugAdvance_beyond (c : Count) (good eye : Bool) : ∃ u : State, u.store = (takePending (s.onChain fun ch =>
      { ch with lug := ch.lug + 1, c0 := c, goodRun := if good then min 255 (ch.goodRun + 1) else ch.goodRun })).store ∧
    u.scan.lugSent = s.scan.lugSent ∧
    (lugAdvance c good eye s).beyondStations =
      (eye, (sendLug (s.chain.lug + 1) u).scan.lugSent, s.moisture.ages.map (fun a => min 255 (a + 1)), s.moisture.held,
        s.logs, u.store, s.pending) := by
  have stepped : ∀ t, (stepGovernor t).beyondStations = t.beyondStations := fun t =>
    beyondStations_of_blocks (by simp) (by simp) (by simp) (by simp) (by simp)
  have sent : ∀ (lug : LugNo) (t : State), (sendLug lug t).scan.eye = t.scan.eye := fun lug t => by rw [sendLug_eq]
  unfold lugAdvance
  dsimp only
  generalize taken : takePending (s.onChain _) = v
  have blocks : v.chain.lug = s.chain.lug + 1 ∧ v.scan = s.scan ∧ v.moisture = s.moisture ∧ v.logs = s.logs ∧
      v.pending = s.pending := by rw [← taken]; simp
  obtain ⟨lug, scan, moisture, logs, pending⟩ := blocks
  refine ⟨v.onScan fun x => { x with eye }, rfl, (congrArg Scan.lugSent scan :), ?_⟩
  have aged : ∀ t : State, (ageMoisture t).beyondStations = (t.scan.eye, t.scan.lugSent,
      t.moisture.ages.map (fun a => min 255 (a + 1)), t.moisture.held, t.logs, t.store, t.pending) := fun _ => rfl
  rw [stepped, runStations_beyond, aged]
  have admitted := admitPiece_beyond (sendLug v.chain.lug (v.onScan fun x => { x with eye })) c eye
  simp only [State.beyondStations, Prod.mk.injEq] at admitted
  obtain ⟨e, l, a, h, lg, st, pd⟩ := admitted
  rw [e, l, a, h, lg, st, pd, sent, lug]
  simp [moisture, logs, pending]

end

/-! ### The station a piece stands at (R13, R178) -/

section

variable {g : Geometry} {u : State} {lug : LugNo}

theorem visitStations_moisture (stations : g.Stations) (c : Count) (here : u.position lug = g.moistureOffset)
    (before : g.moistureOffset < g.closeOffset) : visitStations g c u lug = triggerMoisture lug u := by
  obtain ⟨_, close, markP1, markP2, saw, drops, runOut⟩ := stations
  unfold visitStations
  dsimp only
  rw [here, onlyIf_eq rfl, onlyIf_ne (offset := g.closeOffset) (by omega), onlyIf_ne (offset := g.markP1) (by omega),
    onlyIf_ne (offset := g.markP2) (by omega), onlyIf_ne (offset := g.commit) (by omega),
    onlyIf_ne (offset := g.sawLine) (by omega), dropAt_none (fun b d at_ => by have := drops b d at_; omega),
    Option.elim_none, onlyIf_ne (offset := g.runOut) (by omega)]

theorem visitStations_close (stations : g.Stations) (c : Count) (here : u.position lug = g.closeOffset) :
    visitStations g c u lug =
      closeProfile lug .closeOffset (onlyIf (g.closeOffset == g.moistureOffset) (triggerMoisture lug) u) := by
  obtain ⟨_, close, markP1, markP2, saw, drops, runOut⟩ := stations
  unfold visitStations
  dsimp only
  rw [here, onlyIf_eq (offset := g.closeOffset) rfl, onlyIf_ne (offset := g.markP1) (by omega),
    onlyIf_ne (offset := g.markP2) (by omega), onlyIf_ne (offset := g.commit) (by omega),
    onlyIf_ne (offset := g.sawLine) (by omega), dropAt_none (fun b d at_ => by have := drops b d at_; omega),
    Option.elim_none, onlyIf_ne (offset := g.runOut) (by omega)]

theorem visitStations_mark (stations : g.Stations) (c : Count) {pos : Nat} (here : u.position lug = pos)
    (between : g.closeOffset < pos ∧ pos < g.commit) : visitStations g c u lug =
      onlyIf (pos == g.markP2) (markPiece .p2 lug) (onlyIf (pos == g.markP1) (markPiece .p1 lug) u) := by
  obtain ⟨moisture, close, _, _, saw, drops, runOut⟩ := stations
  unfold visitStations
  dsimp only
  rw [here, onlyIf_ne (offset := g.moistureOffset) (by omega), onlyIf_ne (offset := g.closeOffset) (by omega),
    onlyIf_ne (offset := g.commit) (by omega), onlyIf_ne (offset := g.sawLine) (by omega),
    dropAt_none (fun b d at_ => by have := drops b d at_; omega), Option.elim_none, onlyIf_ne (offset := g.runOut) (by omega)]

theorem visitStations_commit (stations : g.Stations) (c : Count) (here : u.position lug = g.commit) :
    visitStations g c u lug = commitPiece g c lug u := by
  obtain ⟨moisture, close, markP1, markP2, saw, drops, runOut⟩ := stations
  unfold visitStations
  dsimp only
  rw [here, onlyIf_ne (offset := g.moistureOffset) (by omega), onlyIf_ne (offset := g.closeOffset) (by omega),
    onlyIf_ne (offset := g.markP1) (by omega), onlyIf_ne (offset := g.markP2) (by omega), onlyIf_eq (offset := g.commit) rfl,
    onlyIf_ne (offset := g.sawLine) (by omega), dropAt_none (fun b d at_ => by have := drops b d at_; omega),
    Option.elim_none, onlyIf_ne (offset := g.runOut) (by omega)]

theorem visitStations_saw (stations : g.Stations) (c : Count) (here : u.position lug = g.sawLine) :
    visitStations g c u lug = passSaw lug u := by
  obtain ⟨moisture, close, markP1, markP2, saw, drops, runOut⟩ := stations
  unfold visitStations
  dsimp only
  rw [here, onlyIf_ne (offset := g.moistureOffset) (by omega), onlyIf_ne (offset := g.closeOffset) (by omega),
    onlyIf_ne (offset := g.markP1) (by omega), onlyIf_ne (offset := g.markP2) (by omega),
    onlyIf_ne (offset := g.commit) (by omega), onlyIf_eq (offset := g.sawLine) rfl,
    dropAt_none (fun b d at_ => by have := drops b d at_; omega), Option.elim_none, onlyIf_ne (offset := g.runOut) (by omega)]

theorem visitStations_drop (stations : g.Stations) (c : Count) {p : Piece} {b d : Nat} (here : u.position lug = d)
    (found : u.piece? lug = some p) (bound : p.dest = some (.bin b)) (drop : g.drops[b]? = some d) :
    visitStations g c u lug = dropPiece b lug u := by
  obtain ⟨moisture, close, markP1, markP2, saw, drops, runOut⟩ := stations
  have between := drops b d drop
  have taken : dropAt g d u lug = some b := by
    unfold dropAt
    rw [found, Option.bind_some, Piece.reservedBin, bound]
    exact Option.filter_eq_some_iff.mpr ⟨rfl, by rw [drop]; exact beq_self_eq_true _⟩
  unfold visitStations
  dsimp only
  rw [here, onlyIf_ne (offset := g.moistureOffset) (by omega), onlyIf_ne (offset := g.closeOffset) (by omega),
    onlyIf_ne (offset := g.markP1) (by omega), onlyIf_ne (offset := g.markP2) (by omega),
    onlyIf_ne (offset := g.commit) (by omega), onlyIf_ne (offset := g.sawLine) (by omega), taken, Option.elim_some,
    onlyIf_ne (offset := g.runOut) (by omega)]

theorem visitStations_runOut (stations : g.Stations) (c : Count) (here : u.position lug = g.runOut) :
    visitStations g c u lug = runOutPiece lug u := by
  obtain ⟨moisture, close, markP1, markP2, saw, drops, runOut⟩ := stations
  unfold visitStations
  dsimp only
  rw [here, onlyIf_ne (offset := g.moistureOffset) (by omega), onlyIf_ne (offset := g.closeOffset) (by omega),
    onlyIf_ne (offset := g.markP1) (by omega), onlyIf_ne (offset := g.markP2) (by omega),
    onlyIf_ne (offset := g.commit) (by omega), onlyIf_ne (offset := g.sawLine) (by omega),
    dropAt_none (fun b d at_ => by have := drops b d at_; omega), Option.elim_none, onlyIf_eq (offset := g.runOut) rfl]

end

end Sys2Proof.Machine
end

section
/-! PROOF. A good lug edge is an advance, with the moisture, close and mark stations (O14). -/

namespace Sys2Proof.Machine

/-! ### The state by its bank store -/

theorem activeBank_of_store {s t : State} (store : t.store = s.store) : t.activeBank = s.activeBank := by
  rw [State.activeBank, store]; rfl

theorem bank_of_store {s t : State} (store : t.store = s.store) (x : BankId) : t.bank x = s.bank x := by
  cases x <;> simp only [State.bank, store]

theorem takeActivation_store (x : BankId) (s : State) : (takeActivation x s).store = (s.activated x).store := by
  have adopted : ((s.activated x).adopted x).store = (s.activated x).store := by
    unfold State.adopted
    cases ((s.activated x).bank x).governorRow <;> simp
  rw [takeActivation_eq]
  simp [adopted]

/-- After the pending activation, if any, is taken: none is pending, and the bank that was is the active one (R181). -/
theorem takePending_store (s : State) : (takePending s).store.pendingBank = none ∧
    (∀ x, s.store.pendingBank = some x → (takePending s).activeBank = some x) ∧
    (s.store.pendingBank = none → (takePending s).store = s.store) ∧
    (takePending s).store.geometry = s.store.geometry := by
  unfold takePending
  cases pending : s.store.pendingBank with
  | none => exact ⟨pending, fun x h => (by cases h), fun _ => rfl, rfl⟩
  | some x =>
    have store := takeActivation_store x s
    obtain ⟨_, none, geometry⟩ := activated_store x s
    refine ⟨?_, fun y same => ?_, fun h => (by cases h), ?_⟩
    · exact (congrArg Store.pendingBank store).trans none
    · cases same
      exact (activeBank_of_store store).trans (activated_activeBank x s)
    · exact (congrArg Store.geometry store).trans geometry

/-- The LUG message goes to every head that the active bank maps (R28). -/
theorem sendLug_lugSent {u : State} {x : BankId} {h : Nat} (lug : LugNo) (active : u.activeBank = some x)
    (head : h < u.scan.lugSent.length) : (sendLug lug u).scan.lugSent[h]? =
      if ((u.bank x).headRun h).isSome then some (some lug) else u.scan.lugSent[h]? := by
  have sent : (sendLug lug u).scan.lugSent = u.scan.lugSent.zipIdx.map fun (old, h) =>
      if ((u.bank x).headRun h).isSome then some lug else old := by
    unfold sendLug
    rw [active]
    rfl
  rw [sent, List.getElem?_map, List.getElem?_zipIdx, List.getElem?_eq_getElem head]
  simp only [Option.map_some, Nat.zero_add]
  split <;> rfl

/-! ### The moisture station (R41) -/

theorem triggerMoisture_station {u : State} {lug : LugNo} {p : Piece} (found : u.piece? lug = some p) :
    let channels := (List.range 4).filter fun c => ((u.bank p.bank).channel c).isSome
    (triggerMoisture lug u).moisture = { u.moisture with
      converter := if channels ≠ [] ∧ u.moisture.converter = none then some ⟨lug, p.bank, channels⟩ else u.moisture.converter
      skipped := if channels ≠ [] ∧ u.moisture.converter ≠ none then u.moisture.skipped.bump else u.moisture.skipped } := by
  intro channels
  unfold triggerMoisture
  rw [found]
  dsimp only [Bank.enabledChannels]
  change (if channels.isEmpty = true then u else _ : State).moisture = _
  cases enabled : channels with
  | nil => rfl
  | cons c cs =>
    cases converter : u.moisture.converter with
    | none => simp; exact enabled
    | some _ => simp [converter]

/-- A piece brought to the moisture station by a good edge leaves the moisture unit as R41 and R43 say. -/
theorem Arrived.stationed {s u : State} {pieces : List Piece} {lug : LugNo} {p : Piece} (arrived : Arrived s u pieces)
    (found : u.piece? lug = some p) : (triggerMoisture lug u).moisture =
      s.moisture.stationed lug p.bank ((List.range 4).filter fun c => ((s.bank p.bank).channel c).isSome) := by
  have bank : u.bank p.bank = s.bank p.bank := bank_of_store (by rw [arrived.frame]) _
  rw [triggerMoisture_station found, bank, arrived.moisture]
  rfl

/-- The blocks that an advance has not changed before the stations act. -/
theorem Arrived.blocks {s u : State} {pieces : List Piece} (arrived : Arrived s u pieces) :
    u.solver = s.solver ∧ u.panels = s.panels ∧ u.output = s.output ∧ u.bins = s.bins ∧ u.logs = s.logs ∧
    u.tally = s.tally ∧ u.governor = s.governor ∧ u.link = s.link ∧ u.store = s.store ∧ u.pending = s.pending := by
  rw [arrived.frame]
  simp

theorem Arrived.triggered {s u : State} {pieces : List Piece} (arrived : Arrived s u pieces) (lug : LugNo) :
    triggerMoisture lug u = { s with
      chain := u.chain, scan := u.scan, moisture := (triggerMoisture lug u).moisture, line := u.line } := by
  apply State.eq_of_blocks <;> simp [arrived.blocks]

/-! ### The close station (R35, R36) -/

theorem ProfileClosed.congr {cause : CloseCause} {p w q : Piece} {s s' t t' : State} (h : ProfileClosed cause p w q s t)
    (solver : s'.solver = s.solver ∧ s'.line = s.line ∧ s'.bins = s.bins ∧ s'.panels = s.panels)
    (buffers : s'.scan.buffers = s.scan.buffers) (store : s'.store = s.store)
    (after : t'.solver = t.solver ∧ t'.line = t.line ∧ t'.panels = t.panels) (scan : t'.scan = t.scan) :
    ProfileClosed cause p w q s' t' := by
  obtain ⟨cells, status, record, asked, buffer⟩ := h
  refine ⟨cells, status, record, asked.congr solver after, ?_⟩
  rw [buffers, scan, bank_of_store store]
  exact buffer

/-! ### The mark stations (R78) -/

theorem markPiece_spec {u : State} {lug : LugNo} {x : Piece} (p : PanelId) (due : Bool) (found : u.piece? lug = some x) :
    (if (u.panels.port p).present = true ∧ due = true then
      (u.panels.port p).Gained ((onlyIf due (markPiece p lug) u).panels.port p) 1 ⟨0x23, (u.panels.port p).seq, x.putMark⟩
      else (onlyIf due (markPiece p lug) u).panels.port p = u.panels.port p) ∧
    (onlyIf due (markPiece p lug) u).panels.port (otherPanel p) = u.panels.port (otherPanel p) ∧
    (onlyIf due (markPiece p lug) u).panels.answers = u.panels.answers ∧
    onlyIf due (markPiece p lug) u = { u with panels := (onlyIf due (markPiece p lug) u).panels } := by
  cases due with
  | false => simp [onlyIf]
  | true =>
    have marked : markPiece p lug u = tellPanel p kindMark x.putMark u := by
      unfold markPiece
      rw [found]
    simp only [onlyIf, if_true, marked, and_true]
    exact tellPanel_spec p kindMark x.putMark u

/-! ### The good edge (R5, R11) -/

theorem lugEdge_advance {s : State} {g : Geometry} (eye : Bool) (good : EdgeGood s g) :
    exec (.lugEdge eye) s = .next (lugAdvance s.chain.count true eye s.disarmed) :=
  congrArg Host.Outcome.next (judgeEdge_good eye good)

/-- Settles O14. -/
theorem goodLugAdvances : Obligations.GoodLugAdvances := by
  refine ⟨fun s g eye good => ?advance, fun s g p channels station enabled => ?moisture,
    fun s g x channels good inRange zero empty settled active enabled => ?admitted, fun s g p station => ?close,
    fun s g p offset station at_ => ?mark⟩
  case advance =>
    refine ⟨_, lugEdge_advance eye good, ?_⟩
    obtain ⟨u, store, lugSent, beyond⟩ := lugAdvance_beyond s.disarmed s.chain.count true eye
    have chain := lugAdvance_chain s.disarmed s.chain.count true eye
    have line := lugAdvance_line s.disarmed s.chain.count true eye
    have aside := lugAdvance_aside s.disarmed s.chain.count true eye
    generalize lugAdvance s.chain.count true eye s.disarmed = t at beyond chain line aside
    simp only [State.beyondStations, Prod.mk.injEq] at beyond
    simp only [State.aside, Prod.mk.injEq] at aside
    obtain ⟨eyed, sent, ages, held, logs, storeNow, pending⟩ := beyond
    obtain ⟨entries, snapshot⟩ := aside
    obtain ⟨noneLeft, taken, untaken, geometry⟩ := takePending_store (s.disarmed.onChain fun ch =>
      { ch with lug := ch.lug + 1, c0 := s.chain.count, goodRun := if true then min 255 (ch.goodRun + 1) else ch.goodRun })
    rw [← store, ← storeNow] at noneLeft untaken geometry
    obtain ⟨_, hold, _, _⟩ := good.1
    refine ⟨(congrArg Chain.lug chain :), (congrArg Chain.c0 chain :), (congrArg Chain.goodRun chain :),
      (congrArg Chain.lockOn chain :), (congrArg Chain.count chain :), (congrArg Chain.highest chain :),
      (congrArg Chain.hold chain :).trans hold, (congrArg Chain.encError chain :), (congrArg Chain.encRun chain :),
      (congrArg Chain.suspect chain :), eyed, noneLeft, fun x was => ?_, untaken, fun x h now head => ?_, ages,
      held, logs, entries, line, geometry, snapshot, pending⟩
    · exact (activeBank_of_store (storeNow.trans store)).trans (taken x was)
    · rw [sent, bank_of_store storeNow]
      exact (sendLug_lugSent _ ((activeBank_of_store storeNow).symm.trans now) (by rw [lugSent]; exact head)).trans
        (by rw [lugSent]; rfl)
  case moisture =>
    obtain ⟨u, run, arrived, line, _, found, position⟩ := lugEdge_atStation station
    have stations := Geometry.stations station.inRange station.drops
    have moisture := arrived.stationed found
    rw [← enabled] at moisture
    refine ⟨_, run, ?_, fun before => ?_⟩
    · by_cases before : g.moistureOffset < g.closeOffset
      · rw [visitStations_moisture stations _ position before]
        simpa using moisture
      · have same : g.closeOffset = g.moistureOffset := by have := stations.moisture; omega
        rw [visitStations_close stations _ (position.trans same.symm), onlyIf_eq same]
        simpa using moisture
    · rw [visitStations_moisture stations _ position before]
      refine ⟨?_, ?_, ?_⟩
      · simp only [stepGovernor_frame, triggerMoisture_frame]
        exact (congrArg Chain.pieces arrived.chain :)
      · simp only [stepGovernor_frame, triggerMoisture_frame]
        exact arrived.scan
      · apply State.eq_of_blocks <;> simp [arrived.blocks, line]
  case admitted =>
    obtain ⟨u, run, arrived, _, _, _⟩ := lugEdge_admits good inRange empty settled active
    have found : u.piece? (s.chain.lug + 1) = some (Piece.admitted (s.chain.lug + 1) s.chain.count x s.chain.suspect) :=
      piece?_alone (p := Piece.admitted (s.chain.lug + 1) s.chain.count x s.chain.suspect) (by rw [arrived.chain])
    have moisture := arrived.stationed found
    rw [onlyIf_eq zero.symm] at run
    refine ⟨_, Piece.admitted (s.chain.lug + 1) s.chain.count x s.chain.suspect, run, ?_, rfl, rfl, rfl, rfl, ?_, ?_⟩
    · simp only [stepGovernor_frame, triggerMoisture_frame]
      exact (congrArg Chain.pieces arrived.chain :)
    · rw [enabled, (stepGovernor_frame _).2.2.1]; exact moisture
    · apply State.eq_of_blocks <;> simp [arrived.blocks]
  case close =>
    obtain ⟨u, run, arrived, line, _, found, position⟩ := lugEdge_atStation station
    have stations := Geometry.stations station.inRange station.drops
    rw [visitStations_close stations _ position] at run
    have same : ∀ v, v = onlyIf (g.closeOffset == g.moistureOffset) (triggerMoisture p.lug) u →
        v.piece? p.lug = some p ∧ v = { u with moisture := v.moisture } := fun v eq => by
      subst eq
      by_cases both : g.closeOffset = g.moistureOffset
      · rw [onlyIf_eq both]
        exact ⟨by simpa [State.piece?] using found, by apply State.eq_of_blocks <;> simp⟩
      · rw [onlyIf_ne both]
        exact ⟨found, rfl⟩
    generalize onlyIf (g.closeOffset == g.moistureOffset) (triggerMoisture p.lug) u = v at run same
    obtain ⟨foundNow, frame⟩ := same v rfl
    have blocks : v.chain = u.chain ∧ v.scan = u.scan ∧ v.solver = s.solver ∧ v.panels = s.panels ∧ v.output = s.output ∧
        v.bins = s.bins ∧ v.logs = s.logs ∧ v.tally = s.tally ∧ v.line = s.line ∧ v.link = s.link ∧ v.store = s.store ∧
        v.pending = s.pending := by
      rw [frame]
      simp [arrived.blocks, line]
    obtain ⟨chain, scan, solver, panels, output, bins, logs, tally, lineNow, link, store, pending⟩ := blocks
    have pieces : v.chain.pieces = [p] := by rw [chain, arrived.chain]
    refine ⟨_, run, fun scanning => ?_, fun closed => ?_, ?_⟩
    · obtain ⟨w, q, there, profile, _⟩ := closeProfile_spec .closeOffset foundNow scanning
      have one : (closeProfile p.lug .closeOffset v).chain.pieces.length = 1 := by
        have steady := congrArg (fun t : State => t.chain.pieces.length) (closeProfile_steady p.lug .closeOffset v)
        simpa [State.steady, pieces] using steady
      refine ⟨w, q, ?_, ?_⟩
      · rw [(stepGovernor_frame _).1]; exact pieces_alone one there
      · exact profile.congr ⟨solver.symm, lineNow.symm, bins.symm, panels.symm⟩
          (by rw [scan]; exact arrived.scan.symm) store.symm ⟨by simp, by simp, by simp⟩ (by simp)
    · have kept : closeProfile p.lug .closeOffset v = v := by
        unfold closeProfile
        rw [foundNow]
        exact if_neg closed
      rw [kept]
      refine ⟨?_, ?_, ?_, ?_, ?_⟩
      · rw [(stepGovernor_frame _).1]; exact pieces
      · simp only [stepGovernor_frame, scan]; exact arrived.scan
      · simpa using solver
      · simpa using panels
      · simpa using lineNow
    · apply State.eq_of_blocks <;> simp [output, bins, logs, tally, link, store, pending]
  case mark =>
    obtain ⟨u, run, arrived, line, _, found, position⟩ := lugEdge_atStation station
    have stations := Geometry.stations station.inRange station.drops
    have between : g.closeOffset < offset ∧ offset < g.commit := by
      rcases at_ with rfl | rfl
      · exact stations.markP1
      · exact stations.markP2
    rw [visitStations_mark stations _ position between] at run
    have panels : u.panels = s.panels := arrived.blocks.2.1
    obtain ⟨first, second, answers, frame⟩ := markPiece_spec .p1 (offset == g.markP1) found
    generalize onlyIf (offset == g.markP1) (markPiece .p1 p.lug) u = v at run first second answers frame
    have foundNow : v.piece? p.lug = some p := by rw [frame]; exact found
    obtain ⟨second', first', answers', frame'⟩ := markPiece_spec .p2 (offset == g.markP2) foundNow
    generalize onlyIf (offset == g.markP2) (markPiece .p2 p.lug) v = w at run second' first' answers' frame'
    have blocks : w.chain = u.chain ∧ w.scan = u.scan ∧ w.solver = s.solver ∧ w.output = s.output ∧ w.bins = s.bins ∧
        w.logs = s.logs ∧ w.tally = s.tally ∧ w.line = s.line ∧ w.link = s.link ∧ w.store = s.store ∧
        w.pending = s.pending := by
      rw [frame', frame]
      simp [arrived.blocks, line]
    obtain ⟨chain, scan, rest⟩ := blocks
    refine ⟨_, run, ?_, fun x => ?_, ?_, ?_, ?_⟩
    · rw [(stepGovernor_frame _).1, chain, arrived.chain]
    · simp only [stepGovernor_frame]
      cases x with
      | p1 =>
        have kept : w.panels.port .p1 = v.panels.port .p1 := first'
        rw [kept, ← panels]
        simpa using first
      | p2 =>
        have kept : v.panels.port .p2 = u.panels.port .p2 := second
        rw [kept] at second'
        rw [← panels]
        simpa using second'
    · simp only [stepGovernor_frame]
      rw [answers', answers, panels]
    · simp only [stepGovernor_frame, scan]
      exact arrived.scan
    · apply State.eq_of_blocks <;> simp [rest]

end Sys2Proof.Machine
end

section
/-! PROOF. A lug past its window is MISSED (O15). -/

namespace Sys2Proof.Machine

/-! ### The suspect marks and the MISSED count at an advance (R8, R15, R21) -/

/-- Every record has the suspect cause of a record before, and no MISSED lug is counted. -/
structure MarksKept (s t : State) : Prop where
  suspect : ∀ p ∈ t.chain.pieces, ∃ q ∈ s.chain.pieces, q.suspect = p.suspect
  missed : t.line.counters.missed = s.line.counters.missed

section

variable {s t u : State}

theorem MarksKept.trans (h : MarksKept s t) (k : MarksKept t u) : MarksKept s u where
  suspect p hp := by
    obtain ⟨q, hq, same⟩ := k.suspect p hp
    obtain ⟨r, hr, same'⟩ := h.suspect q hq
    exact ⟨r, hr, same'.trans same⟩
  missed := k.missed.trans h.missed

theorem MarksKept.of_sub (sub : ∀ p ∈ t.chain.pieces, p ∈ s.chain.pieces) (line : t.line = s.line) : MarksKept s t :=
  ⟨fun p hp => ⟨p, sub p hp, rfl⟩, by rw [line]⟩

theorem MarksKept.refl (s : State) : MarksKept s s := .of_sub (fun _ hp => hp) rfl

theorem MarksKept.of_steady (steady : t.steady = s.steady) (missed : t.line.counters.missed = s.line.counters.missed) :
    MarksKept s t := by
  refine ⟨fun p hp => ?_, missed⟩
  have pieces : t.chain.pieces.map Piece.steady = s.chain.pieces.map Piece.steady :=
    congrArg (fun u : State => u.chain.pieces) steady
  have there : p.steady ∈ s.chain.pieces.map Piece.steady := pieces ▸ List.mem_map_of_mem hp
  obtain ⟨q, hq, same⟩ := List.mem_map.mp there
  exact ⟨q, hq, (congrArg Piece.suspect same :)⟩

theorem changePiece_marksKept (lug : LugNo) {f : Piece → Piece} (same : ∀ p, (f p).suspect = p.suspect) (s : State) :
    MarksKept s (changePiece lug f s) := by
  refine ⟨fun p hp => ?_, rfl⟩
  have map : (changePiece lug f s).chain.pieces.map Piece.suspect = s.chain.pieces.map Piece.suspect := by
    exact changeFirst_map_of_find fun x _ => same x
  have there : p.suspect ∈ s.chain.pieces.map Piece.suspect := map ▸ List.mem_map_of_mem hp
  obtain ⟨q, hq, eq⟩ := List.mem_map.mp there
  exact ⟨q, hq, eq⟩

theorem finishPiece_marksKept (lug : LugNo) (o : PieceOutcome) (s : State) : MarksKept s (finishPiece lug o s) := by
  refine .of_sub (fun p hp => ?_) (by simp)
  unfold finishPiece at hp
  split at hp
  · exact hp
  · exact List.mem_of_mem_eraseP (by simpa [tallyPiece] using hp)

theorem writeCommit_marksKept (lug : LugNo) (d : Dest) (o : Option PieceOutcome) (full : Bool) (s : State) :
    MarksKept s (writeCommit lug d o full s) :=
  (changePiece_marksKept lug (f := fun p => p.committed d o full) (fun _ => rfl) s).trans
    (.of_steady (by simp [writeCommit]) (by simp [writeCommit]))

theorem commitPiece_marksKept (g : Geometry) (c : Count) (lug : LugNo) (s : State) :
    MarksKept s (commitPiece g c lug s) := by
  have reserved : ∀ bin : Option Nat, MarksKept s (bin.elim s fun b => reserveBin b s) := by
    rintro (_ | b)
    · exact .refl s
    · exact .of_sub (by simp) (by simp)
  have freed : ∀ (bin : Option Nat) (t : State), MarksKept t (countFault .scheduleFull (bin.elim t fun b => releaseBin b t)) := by
    rintro (_ | b) t
    · exact ⟨fun p hp => ⟨p, hp, rfl⟩, rfl⟩
    · exact ⟨fun p hp => ⟨p, by simpa using hp, rfl⟩, by simp [countFault, LineCounters.bump]⟩
  unfold commitPiece
  dsimp only
  repeat' split
  · exact .refl s
  · exact (reserved _).trans (writeCommit_marksKept ..)
  · rename_i taken
    have frame := addEntries_frame taken
    refine ((reserved _).trans (.of_sub (fun p hp => ?_) frame.2.2.2.2.2.2.2.2.2.1)).trans (writeCommit_marksKept ..)
    rw [← frame.1]
    exact hp
  · exact ((reserved _).trans (freed _ _)).trans (writeCommit_marksKept ..)

theorem closeProfile_marksKept (lug : LugNo) (cause : CloseCause) (s : State) : MarksKept s (closeProfile lug cause s) := by
  refine .of_steady (closeProfile_steady lug cause s) ?_
  have asked : ∀ t, (requestAtClose lug t).line.counters.missed = t.line.counters.missed := fun t => by
    unfold requestAtClose
    repeat' split
    all_goals simp [countFault, LineCounters.bump]
  unfold closeProfile
  repeat' split
  · rfl
  · exact (asked _).trans rfl
  · rfl

theorem passSaw_marksKept (lug : LugNo) (s : State) : MarksKept s (passSaw lug s) := by
  have passed := changePiece_marksKept lug (f := fun p => { p with stage := .pastSaw }) (fun _ => rfl) s
  unfold passSaw
  dsimp only
  repeat' split
  · exact passed
  · exact passed.trans (finishPiece_marksKept ..)
  · exact passed

theorem visitStations_marksKept (g : Geometry) (c : Count) (s : State) (lug : LugNo) :
    MarksKept s (visitStations g c s lug) := by
  have only : ∀ (b : Bool) (f : State → State) (t : State), (∀ t, MarksKept t (f t)) → MarksKept t (onlyIf b f t) :=
    fun b f t kept => by
      cases b
      · exact .refl t
      · exact kept t
  have moisture : ∀ t, MarksKept t (triggerMoisture lug t) := fun t => .of_sub (by simp) (by simp)
  have marked : ∀ p t, MarksKept t (markPiece p lug t) := fun p t => .of_sub (by simp) (by simp)
  have ended : ∀ t, MarksKept t (runOutPiece lug t) := fun t => by
    unfold runOutPiece
    split
    · exact .refl t
    · exact finishPiece_marksKept ..
  have dropped : ∀ (d : Option Nat) (t : State), MarksKept t (d.elim t fun b => dropPiece b lug t) := by
    rintro (_ | b) t
    · exact .refl t
    · have binned : ∀ f, MarksKept t (t.onBins f) := fun f => .of_sub (fun p hp => hp) rfl
      exact (binned _).trans (finishPiece_marksKept lug .sorted _)
  unfold visitStations
  exact (((((((only _ _ _ moisture).trans (only _ _ _ (closeProfile_marksKept lug _))).trans (only _ _ _ (marked _))).trans
    (only _ _ _ (marked _))).trans (only _ _ _ (commitPiece_marksKept g c lug))).trans
    (only _ _ _ (passSaw_marksKept lug))).trans (dropped _ _)).trans (only _ _ _ ended)

theorem runStations_marksKept (c : Count) (s : State) : MarksKept s (runStations c s) := by
  unfold runStations
  split
  · exact .refl s
  · rename_i g _
    have visits : ∀ (lugs : List LugNo) (s : State), MarksKept s (lugs.foldl (visitStations g c) s) := fun lugs => by
      induction lugs with
      | nil => exact .refl
      | cons lug lugs ih => exact fun s => (visitStations_marksKept g c s lug).trans (ih _)
    exact visits _ s

/-- At an advance the records are those before and, when the scan eye is blocked, one admitted with the condition's
cause. -/
theorem admitPiece_pieces (c : Count) (eye : Bool) (s : State) : (admitPiece c eye s).chain.pieces = s.chain.pieces ∨
    ∃ x, (admitPiece c eye s).chain.pieces = s.chain.pieces ++ [Piece.admitted s.chain.lug c x s.chain.suspect] := by
  cases eye with
  | false => rw [admitPiece_unblocked]; exact .inl rfl
  | true =>
    cases active : s.activeBank with
    | none =>
      have unadmitted : admitPiece c true s = recordHistory s.chain.lug false s := by
        unfold admitPiece
        rw [active]
      rw [unadmitted]
      exact .inl rfl
    | some x => rw [admitPiece_blocked c active]; exact .inr ⟨x, by simp⟩

theorem admitPiece_missed (c : Count) (eye : Bool) (s : State) :
    (admitPiece c eye s).line.counters.missed = s.line.counters.missed := by
  unfold admitPiece
  split
  · simp only [recordHistory_frame, weighAdmission_eq]
    split <;> rfl
  · simp

/-- Where the condition stands and every record is suspect, so is every record after an advance (R15). -/
theorem lugAdvance_suspect (c : Count) (good eye : Bool) (s : State) (condition : s.chain.suspect.isSome = true)
    (all : ∀ p ∈ s.chain.pieces, p.suspect.isSome = true) :
    (∀ p ∈ (lugAdvance c good eye s).chain.pieces, p.suspect.isSome = true) ∧
    (lugAdvance c good eye s).line.counters.missed = s.line.counters.missed := by
  unfold lugAdvance
  dsimp only
  generalize taken : takePending (s.onChain _) = u
  have blocks : u.chain.pieces = s.chain.pieces ∧ u.chain.suspect = s.chain.suspect ∧ u.line = s.line := by
    rw [← taken]; simp
  obtain ⟨pieces, suspect, line⟩ := blocks
  generalize sent : sendLug u.chain.lug (u.onScan fun x => { x with eye }) = v
  have chain : v.chain = u.chain ∧ v.line = u.line := by rw [← sent]; simp
  have kept := runStations_marksKept c (ageMoisture (admitPiece c eye v))
  refine ⟨fun p hp => ?_, ?_⟩
  · rw [(stepGovernor_frame _).1] at hp
    obtain ⟨q, hq, same⟩ := kept.suspect p hp
    rw [← same]
    have hq : q ∈ (admitPiece c eye v).chain.pieces := hq
    rcases admitPiece_pieces c eye v with none | ⟨x, one⟩
    · rw [none, chain.1, pieces] at hq
      exact all q hq
    · rw [one, chain.1, pieces, suspect, List.mem_append, List.mem_singleton] at hq
      rcases hq with hq | rfl
      · exact all q hq
      · exact condition
  · have line' : ∀ w, (stepGovernor w).line = w.line := fun w => by simp
    rw [line', kept.missed]
    have aged : ∀ w, (ageMoisture w).line = w.line := fun w => by simp
    rw [aged, admitPiece_missed, chain.2, line]

end

/-! ### The notice of a MISSED lug (R8, R21) -/

/-- An advance on an empty piece queue, with no activation pending and the geometry in range, makes no notice. -/
theorem lugAdvance_link_empty {s : State} {g : Geometry} (c : Count) (good eye : Bool)
    (loaded : s.store.geometry = some g) (inRange : g.firstBad = none) (empty : s.chain.pieces = [])
    (settled : s.store.pendingBank = none) : (lugAdvance c good eye s).link = s.link := by
  have arrived : (s.arrived c good eye).link = s.link ∧ (s.arrived c good eye).store = s.store := by
    simp [State.arrived]
  obtain ⟨link, store⟩ := arrived
  rw [lugAdvance_settled settled]
  have stepped : ∀ w, (stepGovernor w).link = w.link := fun w => by simp
  rw [stepped, ← link]
  have lug : (s.arrived c good eye).chain.lug = s.chain.lug + 1 := by
    have course := admitPiece_course (s.broughtOn c good eye) c eye
    rw [arrived_eq]
    exact (congrArg (fun x : State => x.chain.lug) (show ageMoisture _ = _ from rfl)).trans
      (congrArg Chain.lug (State.course_eq_iff.mp course).1)
  have pieces : (s.arrived c good eye).chain.pieces = [] ∨ ∃ x, (s.arrived c good eye).chain.pieces =
      [Piece.admitted (s.chain.lug + 1) c x s.chain.suspect] := by
    rw [arrived_eq]
    have cases_ := admitPiece_pieces c eye (s.broughtOn c good eye)
    have before : (s.broughtOn c good eye).chain.pieces = [] := empty
    rw [before] at cases_
    exact cases_
  rcases pieces with none | ⟨x, one⟩
  · rw [runStations_none none]
  · have found := piece?_alone one
    have fresh : (s.arrived c good eye).position (s.chain.lug + 1) = 0 := by
      rw [State.position, lug]
      exact (congrArg BitVec.toNat (BitVec.sub_self _)).trans rfl
    rw [runStations_one (store ▸ loaded) one, visitStations_admitted inRange found rfl fresh c]
    exact onlyIf_keeps State.link _ _ _ fun w => by simp

/-! ### The MISSED lug (R8) -/

theorem weighMissed_due {s : State} {g : Geometry} (eye : Bool) (active : s.line.state ≠ .idle) (hold : s.chain.hold = none)
    (loaded : s.store.geometry = some g) (lock : s.chain.lockOn = false)
    (past : reached s.chain.count (s.chain.c0 + BitVec.ofNat 32 g.pitch + BitVec.ofNat 32 (g.windowTol + 1)) = true) :
    weighMissed eye s = missedLug g eye s := by
  have judged : s.judging = some g := by simp [State.judging, State.tracking, active, hold, loaded]
  have due : s.missedDue g = true := by simp [State.missedDue, windowPast, lock, past]
  unfold weighMissed
  rw [judged]
  exact if_pos due

/-- Settles O15. -/
theorem missedLugAdvances : Obligations.MissedLugAdvances := by
  refine ⟨fun s g eye active hold loaded lock past => ?weighed,
    fun s g eye active hold loaded lock highest past => ?transition⟩
  case weighed =>
    refine ⟨missedLug g eye s, congrArg Host.Outcome.next (weighMissed_due eye active hold loaded lock past), ?_⟩
    have chain := missedLug_chain s g eye
    have line := missedLug_line s g eye
    obtain ⟨aside, logs, geometry, pending⟩ := missedLug_rest s g eye
    have missing := setSuspect_suspectSet .missed s.runLost
    have every : ∀ p ∈ s.missing.chain.pieces, p.suspect.isSome = true := fun p hp => by
      have hp : p ∈ (setSuspect .missed s.runLost).chain.pieces := hp
      rw [missing.records] at hp
      obtain ⟨q, _, rfl⟩ := List.mem_map.mp hp
      unfold Piece.nowSuspect
      split
      · assumption
      · rfl
    have condition : s.missing.chain.suspect.isSome = true := by
      have set : s.missing.chain.suspect = some .missed := missing.condition
      rw [set]; rfl
    obtain ⟨suspects, counted⟩ := lugAdvance_suspect (s.chain.c0 + BitVec.ofNat 32 g.pitch) false eye s.missing condition every
    have before : s.missing.line.counters.missed = s.line.counters.missed.bump := by
      simp [State.missing, countFault, LineCounters.bump]
    rw [← missedLug_eq] at suspects counted
    have notice : s.chain.pieces = [] → s.store.pendingBank = none → g.firstBad = none →
        SuspectNoticed .missed s (missedLug g eye s) := fun empty settled inRange unbound => by
      have link : (missedLug g eye s).link = s.missing.link := by
        rw [missedLug_eq]
        refine lugAdvance_link_empty _ _ _ ?_ inRange ?_ ?_
        · simpa [State.missing] using loaded
        · have records : s.missing.chain.pieces = _ := missing.records
          rw [records]
          exact congrArg (List.map _) empty
        · simpa [State.missing] using settled
      rw [link]
      exact setSuspect_suspectNoticed .missed s.runLost rfl unbound
    generalize missedLug g eye s = t at chain line aside logs geometry pending suspects counted notice
    simp only [State.aside, Prod.mk.injEq] at aside
    exact ⟨(congrArg Chain.lug chain :), (congrArg Chain.c0 chain :), (congrArg Chain.goodRun chain :),
      (congrArg Chain.suspect chain :), suspects, counted.trans before, (congrArg Chain.count chain :),
      (congrArg Chain.highest chain :), (congrArg Chain.hold chain :).trans hold, (congrArg Chain.lockOn chain :).trans lock,
      notice, logs, aside.1, line, geometry, pending⟩
  case transition =>
    have self : ∀ c : Count, reached c c = true := fun c => by simp [reached]
    have onward : ∀ c : Count, reached (c + 1) c = true := fun c => by
      unfold reached
      rw [show c + 1 - c = 1 by bv_omega]
      rfl
    have later_ : later (s.chain.count + 1) s.chain.highest = true := by
      rw [← highest, later, onward, Bool.and_true, decide_eq_true_eq]
      bv_omega
    generalize movedTo : s.onChain (Chain.moved true) = u
    have chain : u.chain = s.chain.moved true := by rw [← movedTo]; rfl
    have blocks : u.line = s.line ∧ u.store = s.store := by rw [← movedTo]; exact ⟨rfl, rfl⟩
    obtain ⟨line, store⟩ := blocks
    have count : u.chain.count = s.chain.count + 1 := by rw [chain]; rfl
    have top : u.chain.highest = s.chain.count + 1 := by rw [chain]; exact if_pos ⟨rfl, hold, later_⟩
    have holds : u.chain.hold = none := by rw [chain]; exact hold
    have unreversed : weighReversal u = u := by
      unfold weighReversal
      split
      · rfl
      · rw [fallenBelow, count, top, self, if_pos rfl, if_neg (Nat.not_lt_zero _)]
    have unended : u.onChain Chain.endHold = u := onChain_eq_self (by rw [Chain.endHold, holds])
    have missed : chainTransition true eye s = missedLug g eye (weighEntries .chain u) := by
      rw [chainTransition_eq, movedTo, unreversed, unended]
      refine weighMissed_due eye (by simpa [line] using active) (by simpa using holds) (by simpa [store] using loaded) ?_ ?_
      · rw [(weighEntries_frame _ _).1, chain]; exact lock
      · rw [(weighEntries_frame _ _).1, count, chain]
        exact (congrArg (reached _) past.symm).trans (self _)
    have after := missedLug_chain (weighEntries .chain u) g eye
    rw [(weighEntries_frame _ _).1] at after
    refine ⟨_, congrArg Host.Outcome.next missed, ?_, ?_, ?_, ?_⟩
    · exact (congrArg Chain.count after :).trans count
    · refine (congrArg Chain.lug after :).trans ?_
      rw [chain]; rfl
    · refine (congrArg Chain.c0 after :).trans ?_
      rw [chain]; rfl
    · exact (congrArg Chain.suspect after :)

end Sys2Proof.Machine
end

section
/-! PROOF. Where a piece finishes and what its finish counts (O19). -/

namespace Sys2Proof.Machine

/-! ### The period's counts of a finished piece (R143) -/

/-- The cell that a finished piece counts in, with its volume: that of a KEEP decision at SORTED and RUN_OUT (R143). -/
def Piece.cellCounted (p : Piece) (o : PieceOutcome) (bank : Bank) (cells : List TallyCell) : List TallyCell :=
  match o, p.decision with
  | .sorted, some (.keep l r g _ _) | .runOut, some (.keep l r g _ _) =>
    cells.modify (g * 12 + (r - l - 1)) fun c =>
      ⟨min (2 ^ 32 - 1) (c.count + 1), min (2 ^ 48 - 1) (c.bf48 + bf48Of bank p.sizeClass l r)⟩
  | _, _ => cells

/-- The drop counters after a finished piece: that of its bin at SORTED (R143). -/
def Piece.dropCounted (p : Piece) (o : PieceOutcome) (drops : List Nat) : List Nat :=
  match o, p.dest with
  | .sorted, some (.bin b) => drops.modify b fun n => min (2 ^ 32 - 1) (n + 1)
  | _, _ => drops

theorem tallyPiece_period (p : Piece) (o : PieceOutcome) (s : State) :
    let t := (tallyPiece p o s).tally.period
    t.entries = min (2 ^ 32 - 1) (s.tally.period.entries + 1) ∧
    t.pieceOutcomes = s.tally.period.pieceOutcomes.modify o.code (fun n => min (2 ^ 32 - 1) (n + 1)) ∧
    t.cells = p.cellCounted o (s.bank p.bank) s.tally.period.cells ∧ t.binDrops = p.dropCounted o s.tally.period.binDrops := by
  unfold Piece.cellCounted Piece.dropCounted tallyPiece
  dsimp only [State.onTally]
  cases o <;> (cases decision : p.decision with
    | none => cases dest : p.dest with
      | none => exact ⟨rfl, rfl, rfl, rfl⟩
      | some d => cases d <;> exact ⟨rfl, rfl, rfl, rfl⟩
    | some d => cases d <;> (cases dest : p.dest with
      | none => exact ⟨rfl, rfl, rfl, rfl⟩
      | some d => cases d <;> exact ⟨rfl, rfl, rfl, rfl⟩))

/-! ### The one piece in the queue finished (R18) -/

/-- The one piece `q` in the queue of `s` has finished with an outcome: it has left the queue, is counted, and its
PIECE_DONE is made (R18, R143). -/
structure Finished (q : Piece) (o : PieceOutcome) (s t : State) : Prop where
  pieces : t.chain.pieces = []
  finished : t.chain.finished = s.chain.finished + 1
  link : t.link = s.link.noticed (.pieceDone { q with stage := .finished, outcome := some o })
  entries : t.tally.period.entries = min (2 ^ 32 - 1) (s.tally.period.entries + 1)
  outcomes : t.tally.period.pieceOutcomes =
    s.tally.period.pieceOutcomes.modify o.code fun n => min (2 ^ 32 - 1) (n + 1)
  cells : t.tally.period.cells = q.cellCounted o (s.bank q.bank) s.tally.period.cells
  drops : t.tally.period.binDrops = q.dropCounted o s.tally.period.binDrops

theorem finishPiece_finished {s v : State} {q : Piece} (o : PieceOutcome) (alone : v.chain.pieces = [q])
    (count : v.chain.finished = s.chain.finished) (link : v.link = s.link) (tally : v.tally = s.tally)
    (store : v.store = s.store) : Finished q o s (finishPiece q.lug o v) := by
  have finish : finishPiece q.lug o v = queueNotice (.pieceDone { q with outcome := some o, stage := .finished })
      (tallyPiece { q with outcome := some o, stage := .finished } o (v.onChain fun c =>
        { c with pieces := c.pieces.eraseP (fun x => x.lug == q.lug), finished := c.finished + 1 })) := by
    unfold finishPiece
    rw [piece?_alone alone]
  have counted := tallyPiece_period { q with outcome := some o, stage := .finished } o (v.onChain fun c =>
    { c with pieces := c.pieces.eraseP (fun x => x.lug == q.lug), finished := c.finished + 1 })
  obtain ⟨entries, outcomes, cells, drops⟩ := counted
  have bank : (v.onChain fun c =>
      { c with pieces := c.pieces.eraseP (fun x => x.lug == q.lug), finished := c.finished + 1 }).bank q.bank =
      s.bank q.bank := bank_of_store (s := s) store _
  rw [State.onChain_tally, tally] at entries outcomes cells drops
  rw [finish]
  refine ⟨?_, ?_, ?_, ?_, ?_, ?_, ?_⟩
  · simp [tallyPiece, alone]
  · simp [tallyPiece, count]
  · rw [queueNotice_link]
    exact congrArg (Link.noticed · _) link
  · rw [(queueNotice_frame _ _).2.2.2.2.2.2.2.2.1]; exact entries
  · rw [(queueNotice_frame _ _).2.2.2.2.2.2.2.2.1]; exact outcomes
  · rw [(queueNotice_frame _ _).2.2.2.2.2.2.2.2.1, ← bank]; exact cells
  · rw [(queueNotice_frame _ _).2.2.2.2.2.2.2.2.1]; exact drops

/-- The governor's step after a finish reads nothing of it. -/
theorem Finished.stepped {q : Piece} {o : PieceOutcome} {s t : State} (h : Finished q o s t) :
    Finished q o s (stepGovernor t) := by
  obtain ⟨pieces, finished, link, entries, outcomes, cells, drops⟩ := h
  constructor <;> simp only [stepGovernor_frame]
  · exact pieces
  · exact finished
  · exact link
  · exact entries
  · exact outcomes
  · exact cells
  · exact drops

/-- The cell of a KEEP piece counts its volume by the nominals of its classes (R57, R143). -/
theorem Piece.cellCounted_keep {p : Piece} {o : PieceOutcome} {bank : Bank} {l r grade product value t w : Nat}
    {tr wr : SizeClassRow} (cells : List TallyCell) (counts : o = .sorted ∨ o = .runOut)
    (decision : p.decision = some (.keep l r grade product value)) (size : p.sizeClass = some (.sized t w))
    (thick : bank.thickness t = some tr) (wide : bank.width w = some wr) :
    p.cellCounted o bank cells = cells.modify (grade * 12 + (r - l - 1)) fun c =>
      ⟨min (2 ^ 32 - 1) (c.count + 1), min (2 ^ 48 - 1) (c.bf48 + tr.nominal * wr.nominal * (2 * (r - l)))⟩ := by
  have volume : bf48Of bank p.sizeClass l r = tr.nominal * wr.nominal * (2 * (r - l)) := by
    unfold bf48Of
    rw [size]
    dsimp only
    rw [thick, wide]
    rfl
  unfold Piece.cellCounted
  rw [← volume]
  rcases counts with rfl | rfl <;> rw [decision]

theorem Piece.cellCounted_other {p : Piece} {o : PieceOutcome} (bank : Bank) (cells : List TallyCell) (unsorted : o ≠ .sorted)
    (inside : o ≠ .runOut) : p.cellCounted o bank cells = cells := by
  unfold Piece.cellCounted
  split
  · exact absurd rfl unsorted
  · exact absurd rfl inside
  · rfl

theorem Piece.dropCounted_other {p : Piece} {o : PieceOutcome} (drops : List Nat) (unsorted : o ≠ .sorted) :
    p.dropCounted o drops = drops := by
  unfold Piece.dropCounted
  split
  · exact absurd rfl unsorted
  · rfl

/-! ### The saw line, the drop and the run-out (R100, R122, R123) -/

theorem Arrived.pieces {s u : State} {l : List Piece} (arrived : Arrived s u l) : u.chain.pieces = l := by
  rw [arrived.chain]

theorem changePiece_alone {u : State} {p : Piece} (f : Piece → Piece) (alone : u.chain.pieces = [p]) :
    (changePiece p.lug f u).chain.pieces = [f p] := by
  simp [changePiece, alone, changeFirst]

/-- Settles O19. -/
theorem whereAPieceFinishes : Obligations.WhereAPieceFinishes := by
  refine ⟨fun s g p station slash unsuspect open_ => ?slash, fun s g p station _ other => ?passed,
    fun s g p b l r grade product value t w x tr wr inRange station bound there decision size thick wide => ?dropped,
    fun s g p o station fixed => ?runOut⟩
  case slash =>
    obtain ⟨u, run, arrived, _, _, found, position⟩ := lugEdge_atStation station
    rw [visitStations_saw (Geometry.stations station.inRange station.drops) _ position] at run
    have pieces := changePiece_alone (fun q => { q with stage := .pastSaw }) arrived.pieces
    have passed : passSaw p.lug u = finishPiece p.lug .slash (changePiece p.lug (fun q => { q with stage := .pastSaw }) u) := by
      unfold passSaw
      simp only [piece?_alone pieces]
      exact if_pos ⟨slash, unsuspect, open_⟩
    obtain ⟨_, _, output, bins, _, tally, _, link, store, _⟩ := arrived.blocks
    have finish := (finishPiece_finished (s := s) .slash pieces (congrArg Chain.finished arrived.chain :) link tally store).stepped
    rw [passed] at run
    refine ⟨_, run, finish.pieces, finish.finished, finish.link, finish.entries, finish.outcomes, ?_, ?_, ?_⟩
    · exact finish.cells.trans (Piece.cellCounted_other _ _ (by decide) (by decide))
    · simpa using output
    · simpa using bins
  case passed =>
    obtain ⟨u, run, arrived, _, _, found, position⟩ := lugEdge_atStation station
    rw [visitStations_saw (Geometry.stations station.inRange station.drops) _ position] at run
    have pieces := changePiece_alone (fun q => { q with stage := .pastSaw }) arrived.pieces
    have passed : passSaw p.lug u = changePiece p.lug (fun q => { q with stage := .pastSaw }) u := by
      unfold passSaw
      simp only [piece?_alone pieces]
      exact if_neg other
    obtain ⟨_, _, output, bins, _, tally, _, link, store, _⟩ := arrived.blocks
    rw [passed] at run
    refine ⟨_, run, ?_, ?_, ?_, ?_, ?_⟩ <;> simp only [stepGovernor_frame]
    · exact pieces
    · exact link
    · exact tally
    · exact output
    · exact bins
  case dropped =>
    obtain ⟨u, run, arrived, _, _, found, position⟩ := lugEdge_atStation station
    have stations := Geometry.stations station.inRange station.drops
    have drop : g.drops[b]? = some (g.drops.getD b 0) := ((Geometry.ordered station.inRange station.drops).drops b inRange).2.2
    rw [visitStations_drop stations _ position found bound drop] at run
    obtain ⟨_, _, output, bins, _, tally, _, link, store, _⟩ := arrived.blocks
    rw [← bins] at there
    have landed := setAt_eq_set u.bins b
      (fun y => { y with reserved := y.reserved - 1, count := y.count + 1, drops := satAdd tallyMax y.drops 1 }) x there
    generalize binned : u.onBins (fun l => setAt l b fun y =>
      { y with reserved := y.reserved - 1, count := y.count + 1, drops := satAdd tallyMax y.drops 1 }) = v
    have dropped : dropPiece b p.lug u = finishPiece p.lug .sorted v := by rw [← binned]; rfl
    have finish : Finished p .sorted s (stepGovernor (finishPiece p.lug .sorted v)) := by
      have blocks : v.chain = u.chain ∧ v.link = u.link ∧ v.tally = u.tally ∧ v.store = u.store := by
        rw [← binned]; exact ⟨rfl, rfl, rfl, rfl⟩
      obtain ⟨chain', link', tally', store'⟩ := blocks
      exact (finishPiece_finished .sorted (by rw [chain']; exact arrived.pieces)
        (by rw [chain']; exact (congrArg Chain.finished arrived.chain :)) (link'.trans link) (tally'.trans tally)
        (store'.trans store)).stepped
    rw [dropped] at run
    refine ⟨_, run, finish.pieces, finish.finished, ?_, finish.link, finish.entries, finish.outcomes, ?_, ?_, ?_⟩
    · simp only [stepGovernor_frame, finishPiece_frame]
      rw [← binned, ← bins]
      exact landed
    · exact finish.cells.trans (Piece.cellCounted_keep _ (.inl rfl) decision size thick wide)
    · exact finish.drops.trans (by simp [Piece.dropCounted, bound])
    · simp only [stepGovernor_frame, finishPiece_frame]
      rw [← binned]
      exact output
  case runOut =>
    obtain ⟨u, run, arrived, _, _, found, position⟩ := lugEdge_atStation station
    rw [visitStations_runOut (Geometry.stations station.inRange station.drops) _ position] at run
    have outcome : p.runOutOutcome = o := by
      unfold Piece.runOutOutcome
      split at fixed
      · rename_i suspect
        rw [if_pos suspect, fixed]
      · rename_i unsuspect
        rw [if_neg unsuspect, fixed]
        rfl
    have passed : runOutPiece p.lug u = finishPiece p.lug o u := by
      unfold runOutPiece
      rw [found]
      exact congrArg (finishPiece p.lug · u) outcome
    obtain ⟨_, _, output, bins, _, tally, _, link, store, _⟩ := arrived.blocks
    have finish := (finishPiece_finished (s := s) o arrived.pieces (congrArg Chain.finished arrived.chain :) link tally store).stepped
    rw [passed] at run
    refine ⟨_, run, finish.pieces, finish.finished, finish.link, finish.entries, ?_, fun unsorted inside => ?_,
      fun l r grade product value tc w tr wr inside decision size thick wide => ?_, fun unsorted => ?_, ?_, ?_⟩
    · rw [finish.outcomes]
      cases o <;> rfl
    · exact finish.cells.trans (Piece.cellCounted_other _ _ unsorted inside)
    · exact finish.cells.trans (Piece.cellCounted_keep _ (.inr inside) decision size thick wide)
    · exact finish.drops.trans (Piece.dropCounted_other _ unsorted)
    · simpa using output
    · simpa using bins

end Sys2Proof.Machine
end

section
/-! SUPPORT. The commit of a piece: the entries that join, the record written, and the saws of a SLASH (R94 to R99). -/

namespace Sys2Proof.Machine

/-! ### Entries that join the schedule (R102 to R105) -/

theorem mem_insertEntries (e : Entry) (es joining : List Entry) :
    e ∈ joining.foldl (fun acc x => insertEntry x acc) es ↔ e ∈ es ∨ e ∈ joining := by
  induction joining generalizing es with
  | nil => simp
  | cons x joining ih =>
    rw [List.foldl_cons, ih, (insertEntry_perm x es).mem_iff, List.mem_cons, List.mem_cons]
    tauto

/-- Entries whose start count is still to come, with room for them, join as they are (R103, R104, R105). -/
theorem addEntries_waiting {s : State} {enc : EncoderId} {es : List Entry} (running : s.line.state ≠ .halt)
    (room : s.output.held + es.length ≤ 48) (waits : ∀ e ∈ es, e.turnOn (s.encoderCount enc) = some e) :
    ∃ o, addEntries enc es s = some { s with output := o } ∧ LinesFollowEntries o ∧
      (o.entries enc).length = (s.output.entries enc).length + es.length ∧
      (∀ e, e ∈ o.entries enc ↔ e ∈ s.output.entries enc ∨ e ∈ es) ∧
      ∀ other, other ≠ enc → o.entries other = s.output.entries other := by
  have kept : es.filterMap (Entry.turnOn (s.encoderCount enc)) = es :=
    (List.filterMap_congr waits).trans List.filterMap_some
  have taken : addEntries enc es s =
      some (s.onOutput fun o => o.setEntries enc (es.foldl (fun acc e => insertEntry e acc) (o.entries enc))) := by
    unfold addEntries scheduleMax
    rw [if_neg (not_or.mpr ⟨running, Nat.not_lt.mpr room⟩), kept]
  obtain ⟨entries, others⟩ := setEntries_entries s.output enc
    (es.foldl (fun acc e => insertEntry e acc) (s.output.entries enc))
  refine ⟨_, taken, linesFollow_setEntries _ _ _, ?_, fun e => ?_, others⟩
  · rw [entries, insertEntries_length]
  · rw [entries, mem_insertEntries]

theorem held_eq (o : Output) : o.held = o.chain.length + o.log.length := rfl

/-! ### The fire times (R99) -/

/-- A count that is due later than a lead before it still lies ahead. -/
theorem not_reached_ahead {n lead : Nat} (c : Count) (before : lead < n) (near : n < 2 ^ 31) :
    reached c (c + BitVec.ofNat 32 n - BitVec.ofNat 32 lead) = false := by
  have far : (BitVec.ofNat 32 n).toNat = n := by simp; omega
  have less : (BitVec.ofNat 32 lead).toNat = lead := by simp; omega
  unfold reached
  generalize BitVec.ofNat 32 n = d at far
  generalize BitVec.ofNat 32 lead = l at less
  rw [decide_eq_false_iff_not]
  bv_omega

theorem turnOn_waiting {c : Count} {e : Entry} (off : e.on = false) (ahead : reached c e.start = false) :
    e.turnOn c = some e := by
  unfold Entry.turnOn
  rw [off, ahead]
  rfl

theorem sawEntry_waits {g : Geometry} (inRange : g.firstBad = none) (c : Count) (lug : LugNo) (k : Nat) :
    (sawEntry g c lug k).turnOn c = some (sawEntry g c lug k) := by
  have saw := Geometry.itemOk_of_inRange inRange (i := 9) (by decide)
  have lead := Geometry.itemOk_of_inRange inRange (i := 10) (by decide)
  simp only [Geometry.itemOk, decide_eq_true_eq] at saw lead
  have pitch := (Geometry.pitch_inRange inRange).2
  refine turnOn_waiting rfl (not_reached_ahead c lead ?_)
  have few : g.sawLine - g.commit ≤ 16 := by omega
  have := Nat.mul_le_mul few pitch
  omega

theorem gateEntry_waits {g : Geometry} (inRange : g.firstBad = none) (drops : g.drops.length = 48) (c : Count) (lug : LugNo)
    {b : Nat} (bin : b < 48) : (gateEntry g c lug b).turnOn c = some (gateEntry g c lug b) := by
  have lead := Geometry.itemOk_of_inRange inRange (i := 60) (by decide)
  simp only [Geometry.itemOk, decide_eq_true_eq] at lead
  have pitch := (Geometry.pitch_inRange inRange).2
  have ordered := Geometry.ordered inRange drops
  have drop := ordered.drops b bin
  have saw := ordered.saw
  have runOut := ordered.runOut
  have one : 1 ≤ g.drops.getD b 0 - g.commit := by omega
  have few : g.drops.getD b 0 - g.commit ≤ 127 := by omega
  have least := Nat.mul_le_mul_right g.pitch one
  have most := Nat.mul_le_mul few pitch
  refine turnOn_waiting rfl (not_reached_ahead c ?_ ?_) <;> omega

/-! ### The record written (R69, R90, R98) -/

theorem Piece.committed_unflagged (p : Piece) (d : Dest) (o : Option PieceOutcome) :
    p.committed d o false = { p with stage := .committed, dest := some d, outcome := o } := by
  unfold Piece.committed
  rw [Bool.or_false]

theorem Piece.committed_flagged (p : Piece) (d : Dest) (o : Option PieceOutcome) : p.committed d o true =
    { p with stage := .committed, dest := some d, outcome := o, flags := { p.flags with scheduleFull := true } } := by
  unfold Piece.committed
  rw [Bool.or_true]

/-- The solver told of the commit of the one piece in the queue (R69). -/
theorem solverCommitted_spec {s v : State} {p q : Piece} (alone : v.chain.pieces = [q]) (name : q.lug = p.lug)
    (same : q.decision = p.decision ∧ q.solveState = p.solveState) (solver : v.solver = s.solver) :
    solverCommitted p.lug v = { v with
      chain := { v.chain with pieces := [{ q with solveState := s.settledAt p }] }, solver := s.solver.without p.lug } := by
  obtain ⟨decision, solveState⟩ := same
  unfold solverCommitted State.settledAt Solver.without
  rw [solver]
  by_cases waits : p.lug ∈ s.solver.queue
  · rw [if_pos waits, if_pos waits, ← decision]
    have pieces : (changePiece p.lug (fun x => { x with solveState := x.settled }) (v.onSolver fun w =>
        { w with queue := w.queue.filter fun l => l != p.lug })).chain.pieces = [{ q with solveState := q.settled }] := by
      rw [← name]
      exact changePiece_alone _ alone
    apply State.eq_of_blocks
    case chain => exact congrArg (fun l => { v.chain with pieces := l }) pieces
    case solver => exact congrArg (fun w : Solver => { w with queue := w.queue.filter fun l => l != p.lug }) solver
    all_goals rfl
  · rw [if_neg waits, if_neg waits, ← solveState]
    have unchanged : s.solver.queue.filter (fun l => l != p.lug) = s.solver.queue := by
      refine List.filter_eq_self.mpr fun l hl => ?_
      rw [bne_iff_ne]
      rintro rfl
      exact waits hl
    apply State.eq_of_blocks
    case chain => rw [← alone]
    case solver => rw [solver, unchanged]
    all_goals rfl

/-- What a commit of the one piece in the queue leaves of the chain, the solver, the panels and the tally. -/
structure Committed (p q : Piece) (s t : State) : Prop where
  pieces : t.chain.pieces = [q]
  solver : t.solver = s.solver.without p.lug
  lapsed : LapsedPaid .committed p.decision p.lug s t
  tally : t.tally = s.tally
  finished : t.chain.finished = s.chain.finished

theorem writeCommit_committed {s u v : State} {p : Piece} (arrived : Arrived s u [p]) (d : Dest) (o : Option PieceOutcome)
    (full : Bool) (chain : v.chain = u.chain) (solver : v.solver = u.solver) (panels : v.panels = u.panels)
    (tally : v.tally = u.tally) :
    Committed p { p.committed d o full with solveState := s.settledAt p } s
      (stepGovernor (writeCommit p.lug d o full v)) := by
  obtain ⟨solver', panels', _, _, _, tally', _⟩ := arrived.blocks
  have alone := changePiece_alone (fun x => x.committed d o full) (u := v) (p := p) (by rw [chain]; exact arrived.pieces)
  have told := solverCommitted_spec (s := s) (p := p) alone rfl ⟨rfl, rfl⟩ (solver.trans solver')
  obtain ⟨paid, frame⟩ := payLapsed_paid p.lug .committed
    (solverCommitted p.lug (changePiece p.lug (fun x => x.committed d o full) v))
  have written : writeCommit p.lug d o full v =
      payLapsed p.lug .committed (solverCommitted p.lug (changePiece p.lug (fun x => x.committed d o full) v)) := rfl
  rw [← written] at paid frame
  rw [told] at paid frame
  have there : (({ changePiece p.lug (fun x => x.committed d o full) v with
      chain := { (changePiece p.lug (fun x => x.committed d o full) v).chain with
        pieces := [{ p.committed d o full with solveState := s.settledAt p }] }
      solver := s.solver.without p.lug } : State).piece? p.lug).bind Piece.decision = p.decision := by
    simp [State.piece?, Piece.committed]
  rw [there] at paid
  generalize writeCommit p.lug d o full v = w at paid frame
  have paid' : LapsedPaid .committed p.decision p.lug s (stepGovernor w) :=
    paid.congr (panels.trans panels').symm (stepGovernor_frame w).2.2.2.2.1
  refine ⟨?_, ?_, paid', ?_, ?_⟩
  · rw [(stepGovernor_frame w).1, frame]
  · rw [(stepGovernor_frame w).2.2.2.1, frame]
  · rw [(stepGovernor_frame w).2.2.2.2.2.2.2.2.1, frame]
    exact tally.trans tally'
  · rw [(stepGovernor_frame w).1, frame]
    exact (congrArg Chain.finished chain).trans (congrArg Chain.finished arrived.chain :)

/-! ### The paths of a commit (R94) -/

/-- A commit without a bin and without a saw joins no entry. -/
theorem commitPiece_unsawn {g : Geometry} {c : Count} {u : State} {lug : LugNo} {p : Piece} {path : Path}
    (found : u.piece? lug = some p) (taken : pathOf u.line.state p = path) (unbound : reservationOf path u p = none)
    (none : sawsOf path p = []) :
    commitPiece g c lug u = writeCommit lug .runOut (outcomeOf path Option.none) false u := by
  unfold commitPiece
  rw [found]
  dsimp only
  rw [taken, unbound, none]
  rfl

/-- A commit whose entries join. -/
theorem commitPiece_joined {g : Geometry} {c : Count} {u t : State} {lug : LugNo} {p : Piece} {path : Path}
    {bin : Option Nat} {es : List Entry} (found : u.piece? lug = some p) (taken : pathOf u.line.state p = path)
    (reserved : reservationOf path u p = bin)
    (entries : es = (sawsOf path p).map (sawEntry g c lug) ++ (bin.map (gateEntry g c lug)).toList) (some_ : es ≠ [])
    (joined : addEntries .chain es (bin.elim u fun b => reserveBin b u) = some t) :
    commitPiece g c lug u = writeCommit lug (bin.elim .runOut .bin) (outcomeOf path bin) false t := by
  unfold commitPiece
  rw [found]
  dsimp only
  rw [taken, reserved, ← entries, if_neg (by simpa using some_), joined]

/-- A commit whose entries the schedule refuses (R97). -/
theorem commitPiece_refused {g : Geometry} {c : Count} {u : State} {lug : LugNo} {p : Piece} {path : Path}
    {bin : Option Nat} {es : List Entry} (found : u.piece? lug = some p) (taken : pathOf u.line.state p = path)
    (reserved : reservationOf path u p = bin)
    (entries : es = (sawsOf path p).map (sawEntry g c lug) ++ (bin.map (gateEntry g c lug)).toList) (some_ : es ≠ [])
    (refused : addEntries .chain es (bin.elim u fun b => reserveBin b u) = none) :
    commitPiece g c lug u = writeCommit lug .runOut (some .untrimmed) true (countFault .scheduleFull
      (bin.elim (bin.elim u fun b => reserveBin b u) fun b => releaseBin b (bin.elim u fun b => reserveBin b u))) := by
  unfold commitPiece
  rw [found]
  dsimp only
  rw [taken, reserved, ← entries, if_neg (by simpa using some_), refused]

/-! ### The saws of a SLASH (R96) -/

/-- The indices of the cells that are PRESENT or UNKNOWN, in order. -/
def woodCells (cells : List Cell) : List Nat :=
  (cells.zipIdx.filter fun (c, _) => match c with
    | .present .. => true
    | .unknown => true
    | _ => false).map Prod.snd

theorem lastCell_eq (cells : List Cell) : lastCell cells = (woodCells cells).getLast? := rfl

theorem mem_woodCells (cells : List Cell) (i : Nat) :
    i ∈ woodCells cells ↔ ∃ c, cells[i]? = some c ∧ c ≠ .absent ∧ c ≠ .unreported := by
  unfold woodCells
  simp only [List.mem_map, List.mem_filter, Prod.exists, List.mk_mem_zipIdx_iff_getElem?]
  constructor
  · rintro ⟨c, j, ⟨there, wood⟩, rfl⟩
    refine ⟨c, there, ?_⟩
    cases c <;> simp_all
  · rintro ⟨c, there, wood⟩
    refine ⟨c, i, ⟨there, ?_⟩, rfl⟩
    cases c <;> simp_all

theorem woodCells_sorted (cells : List Cell) : (woodCells cells).Pairwise (· < ·) := by
  have sub : (woodCells cells).Sublist (cells.zipIdx.map Prod.snd) := List.filter_sublist.map Prod.snd
  rw [List.zipIdx_map_snd] at sub
  exact (List.pairwise_lt_range' (s := 0) (n := cells.length) (step := 1)).sublist sub

theorem lastCell_reaches (cells : List Cell) (n : Nat) : (∃ last, lastCell cells = some last ∧ n ≤ last) ↔
    ((cells.drop n).any fun c => decide (c ≠ .absent ∧ c ≠ .unreported)) = true := by
  have reaches : (∃ last, lastCell cells = some last ∧ n ≤ last) ↔ ∃ i ∈ woodCells cells, n ≤ i := by
    rw [lastCell_eq]
    constructor
    · rintro ⟨last, found, le⟩
      exact ⟨last, List.mem_of_getLast? found, le⟩
    · rintro ⟨i, hi, le⟩
      cases found : (woodCells cells).getLast? with
      | none => rw [List.getLast?_eq_none_iff.mp found] at hi; cases hi
      | some last =>
        obtain ⟨front, split⟩ := List.getLast?_eq_some_iff.mp found
        refine ⟨last, rfl, ?_⟩
        have sorted := woodCells_sorted cells
        rw [split, List.pairwise_append] at sorted
        rw [split, List.mem_append, List.mem_singleton] at hi
        rcases hi with hi | rfl
        · exact Nat.le_trans le (Nat.le_of_lt (sorted.2.2 i hi last (List.mem_singleton.mpr rfl)))
        · exact le
  rw [reaches, List.any_eq_true]
  constructor
  · rintro ⟨i, hi, le⟩
    obtain ⟨c, there, wood⟩ := (mem_woodCells cells i).mp hi
    refine ⟨c, List.mem_of_getElem? (i := i - n) ?_, decide_eq_true wood⟩
    rw [List.getElem?_drop, Nat.add_sub_cancel' le]
    exact there
  · rintro ⟨c, hc, wood⟩
    obtain ⟨j, there⟩ := List.mem_iff_getElem?.mp hc
    rw [List.getElem?_drop] at there
    exact ⟨n + j, (mem_woodCells cells _).mpr ⟨c, there, of_decide_eq_true wood⟩, Nat.le_add_right n j⟩

theorem slashSet_eq (cells : List Cell) : slashSet cells =
    (List.range 13).filter fun k => (cells.drop (4 * k)).any fun c => decide (c ≠ .absent ∧ c ≠ .unreported) := by
  unfold slashSet
  cases found : lastCell cells with
  | none =>
    refine (List.filter_eq_nil_iff.mpr fun k _ reaches => ?_).symm
    obtain ⟨last, some_, _⟩ := (lastCell_reaches cells (4 * k)).mpr reaches
    rw [found] at some_
    cases some_
  | some last =>
    refine List.filter_congr fun k _ => ?_
    rw [Bool.eq_iff_iff, ← lastCell_reaches, found]
    simp

end Sys2Proof.Machine
end

section
/-! PROOF. The commits that reserve no bin, and those that reserve one (O17, O18). -/

namespace Sys2Proof.Machine

/-! ### The bin a KEEP piece asks for (R120) -/

theorem Bin.available_iff (x : Bin) : x.available = true ↔ x.state = .opened ∧ x.count + x.reserved < x.capacity := by
  simp [Bin.available]

theorem binAvailable_some {u : State} {b : Nat} {x : Bin} (there : u.bins[b]? = some x) :
    binAvailable u (some b) = x.available := by
  rw [binAvailable, there]
  rfl

theorem binAvailable_none {u : State} {named : Option Nat} (full : ∀ b x, named = some b → u.bins[b]? = some x →
    ¬(x.state = .opened ∧ x.count + x.reserved < x.capacity)) : binAvailable u named = false := by
  cases named with
  | none => rfl
  | some b =>
    cases there : u.bins[b]? with
    | none => rw [binAvailable, there]; rfl
    | some x =>
      rw [binAvailable_some there, Bool.eq_false_iff]
      exact fun available => full b x rfl there (x.available_iff.mp available)

theorem binFor_eq {u : State} {p : Piece} {l r grade product value : Nat} {row : SortRow}
    (decision : p.decision = some (.keep l r grade product value))
    (routed : (u.bank p.bank).sort.rows[grade * 12 + (r - l - 1)]? = some row) : binFor u p =
      if binAvailable u row.primary then row.primary
      else if binAvailable u row.alternate then row.alternate else none := by
  unfold binFor
  rw [decision]
  simp only [Bank.sortRow, routed]

/-! ### The commits that reserve no bin (R94 to R97) -/

theorem pathOf_run {p : Piece} (unsuspect : p.suspect = none) : pathOf .run p =
    match p.decision with
    | none => .unsolved
    | some .slash => .slash
    | some (.keep ..) => if (p.override.map Override.kind) = some .regrade then .regrade else .keep := by
  exact (if_neg (by simp [unsuspect])).trans (if_neg (by simp))

/-- Settles O17. -/
theorem commitWithoutABin : Obligations.CommitWithoutABin := by
  refine ⟨fun s g p o station fixed => ?outcome, fun s g p saws o station unsuspect running lines path => ⟨fun room => ?joined,
    fun some_ room => ?refused⟩⟩
  case outcome =>
    obtain ⟨u, run, arrived, line, _, found, position⟩ := lugEdge_atStation station
    rw [visitStations_commit (Geometry.stations station.inRange station.drops) _ position] at run
    have key : ∃ path, pathOf u.line.state p = path ∧ reservationOf path u p = none ∧ sawsOf path p = [] ∧
        outcomeOf path none = some o := by
      rw [line]
      unfold pathOf
      split at fixed
      · rename_i suspect
        subst fixed
        exact ⟨.suspect, if_pos suspect, rfl, rfl, rfl⟩
      · rename_i unsuspect
        split at fixed
        · rename_i stopped
          subst fixed
          exact ⟨.untrimmed, (if_neg unsuspect).trans (if_pos stopped), rfl, rfl, rfl⟩
        · rename_i running
          obtain ⟨undecided, rfl⟩ := fixed
          exact ⟨.unsolved, by rw [if_neg unsuspect, if_neg running, undecided], rfl, rfl, rfl⟩
    obtain ⟨path, taken, unbound, none, outcome⟩ := key
    have committed := writeCommit_committed arrived .runOut (some o) false rfl rfl rfl rfl
    rw [commitPiece_unsawn found taken unbound none, outcome] at run
    rw [Piece.committed_unflagged] at committed
    obtain ⟨_, _, output, bins, _, _, _, link, _⟩ := arrived.blocks
    refine ⟨_, run, committed.pieces, committed.solver, committed.lapsed, ?_, ?_, ?_, ?_, committed.tally, committed.finished⟩
    · simpa using output
    · simpa using bins
    · simpa using line
    · simpa using link
  all_goals
    obtain ⟨u, run, arrived, line, _, found, position⟩ := lugEdge_atStation station
    rw [visitStations_commit (Geometry.stations station.inRange station.drops) _ position] at run
    obtain ⟨_, _, output, bins, _, _, _, link, store, _⟩ := arrived.blocks
    have key : ∃ taken, pathOf u.line.state p = taken ∧ reservationOf taken u p = none ∧ sawsOf taken p = saws ∧
        outcomeOf taken none = o := by
      rw [line, running, pathOf_run unsuspect]
      rcases path with ⟨decision, rfl, rfl⟩ | ⟨l, r, grade, product, value, decision, rfl, path⟩
      · rw [decision]
        exact ⟨.slash, rfl, rfl, slashSet_eq _, rfl⟩
      · have saws : keepSaws p.decision = [l, r] := by rw [decision]; rfl
        rcases path with ⟨regrade, rfl⟩ | ⟨kept, rfl, row, routed, full⟩
        · refine ⟨.regrade, ?_, rfl, saws, rfl⟩
          rw [decision]
          exact if_pos regrade
        · refine ⟨.keep, ?_, ?_, saws, rfl⟩
          · rw [decision]
            exact if_neg kept
          · rw [← bank_of_store store] at routed
            rw [← bins] at full
            rw [reservationOf, binFor_eq decision routed, binAvailable_none fun b x h => full b x (.inl h),
              binAvailable_none fun b x h => full b x (.inr h)]
            rfl
    obtain ⟨taken, path', unbound, sawsOf_, outcome⟩ := key
    have halted : u.line.state ≠ .halt := by rw [line, running]; decide
  case joined =>
    by_cases none : saws = []
    · subst none
      have committed := writeCommit_committed arrived .runOut o false rfl rfl rfl rfl
      rw [commitPiece_unsawn found path' unbound sawsOf_, outcome] at run
      rw [Piece.committed_unflagged] at committed
      refine ⟨_, run, committed.pieces, committed.solver, committed.lapsed, ?_, ?_, ?_, ?_, fun e => ?_, ?_, ?_, committed.tally⟩
      · simpa using bins
      · simp [output]
      · simpa [output] using lines
      · simp [output]
      · simp [output]
      · simpa using line
      · simpa using link
    · have joined := addEntries_waiting (s := u) (enc := .chain) (es := saws.map (sawEntry g s.chain.count p.lug)) halted
        (by rw [output, held_eq, List.length_map]; exact room) (fun e he => by
          obtain ⟨k, _, rfl⟩ := List.mem_map.mp he
          have count : u.encoderCount .chain = s.chain.count := (congrArg Chain.count arrived.chain :)
          rw [count]
          exact sawEntry_waits station.inRange _ _ _)
      obtain ⟨out, taken_, follows, length, members, others⟩ := joined
      have committed := writeCommit_committed arrived (v := { u with output := out }) .runOut o false rfl rfl rfl rfl
      rw [commitPiece_joined found path' unbound (es := saws.map (sawEntry g s.chain.count p.lug)) (by rw [sawsOf_]; simp)
        (by simpa using none) taken_, outcome] at run
      rw [Piece.committed_unflagged] at committed
      refine ⟨_, run, committed.pieces, committed.solver, committed.lapsed, ?_, ?_, ?_, ?_, fun e => ?_, ?_, ?_, committed.tally⟩
      · simpa using bins
      · simp only [stepGovernor_frame, writeCommit_frame]
        exact (others .log (by decide)).trans (congrArg Output.log output)
      · simpa using follows
      · simp only [stepGovernor_frame, writeCommit_frame]
        exact length.trans (by rw [output, List.length_map]; rfl)
      · simp only [stepGovernor_frame, writeCommit_frame]
        refine (members e).trans ?_
        rw [output, List.mem_map]
        exact or_congr Iff.rfl (exists_congr fun k => and_congr Iff.rfl eq_comm)
      · simpa using line
      · simpa using link
  case refused =>
    have refused : addEntries .chain (saws.map (sawEntry g s.chain.count p.lug)) u = none := by
      rw [addEntries_none, output, held_eq, List.length_map]
      exact .inr room
    have committed := writeCommit_committed arrived (v := countFault .scheduleFull u) .runOut (some .untrimmed) true rfl rfl rfl rfl
    rw [commitPiece_refused found path' unbound (es := saws.map (sawEntry g s.chain.count p.lug)) (by rw [sawsOf_]; simp)
      (by simpa using some_) refused] at run
    rw [Piece.committed_flagged] at committed
    refine ⟨_, run, committed.pieces, committed.solver, committed.lapsed, ?_, ?_, ?_, committed.tally, ?_⟩
    · simpa using bins
    · simpa using output
    · simpa using link
    · simp only [Option.elim_none, stepGovernor_frame, writeCommit_frame]
      rw [countFault, State.onLine_line, line]
      rfl

/-! ### The commit that reserves a bin (R95, R112, R120, R121) -/

theorem reserveBin_spec {u : State} {b : Nat} {x : Bin} (there : u.bins[b]? = some x) :
    let y : Bin := { x with reserved := x.reserved + 1, full := decide (x.capacity ≤ x.count + x.reserved + 1) }
    (reserveBin b u).bins = u.bins.set b y ∧
    (reserveBin b u).link = u.link.binNoticed b x y .reservation u.chain.lug := by
  obtain ⟨bins, link, _⟩ := changeBin_becomes (f := fun b => { b with reserved := b.reserved + 1 }) .reservation there rfl rfl
  exact ⟨bins, link⟩

theorem releaseBin_spec {u : State} {b : Nat} {y : Bin} (there : u.bins[b]? = some y) :
    let z : Bin := { y with reserved := y.reserved - 1, full := decide (y.capacity ≤ y.count + (y.reserved - 1)) }
    (releaseBin b u).bins = u.bins.set b z ∧ (releaseBin b u).link = u.link.binNoticed b y z .release u.chain.lug := by
  obtain ⟨bins, link, _⟩ := changeBin_becomes (f := fun b => { b with reserved := b.reserved - 1 }) .release there rfl rfl
  exact ⟨bins, link⟩

/-- Settles O18. -/
theorem commitKeepsToABin : Obligations.CommitKeepsToABin := by
  intro s g p l r grade product value b row x y z station unsuspect running decision kept routed inRange there opened room
    named becomes again
  obtain ⟨u, run, arrived, line, _, found, position⟩ := lugEdge_atStation station
  rw [visitStations_commit (Geometry.stations station.inRange station.drops) _ position] at run
  obtain ⟨_, _, output, bins, _, _, _, link, store, _⟩ := arrived.blocks
  have lug : u.chain.lug = s.chain.lug + 1 := (congrArg Chain.lug arrived.chain :)
  have path : pathOf u.line.state p = .keep := by
    rw [line, running, pathOf_run unsuspect, decision]
    exact if_neg kept
  rw [← bins] at there
  have available : binAvailable u (some b) = true := (binAvailable_some there).trans (x.available_iff.mpr ⟨opened, room⟩)
  have reserved : reservationOf .keep u p = some b := by
    rw [← bank_of_store store] at routed
    rw [reservationOf, binFor_eq decision routed]
    rcases named with primary | ⟨alternate, full⟩
    · rw [primary, if_pos available]
    · rw [← bins] at full
      rw [binAvailable_none full, if_neg Bool.false_ne_true, alternate, if_pos available]
  have saws : sawsOf .keep p = [l, r] := by
    rw [sawsOf, decision]
    rfl
  obtain ⟨binsHeld, linkHeld⟩ := reserveBin_spec there
  rw [bins, ← becomes] at binsHeld
  rw [link, lug, ← becomes] at linkHeld
  have blocks : (reserveBin b u).chain = u.chain ∧ (reserveBin b u).solver = u.solver ∧
      (reserveBin b u).panels = u.panels ∧ (reserveBin b u).tally = u.tally ∧ (reserveBin b u).output = u.output ∧
      (reserveBin b u).line = u.line := by simp
  generalize held : reserveBin b u = v at binsHeld linkHeld blocks
  obtain ⟨chain, solver, panels, tally, outputHeld, lineHeld⟩ := blocks
  have halted : v.line.state ≠ .halt := by rw [lineHeld, line, running]; decide
  generalize entries : [sawEntry g s.chain.count p.lug l, sawEntry g s.chain.count p.lug r, gateEntry g s.chain.count p.lug b] = es
  have three : es.length = 3 := by rw [← entries]; rfl
  have joining : es = (sawsOf .keep p).map (sawEntry g s.chain.count p.lug) ++
      ((some b).map (gateEntry g s.chain.count p.lug)).toList := by rw [saws, ← entries]; rfl
  have some_ : es ≠ [] := by rw [← entries]; simp
  refine ⟨fun free => ?joined, fun full => ?refused⟩
  case joined =>
    have waits : ∀ e ∈ es, e.turnOn (v.encoderCount .chain) = some e := by
      have count : v.encoderCount .chain = s.chain.count :=
        (congrArg Chain.count chain).trans (congrArg Chain.count arrived.chain :)
      rw [count, ← entries]
      simp only [List.mem_cons, List.not_mem_nil, or_false]
      rintro e (rfl | rfl | rfl)
      · exact sawEntry_waits station.inRange _ _ _
      · exact sawEntry_waits station.inRange _ _ _
      · exact gateEntry_waits station.inRange station.drops _ _ inRange
    obtain ⟨out, taken, follows, length, members, others⟩ := addEntries_waiting (enc := .chain) (es := es) halted
      (by rw [outputHeld, output, held_eq, three]; exact free) waits
    have committed := writeCommit_committed arrived (v := { v with output := out }) (.bin b) none false chain solver panels tally
    have joined : addEntries .chain es ((some b).elim u fun b => reserveBin b u) = some { v with output := out } :=
      (congrArg (addEntries .chain es) held).trans taken
    rw [commitPiece_joined found path reserved joining some_ joined] at run
    rw [Piece.committed_unflagged] at committed
    refine ⟨_, run, committed.pieces, committed.solver, committed.lapsed, ?_, ?_, ?_, committed.tally, committed.finished,
      ?_, ?_, ?_, fun e => ?_⟩ <;> simp only [stepGovernor_frame, writeCommit_frame]
    · exact binsHeld
    · exact linkHeld
    · exact lineHeld.trans line
    · exact (others .log (by decide)).trans (congrArg Output.log (outputHeld.trans output))
    · exact follows
    · exact length.trans (by rw [outputHeld, output, three]; rfl)
    · refine (members e).trans ?_
      rw [outputHeld, output, ← entries]
      simp only [List.mem_cons, List.not_mem_nil, or_false]
      exact Iff.rfl
  case refused =>
    have refused : addEntries .chain es ((some b).elim u fun b => reserveBin b u) = none := by
      refine (congrArg (addEntries .chain es) held).trans ?_
      rw [addEntries_none, outputHeld, output, held_eq, three]
      exact .inr full
    have reservedBin : v.bins[b]? = some y := by
      rw [binsHeld]
      exact List.getElem?_set_self (bins ▸ (List.getElem?_eq_some_iff.mp there).1)
    obtain ⟨binsFreed, linkFreed⟩ := releaseBin_spec reservedBin
    have back : ({ y with reserved := y.reserved - 1, full := decide (y.capacity ≤ y.count + (y.reserved - 1)) } : Bin) = z := by
      rw [becomes, again]
      rfl
    rw [back, binsHeld, List.set_set] at binsFreed
    rw [back, linkHeld, chain, lug] at linkFreed
    have blocks : (releaseBin b v).chain = v.chain ∧ (releaseBin b v).solver = v.solver ∧
        (releaseBin b v).panels = v.panels ∧ (releaseBin b v).tally = v.tally ∧ (releaseBin b v).output = v.output ∧
        (releaseBin b v).line = v.line := by simp
    obtain ⟨chain', solver', panels', tally', output', line'⟩ := blocks
    have committed := writeCommit_committed arrived (v := countFault .scheduleFull (releaseBin b v)) .runOut (some .untrimmed) true
      (chain'.trans chain) (solver'.trans solver) (panels'.trans panels) (tally'.trans tally)
    rw [commitPiece_refused found path reserved joining some_ refused] at run
    simp only [Option.elim_some, held] at run
    rw [Piece.committed_flagged] at committed
    refine ⟨_, run, committed.pieces, committed.solver, committed.lapsed, ?_, ?_, ?_, committed.tally, committed.finished, ?_⟩ <;>
      simp only [stepGovernor_frame, writeCommit_frame]
    · exact binsFreed
    · exact linkFreed
    · exact output'.trans (outputHeld.trans output)
    · rw [countFault, State.onLine_line, line', lineHeld, line]
      rfl

end Sys2Proof.Machine
end

section
/-! PROOF. A log finishes at its kick point and is counted (O37). -/

namespace Sys2Proof.Machine

/-! ### A finished log in the period (R144, R145) -/

theorem Period.countLog_eq (p : Period) (o : LogOutcome) :
    p.countLog o = { p with
      entries := min (2 ^ 32 - 1) (p.entries + 1)
      logOutcomes := p.logOutcomes.modify o.code fun n => min (2 ^ 32 - 1) (n + 1)
      saturated := p.saturated || min (2 ^ 32 - 1) (p.entries + 1) == 2 ^ 32 - 1 ||
        (p.logOutcomes.modify o.code fun n => min (2 ^ 32 - 1) (n + 1))[o.code]? == some (2 ^ 32 - 1) } := rfl

theorem LogCell.add_eq (c : LogCell) (o : LogOutcome) (volume : Nat) : c.add (decide (o = .accepted)) volume =
    { accepted := if o = .accepted then min (2 ^ 32 - 1) (c.accepted + 1) else c.accepted
      acceptedVol := if o = .accepted then min (2 ^ 48 - 1) (c.acceptedVol + volume) else c.acceptedVol
      all := min (2 ^ 32 - 1) (c.all + 1), allVol := min (2 ^ 48 - 1) (c.allVol + volume) } := by
  cases o <;> rfl

theorem LogCell.atTop_iff (c : LogCell) : c.atTop = true ↔
    c.accepted = 2 ^ 32 - 1 ∨ c.acceptedVol = 2 ^ 48 - 1 ∨ c.all = 2 ^ 32 - 1 ∨ c.allVol = 2 ^ 48 - 1 := by
  simp only [LogCell.atTop, tallyMax, sumMax, Bool.or_eq_true, beq_iff_eq]
  tauto

/-- What counts a log, with its outcome's place in the counters by its code. -/
theorem LogCounted.of_code {r : LogRecord} {o : LogOutcome} {p q : Period}
    (entries : q.entries = min (2 ^ 32 - 1) (p.entries + 1))
    (outcomes : q.logOutcomes = p.logOutcomes.modify o.code fun n => min (2 ^ 32 - 1) (n + 1))
    (measured : ∀ f d, o ≠ .unmeasured → r.figures = some f → f.diameterClass = some d →
      q.logCells = p.logCells.modify (d - 4) fun c => c.add (decide (o = .accepted)) f.volume)
    (unmeasured : (o = .unmeasured ∨ ∀ f, r.figures = some f → f.diameterClass = none) → q.logCells = p.logCells)
    (rest : q = { p with entries := q.entries, logOutcomes := q.logOutcomes, logCells := q.logCells
                         saturated := q.saturated })
    (kept : p.saturated = true → q.saturated = true)
    (saturated : p.saturated = false → (q.saturated = true ↔
      q.entries = 2 ^ 32 - 1 ∨ q.logOutcomes[o.code]? = some (2 ^ 32 - 1) ∨
      ∃ f d c, o ≠ .unmeasured ∧ r.figures = some f ∧ f.diameterClass = some d ∧ q.logCells[d - 4]? = some c ∧
        c.atTop = true)) : LogCounted r o p q := by
  have added : ∀ f d, o ≠ .unmeasured → r.figures = some f → f.diameterClass = some d →
      q.logCells = p.logCells.modify (d - 4) fun c =>
        { accepted := if o = .accepted then min (2 ^ 32 - 1) (c.accepted + 1) else c.accepted
          acceptedVol := if o = .accepted then min (2 ^ 48 - 1) (c.acceptedVol + f.volume) else c.acceptedVol
          all := min (2 ^ 32 - 1) (c.all + 1), allVol := min (2 ^ 48 - 1) (c.allVol + f.volume) } :=
    fun f d h figures class_ => (measured f d h figures class_).trans
      (congrArg (p.logCells.modify (d - 4)) (funext fun c => c.add_eq o f.volume))
  simp only [LogCell.atTop_iff] at saturated
  cases o <;> exact ⟨entries, outcomes, added, unmeasured, rest, kept, saturated⟩

/-- A log that counts in no diameter class (R144 step 1 alone). -/
theorem countLog_counted (r : LogRecord) (o : LogOutcome) (p : Period)
    (classless : o = .unmeasured ∨ ∀ f, r.figures = some f → f.diameterClass = none) : LogCounted r o p (p.countLog o) := by
  have absent : ∀ f d, o ≠ .unmeasured → r.figures = some f → f.diameterClass = some d → False := by
    intro f d measured figures class_
    rcases classless with rfl | none
    · exact measured rfl
    · rw [none f figures] at class_
      cases class_
  rw [Period.countLog_eq]
  refine .of_code rfl rfl (fun f d measured figures class_ => (absent f d measured figures class_).elim) (fun _ => rfl) rfl
    (fun set => ?_) fun clear => ?_
  · dsimp only
    rw [set]
    rfl
  · simp only [clear, Bool.false_or, Bool.or_eq_true, beq_iff_eq]
    constructor
    · rintro (entries | outcome)
      · exact .inl entries
      · exact .inr (.inl outcome)
    · rintro (entries | outcome | ⟨f, d, c, measured, figures, class_, _⟩)
      · exact .inl entries
      · exact .inr outcome
      · exact (absent f d measured figures class_).elim

/-- A log measured counts in the cell of its diameter class too (R144 steps 2 and 3). -/
theorem countClass_counted {r : LogRecord} {o : LogOutcome} {f : Figures} {d : Nat} (p : Period) (measured : o ≠ .unmeasured)
    (figures : r.figures = some f) (class_ : f.diameterClass = some d) :
    LogCounted r o p ((p.countLog o).countClass d (decide (o = .accepted)) f.volume) := by
  have only : ∀ f' d', r.figures = some f' → f'.diameterClass = some d' → f' = f ∧ d' = d := by
    intro f' d' figures' class'
    cases figures.symm.trans figures'
    cases class_.symm.trans class'
    exact ⟨rfl, rfl⟩
  have cells : ((p.countLog o).countClass d (decide (o = .accepted)) f.volume) = { p.countLog o with
      logCells := p.logCells.modify (d - 4) fun c => c.add (decide (o = .accepted)) f.volume
      saturated := (p.countLog o).saturated ||
        ((p.logCells.modify (d - 4) fun c => c.add (decide (o = .accepted)) f.volume)[d - 4]?).elim false LogCell.atTop } := rfl
  rw [cells, Period.countLog_eq]
  refine .of_code rfl rfl (fun f' d' _ figures' class' => ?_) (fun unmeasured => ?_) rfl (fun set => ?_) fun clear => ?_
  · obtain ⟨rfl, rfl⟩ := only f' d' figures' class'
    rfl
  · rcases unmeasured with same | none
    · exact absurd same measured
    · rw [none f figures] at class_
      cases class_
  · dsimp only
    rw [set]
    rfl
  · simp only [clear, Bool.false_or, Bool.or_eq_true, beq_iff_eq]
    generalize (p.logCells.modify (d - 4) fun c => c.add (decide (o = .accepted)) f.volume) = l
    constructor
    · rintro ((entries | outcome) | top)
      · exact .inl entries
      · exact .inr (.inl outcome)
      · cases there : l[d - 4]? with
        | none => rw [there] at top; cases top
        | some c =>
          rw [there] at top
          exact .inr (.inr ⟨f, d, c, measured, figures, class_, there, top⟩)
    · rintro (entries | outcome | ⟨f', d', c, _, figures', class', there, top⟩)
      · exact .inl (.inl entries)
      · exact .inl (.inr outcome)
      · obtain ⟨rfl, rfl⟩ := only f' d' figures' class'
        rw [there]
        exact .inr top

theorem takeLog_counted (r : LogRecord) (o : LogOutcome) (p : Period) : LogCounted r o p (p.takeLog r o) := by
  by_cases unmeasured : o = .unmeasured
  · subst unmeasured
    exact countLog_counted r _ p (.inl rfl)
  · cases figures : r.figures with
    | none =>
      have taken : p.takeLog r o = p.countLog o := by
        unfold Period.takeLog
        rw [figures]
        cases o <;> rfl
      rw [taken]
      exact countLog_counted r o p (.inr fun f h => by rw [figures] at h; cases h)
    | some f =>
      cases class_ : f.diameterClass with
      | none =>
        have taken : p.takeLog r o = p.countLog o := by
          unfold Period.takeLog
          rw [figures]
          cases o <;> simp only [class_]
        rw [taken]
        exact countLog_counted r o p (.inr fun f' h => by rw [figures] at h; cases h; exact class_)
      | some d =>
        have taken : p.takeLog r o = (p.countLog o).countClass d (decide (o = .accepted)) f.volume := by
          unfold Period.takeLog
          rw [figures]
          cases o
          case unmeasured => exact absurd rfl unmeasured
          all_goals simp only [class_]
        rw [taken]
        exact countClass_counted p unmeasured figures class_

/-! ### The one record in the queue finished (R140) -/

theorem log?_alone {v : State} {r : LogRecord} (alone : v.logs.queue = [r]) : v.log? r.number = some r := by
  rw [State.log?, alone]
  simp

/-- The one record in the queue finishes: it leaves the queue, is counted, and its LOG_DONE is made. -/
theorem finishLog_alone {v : State} {r : LogRecord} (o : LogOutcome) (cause : Option EndCause) (alone : v.logs.queue = [r]) :
    let t := finishLog r.number o cause v
    t.logs = { v.logs with queue := [], openLog := if v.logs.openLog = some r.number then none else v.logs.openLog } ∧
    t.link = v.link.noticed (.logDone { r with outcome := some o, endCause := cause }) ∧
    LogCounted r o v.tally.period t.tally.period ∧ t.tally.snapshot = v.tally.snapshot ∧ OnlyPressure v t ∧
    t = { v with logs := t.logs, tally := t.tally, link := t.link, governor := t.governor } := by
  have finish : finishLog r.number o cause v = queueNotice (.logDone { r with outcome := some o, endCause := cause })
      (tallyLog { r with outcome := some o, endCause := cause } o (v.onLogs fun m =>
        { m with queue := m.queue.eraseP fun q => q.number == r.number
                 openLog := if m.openLog = some r.number then none else m.openLog })) := by
    unfold finishLog
    rw [log?_alone alone]
  intro t
  have frame : t = { v with logs := t.logs, tally := t.tally, link := t.link, governor := t.governor } := by
    apply State.eq_of_blocks <;> simp [t]
  refine ⟨?_, ?_, ?_, ?_, ?_, frame⟩
  · simp [t, finish, tallyLog, alone]
  · exact (congrArg State.link finish).trans (queueNotice_link _ _)
  · have tally : t.tally = (tallyLog { r with outcome := some o, endCause := cause } o (v.onLogs fun m =>
        { m with queue := m.queue.eraseP fun q => q.number == r.number
                 openLog := if m.openLog = some r.number then none else m.openLog })).tally := by
      simp [t, finish]
    rw [tally]
    exact takeLog_counted r o v.tally.period
  · simp [t, finish, tallyLog]
  · have noticed := queueNotice_onlyPressure (tallyLog { r with outcome := some o, endCause := cause } o (v.onLogs fun m =>
        { m with queue := m.queue.eraseP fun q => q.number == r.number
                 openLog := if m.openLog = some r.number then none else m.openLog }))
        (.logDone { r with outcome := some o, endCause := cause })
    rw [← finish] at noticed
    exact noticed

/-! ### The kick point (R140) -/

theorem kickOutcome_eq {r : LogRecord} {isOpen : Bool} {o : LogOutcome} {cause : Option EndCause}
    (finishes : r.FinishesAs isOpen o cause) : kickOutcome isOpen r = (o, cause) := by
  unfold LogRecord.FinishesAs at finishes
  unfold kickOutcome
  cases decision : r.decision with
  | none =>
    rw [decision] at finishes
    obtain ⟨rfl, rfl⟩ := finishes
    rfl
  | some d =>
    rw [decision] at finishes
    cases d with
    | accept =>
      obtain ⟨rfl, rfl⟩ := finishes
      rfl
    | reject why =>
      obtain ⟨rfl, ⟨kick, rfl⟩ | ⟨kick | kick, rfl⟩ | ⟨kick | kick, rfl⟩⟩ := finishes <;> simp only [kick]

theorem weighKicks_none {v : State} (short : ∀ r ∈ v.logs.queue, reached v.logs.count r.kickPoint = false) :
    weighKicks v = v := by
  have none : (v.logs.queue.filter fun r => reached v.logs.count r.kickPoint) = [] :=
    List.filter_eq_nil_iff.mpr fun r hr => ne_true_of_eq_false (short r hr)
  unfold weighKicks
  rw [none]
  rfl

theorem weighKicks_alone {v : State} {r : LogRecord} {o : LogOutcome} {cause : Option EndCause} (alone : v.logs.queue = [r])
    (point : reached v.logs.count r.kickPoint = true)
    (finishes : r.FinishesAs (decide (v.logs.openLog = some r.number)) o cause) :
    weighKicks v = finishLog r.number o cause v := by
  have one : (v.logs.queue.filter fun x => reached v.logs.count x.kickPoint) = [r] := by
    rw [alone]
    exact List.filter_eq_self.mpr fun x hx => by rw [List.mem_singleton.mp hx]; exact point
  unfold weighKicks
  rw [one]
  have finish : finishAtKick r.number v = finishLog r.number o cause v := by
    unfold finishAtKick
    rw [log?_alone alone]
    simp only [kickOutcome_eq finishes]
  exact finish

/-- Settles O37. -/
theorem logFinishesAtItsKickPoint : Obligations.LogFinishesAtItsKickPoint := by
  refine ⟨fun s r o cause alone point finishes => ?_, fun s short => congrArg Host.Outcome.next (weighKicks_none short)⟩
  exact ⟨_, congrArg Host.Outcome.next (weighKicks_alone alone point finishes), finishLog_alone o cause alone⟩

end Sys2Proof.Machine
end

section
/-! PROOF. The log encoder counts, takes the entries and kick points it reaches, and a fault ends every log (O36). -/

namespace Sys2Proof.Machine

/-! ### Logs finished (R140, R141) -/

/-- The counters of the log measurer that a finish leaves. -/
def Logs.marks (m : Logs) : Count × Count × LogNo := (m.count, m.highest, m.number)

@[simp] theorem finishLog_marks (n : LogNo) (o : LogOutcome) (cause : Option EndCause) (s : State) :
    (finishLog n o cause s).logs.marks = s.logs.marks := by
  unfold finishLog
  split
  · rfl
  · simp [tallyLog, Logs.marks]

@[simp] theorem finishAtKick_marks (n : LogNo) (s : State) : (finishAtKick n s).logs.marks = s.logs.marks := by
  unfold finishAtKick
  split
  · rfl
  · simp

theorem weighKicks_marks (s : State) : (weighKicks s).logs.marks = s.logs.marks :=
  foldl_keeps (fun t => t.logs.marks) _ (fun t n => finishAtKick_marks n t) _ s

theorem finishLog_queue (n : LogNo) (o : LogOutcome) (cause : Option EndCause) (s : State) :
    (finishLog n o cause s).logs.queue = s.logs.queue.eraseP fun r => r.number == n := by
  unfold finishLog
  split
  · rename_i absent
    exact (List.eraseP_of_forall_not fun r hr => List.find?_eq_none.mp absent r hr).symm
  · simp [tallyLog]

theorem finishLogs_queue (o : LogOutcome) (cause : Option EndCause) (l : List LogRecord) (s : State)
    (queue : s.logs.queue = l) :
    ((l.map LogRecord.number).foldl (fun t n => finishLog n o cause t) s).logs.queue = [] := by
  induction l generalizing s with
  | nil => exact queue
  | cons r l ih =>
    refine ih _ ?_
    rw [finishLog_queue, queue]
    exact List.eraseP_cons_of_pos (beq_self_eq_true _)

/-- Every record finished and the open log none (R127, R141). -/
theorem finishAllLogs_spec (cause : EndCause) (v : State) :
    (finishAllLogs cause v).logs = { v.logs with queue := [], openLog := none } ∧
    ∀ r, v.logs.queue = [r] →
      (finishAllLogs cause v).link = v.link.noticed (.logDone { r with outcome := some .unmeasured, endCause := some cause }) ∧
      LogCounted r .unmeasured v.tally.period (finishAllLogs cause v).tally.period ∧
      (finishAllLogs cause v).tally.snapshot = v.tally.snapshot := by
  have finished : finishAllLogs cause v = ((v.logs.queue.map LogRecord.number).foldl
      (fun t n => finishLog n .unmeasured (some cause) t) v).onLogs fun m => { m with openLog := none } := rfl
  constructor
  · have queue := finishLogs_queue .unmeasured (some cause) v.logs.queue v rfl
    have marks := foldl_keeps (fun t => t.logs.marks) (fun t n => finishLog n .unmeasured (some cause) t)
      (fun t n => finishLog_marks n _ _ t) (v.logs.queue.map LogRecord.number) v
    rw [finished]
    generalize (v.logs.queue.map LogRecord.number).foldl (fun t n => finishLog n .unmeasured (some cause) t) v = t
      at queue marks
    simp only [Logs.marks, Prod.mk.injEq] at marks
    obtain ⟨count, highest, number⟩ := marks
    rw [State.onLogs_logs, queue, count, highest, number]
  · intro r alone
    obtain ⟨_, link, counted, snapshot, _⟩ := finishLog_alone .unmeasured (some cause) alone
    have one : finishAllLogs cause v = (finishLog r.number .unmeasured (some cause) v).onLogs fun m => { m with openLog := none } := by
      rw [finished, alone]
      rfl
    rw [one]
    exact ⟨link, counted, snapshot⟩

/-! ### A LOG_ENCODER fault (R126, R127) -/

/-- What a LOG_ENCODER fault does: it is counted, the LOG entries are removed, and every record is finished. -/
structure LogFaulted (v t : State) : Prop where
  logs : t.logs = { v.logs with queue := [], openLog := if v.logs.queue = [] then v.logs.openLog else none }
  output : t.output = v.output.setEntries .log []
  line : t.line = { v.line with counters := { v.line.counters with logEncoder := v.line.counters.logEncoder.bump } }
  finish : ∀ r, v.logs.queue = [r] →
    t.link = v.link.noticed (.logDone { r with outcome := some .unmeasured, endCause := some .fault }) ∧
    LogCounted r .unmeasured v.tally.period t.tally.period ∧ t.tally.snapshot = v.tally.snapshot
  quiet : v.logs.queue = [] → t.link = v.link ∧ t.tally = v.tally

theorem logEncoderFault_spec (v : State) : LogFaulted v (logEncoderFault v) := by
  generalize cancelled : cancelEncoder .log (countFault .logEncoder v) = u
  have blocks : u.logs = v.logs ∧ u.link = v.link ∧ u.tally = v.tally ∧ u.output = v.output.setEntries .log [] ∧
      u.line = { v.line with counters := { v.line.counters with logEncoder := v.line.counters.logEncoder.bump } } := by
    rw [← cancelled]
    exact ⟨rfl, rfl, rfl, rfl, rfl⟩
  obtain ⟨logs, link, tally, output, line⟩ := blocks
  have fault : logEncoderFault v = if u.logs.queue.isEmpty then u else finishAllLogs .fault u := by
    rw [← cancelled]
    rfl
  by_cases empty : v.logs.queue = []
  · have same : logEncoderFault v = u := by rw [fault, logs, empty]; rfl
    rw [same]
    refine ⟨?_, output, line, fun r alone => ?_, fun _ => ⟨link, tally⟩⟩
    · rw [if_pos empty, ← empty]
      exact logs
    · rw [empty] at alone
      cases alone
  · have same : logEncoderFault v = finishAllLogs .fault u := by rw [fault, logs, if_neg (by simpa using empty)]
    obtain ⟨emptied, finish⟩ := finishAllLogs_spec .fault u
    rw [same]
    refine ⟨?_, ?_, ?_, fun x alone => ?_, fun none => absurd none empty⟩
    · rw [if_neg empty]
      exact emptied.trans (by rw [logs])
    · exact (finishAllLogs_frame _ _).2.2.2.2.2.1.trans output
    · exact (finishAllLogs_frame _ _).2.2.2.2.2.2.2.1.trans line
    · have finish := finish x (logs ▸ alone)
      rw [link, tally] at finish
      exact finish

/-! ### A legal transition (R126, R127) -/

theorem Entry.take_eq (c : Count) (e : Entry) : e.take c =
    if e.on = true then (if reached c e.stop then none else some e)
    else if reached c e.start then (if reached c e.stop then none else some { e with on := true }) else some e := by
  unfold Entry.take Entry.finish Entry.turnOn
  cases on : e.on with
  | false => simp [on]
  | true => cases ended : reached c e.stop <;> simp [on]

/-- The log measurer's counters after a legal transition. -/
theorem Logs.move_eq {forward : Bool} {m : Logs} {c h : Count} (count : c = if forward then m.count + 1 else m.count - 1)
    (highest : h = if forward = true ∧ m.queue ≠ [] ∧ later c m.highest = true then c else m.highest) :
    m.move forward = { m with count := c, highest := h } := by
  unfold Logs.move
  rw [highest, count]
  cases forward
  · rfl
  · simp

/-- Settles O36. -/
theorem logEncoderIsCounted : Obligations.LogEncoderIsCounted := by
  refine ⟨fun forward s c h count highest => ?legal, fun s => ?illegal⟩
  case illegal =>
    obtain ⟨logs, output, line, finish, quiet⟩ := logEncoderFault_spec s
    obtain ⟨entries, others⟩ := setEntries_entries s.output .log []
    refine ⟨_, rfl, by rw [logs], by rw [logs], by rw [logs], by rw [logs], fun some_ => by rw [logs, if_neg some_], ?_, ?_,
      ?_, line, finish, fun empty => ⟨(quiet empty).1, (quiet empty).2, ?_⟩, ?_⟩
    · rw [output]; exact entries
    · rw [output]; exact others .chain (by decide)
    · rw [output]; exact linesFollow_setEntries _ _ _
    · rw [logs, if_pos empty, ← empty]
    · apply State.eq_of_blocks <;> simp
  case legal =>
    refine ⟨logTransition forward s, rfl, ?_⟩
    have frame : logTransition forward s = { s with
        logs := (logTransition forward s).logs, output := (logTransition forward s).output
        tally := (logTransition forward s).tally, line := (logTransition forward s).line
        link := (logTransition forward s).link, governor := (logTransition forward s).governor } := by
      apply State.eq_of_blocks <;> simp
    generalize moved : s.onLogs (Logs.move forward) = m
    have logs : m.logs = { s.logs with count := c, highest := h } := by
      rw [← moved]
      exact Logs.move_eq count highest
    have blocks : m.output = s.output ∧ m.line = s.line ∧ m.link = s.link ∧ m.tally = s.tally ∧ m.store = s.store := by
      rw [← moved]
      exact ⟨rfl, rfl, rfl, rfl, rfl⟩
    obtain ⟨output, line, link, tally, store⟩ := blocks
    have transition : logTransition forward s = weighKicks (weighEntries .log (weighLogReversal m)) := by rw [← moved]; rfl
    have entries : ∀ es, (s.output.setEntries .log es).log = es ∧ (s.output.setEntries .log es).chain = s.output.chain :=
      fun es => ⟨(setEntries_entries s.output .log es).1, (setEntries_entries s.output .log es).2 .chain (by decide)⟩
    by_cases back : s.logs.queue ≠ [] ∧ ∃ g, s.store.geometry = some g ∧ reached c h = false ∧ g.reversalTol < (h - c).toNat
    · obtain ⟨some_, g, loaded, below, far⟩ := back
      have faulted : weighLogReversal m = logEncoderFault m := by
        unfold weighLogReversal
        rw [store, loaded]
        refine if_pos ?_
        rw [logs, fallenBelow, if_neg (ne_true_of_eq_false below), decide_eq_true far]
        simpa using some_
      have spec := logEncoderFault_spec m
      rw [← faulted] at spec
      rw [transition] at frame ⊢
      generalize weighLogReversal m = w at spec frame
      obtain ⟨logsW, outputW, lineW, finishW, _⟩ := spec
      generalize weighed : weighEntries .log w = v at frame
      have blocks : v.logs = w.logs ∧ v.line = w.line ∧ v.link = w.link ∧ v.tally = w.tally ∧
          v.output = s.output.setEntries .log [] := by
        rw [← weighed]
        refine ⟨by simp, by simp, by simp, by simp, ?_⟩
        simp only [weighEntries, State.onOutput_output]
        rw [outputW, output]
        rfl
      obtain ⟨logsV, lineV, linkV, tallyV, outputV⟩ := blocks
      have quiet : weighKicks v = v := weighKicks_none fun r hr => by rw [logsV, logsW] at hr; cases hr
      have some_' : m.logs.queue ≠ [] := by rw [logs]; exact some_
      rw [quiet] at frame ⊢
      refine ⟨?_, ?_, ?_, ?_, ?_, fun kept => ?_, fun g' _ loaded' _ _ => ⟨?_, ?_, ?_, ?_, fun r alone => ?_⟩, frame⟩
      · rw [logsV, logsW, logs]
      · rw [logsV, logsW, logs]
      · rw [logsV, logsW, logs]
      · rw [outputV]; exact (entries []).2
      · rw [outputV]; exact linesFollow_setEntries _ _ _
      · rcases kept with empty | near | close
        · exact absurd empty some_
        · rw [below] at near; cases near
        · exact absurd far (Nat.not_lt.mpr (close g loaded))
      · rw [logsV, logsW]
      · rw [logsV, logsW, if_neg some_']
      · rw [outputV]; exact (entries []).1
      · rw [lineV, lineW, line]
      · have finish := finishW r (by rw [logs]; exact alone)
        rw [link, tally] at finish
        rw [linkV, tallyV]
        exact finish
    · have kept : weighLogReversal m = m := by
        unfold weighLogReversal
        rw [store]
        cases loaded : s.store.geometry with
        | none => rfl
        | some g =>
          refine if_neg fun far => back ?_
          rw [logs] at far
          simp only [Bool.and_eq_true, Bool.not_eq_true', List.isEmpty_eq_false_iff, decide_eq_true_eq, fallenBelow] at far
          obtain ⟨some_, far⟩ := far
          split at far
          · exact absurd far (Nat.not_lt_zero _)
          · rename_i below
            exact ⟨some_, g, loaded, by simpa using below, far⟩
      rw [transition, kept] at frame
      rw [transition, kept]
      generalize weighed : weighEntries .log m = v at frame
      have blocks : v.logs = m.logs ∧ v.line = m.line ∧ v.link = m.link ∧ v.tally = m.tally ∧
          v.output = s.output.setEntries .log (s.output.log.filterMap (Entry.take c)) := by
        rw [← weighed]
        refine ⟨by simp, by simp, by simp, by simp, ?_⟩
        simp only [weighEntries, State.onOutput_output]
        rw [output, State.encoderCount, logs]
        rfl
      obtain ⟨logsV, lineV, linkV, tallyV, outputV⟩ := blocks
      have marks := weighKicks_marks v
      simp only [Logs.marks, Prod.mk.injEq] at marks
      obtain ⟨countV, highestV, numberV⟩ := marks
      have outputT : (weighKicks v).output = v.output := by simp
      have lineT : (weighKicks v).line = v.line := by simp
      refine ⟨?_, ?_, ?_, ?_, ?_, fun _ => ⟨?_, ?_, fun short => ?_, fun r o cause alone point finishes => ?_⟩,
        fun g some_ loaded below far => absurd ⟨some_, g, loaded, below, far⟩ back, frame⟩
      · rw [countV, logsV, logs]
      · rw [highestV, logsV, logs]
      · rw [numberV, logsV, logs]
      · rw [outputT, outputV]; exact (entries _).2
      · rw [outputT, outputV]; exact linesFollow_setEntries _ _ _
      · rw [lineT, lineV, line]
      · rw [outputT, outputV]
        exact (entries _).1.trans (List.filterMap_congr fun e _ => Entry.take_eq c e)
      · have quiet : weighKicks v = v := weighKicks_none fun r hr => by
          rw [logsV, logs] at hr ⊢
          exact short r hr
        rw [quiet]
        exact ⟨logsV.trans logs, linkV.trans link, tallyV.trans tally⟩
      · have alone' : v.logs.queue = [r] := by rw [logsV, logs]; exact alone
        have point' : reached v.logs.count r.kickPoint = true := by rw [logsV, logs]; exact point
        have finishes' : r.FinishesAs (decide (v.logs.openLog = some r.number)) o cause := by
          rw [logsV, logs]; exact finishes
        obtain ⟨logsT, linkT, counted, snapshot, _⟩ := finishLog_alone o cause alone'
        rw [weighKicks_alone alone' point' finishes']
        rw [logsV, logs] at logsT
        rw [linkV, link] at linkT
        rw [tallyV, tally] at counted snapshot
        exact ⟨by rw [logsT], by rw [logsT], linkT, counted, snapshot⟩

end Sys2Proof.Machine
end

section
/-! PROOF. A LOG_END measures the open log, decides it and settles its kick (O40). -/

namespace Sys2Proof.Machine

/-! ### The figures of a log (R133 to R136) -/

theorem endAreaSum_eq (xs : List Sample) : endAreaSum xs =
    ((xs.zip xs.tail).map fun (x, y) => (y.pos - x.pos) * (x.dx * x.dy + y.dx * y.dy)).sum := by
  induction xs with
  | nil => rfl
  | cons x xs ih =>
    cases xs with
    | nil => rfl
    | cons y rest => exact congrArg ((y.pos - x.pos) * (x.dx * x.dy + y.dx * y.dy) + ·) ih

theorem gapBetween_iff (spacing : Nat) (xs : List Sample) :
    gapBetween spacing xs = true ↔ ∃ x y, (x, y) ∈ xs.zip xs.tail ∧ spacing < y.pos - x.pos := by
  induction xs with
  | nil => simp [gapBetween]
  | cons x xs ih =>
    cases xs with
    | nil => simp [gapBetween]
    | cons y rest =>
      have step : gapBetween spacing (x :: y :: rest) = (decide (spacing < y.pos - x.pos) || gapBetween spacing (y :: rest)) := rfl
      rw [step, Bool.or_eq_true, decide_eq_true_eq, ih]
      constructor
      · rintro (gap | ⟨a, b, pair, gap⟩)
        · exact ⟨x, y, List.mem_cons_self, gap⟩
        · exact ⟨a, b, List.mem_cons_of_mem _ pair, gap⟩
      · rintro ⟨a, b, pair, gap⟩
        rcases List.mem_cons.mp pair with same | pair
        · cases same
          exact .inl gap
        · exact .inr ⟨a, b, pair, gap⟩

theorem isGapped_iff (spacing length : Nat) (xs : List Sample) :
    isGapped spacing length xs = true ↔ GappedBy spacing length xs := by
  unfold isGapped GappedBy
  cases first : xs.head? with
  | none =>
    have none : xs = [] := List.head?_eq_none_iff.mp first
    subst none
    simp
  | some a =>
    cases last : xs.getLast? with
    | none =>
      have none : xs = [] := List.getLast?_eq_none_iff.mp last
      subst none
      cases first
    | some z => simp [gapBetween_iff, or_assoc]

theorem foldl_max_reaches (l : List Nat) (n : Nat) :
    (∀ x ∈ l, x ≤ l.foldl max n) ∧ n ≤ l.foldl max n ∧ (l.foldl max n = n ∨ l.foldl max n ∈ l) := by
  induction l generalizing n with
  | nil => exact ⟨fun x hx => (by cases hx), Nat.le_refl n, .inl rfl⟩
  | cons a l ih =>
    obtain ⟨all, start, reach⟩ := ih (max n a)
    rw [List.foldl_cons]
    refine ⟨fun x hx => ?_, Nat.le_trans (Nat.le_max_left n a) start, ?_⟩
    · rcases List.mem_cons.mp hx with rfl | hx
      · exact Nat.le_trans (Nat.le_max_right n x) start
      · exact all x hx
    · rcases reach with same | there
      · rcases Nat.le_total n a with le | le
        · rw [Nat.max_eq_right le] at same ⊢
          exact .inr (by rw [same]; exact List.mem_cons_self)
        · rw [Nat.max_eq_left le] at same ⊢
          exact .inl same
      · exact .inr (List.mem_cons_of_mem _ there)

theorem departure_eq {a z : Sample} (apart : a.pos ≠ z.pos) (x : Sample) : Sample.departure a z x = Sample.offChord a z x := by
  unfold Sample.departure Sample.offChord chordAt
  rw [if_neg (Ne.symm apart), if_neg (Ne.symm apart)]

theorem sweepOf_spec {xs : List Sample} {a z : Sample} (first : xs.head? = some a) (last : xs.getLast? = some z)
    (three : 3 ≤ xs.length) (apart : a.pos ≠ z.pos) :
    (∀ x ∈ xs, Sample.offChord a z x ≤ sweepOf xs) ∧ ∃ x ∈ xs, Sample.offChord a z x = sweepOf xs := by
  have sweep : sweepOf xs = (xs.map (Sample.departure a z)).foldl max 0 := by
    unfold sweepOf
    rw [first, last]
    exact if_neg (by omega)
  obtain ⟨all, _, reach⟩ := foldl_max_reaches (xs.map (Sample.departure a z)) 0
  rw [sweep]
  refine ⟨fun x hx => ?_, ?_⟩
  · rw [← departure_eq apart]
    exact all _ (List.mem_map_of_mem hx)
  · rcases reach with zero | there
    · have here : a ∈ xs := List.mem_of_head? first
      refine ⟨a, here, ?_⟩
      have le := all _ (List.mem_map_of_mem (f := Sample.departure a z) here)
      rw [← departure_eq apart]
      omega
    · obtain ⟨x, hx, eq⟩ := List.mem_map.mp there
      exact ⟨x, hx, by rw [← departure_eq apart]; exact eq⟩

theorem sweepOf_straight {xs : List Sample}
    (straight : xs.length < 3 ∨ ∀ a z, xs.head? = some a → xs.getLast? = some z → a.pos = z.pos) : sweepOf xs = 0 := by
  unfold sweepOf
  cases first : xs.head? with
  | none => rfl
  | some a =>
    cases last : xs.getLast? with
    | none => rfl
    | some z =>
      exact if_pos (straight.imp id fun same => same a z first last)

theorem diameterClassOf_eq (sed : Nat) :
    diameterClassOf sed = if sed / 10 < 4 then 4 else if 40 < sed / 10 then 40 else sed / 10 := by
  unfold diameterClassOf
  split
  · omega
  · split <;> omega

/-- The figures of a log are those of R133 to R136. -/
theorem figuresOf_measured (length : Nat) (xs : List Sample) : MeasuredAs length xs (figuresOf length xs) := by
  cases first : xs.head? with
  | none =>
    obtain rfl : xs = [] := List.head?_eq_none_iff.mp first
    exact {
      inches := rfl
      ends := fun a z h => (by cases h)
      volume := rfl
      sweep := fun a z h => (by cases h)
      straight := fun _ => rfl
      noSamples := fun _ => rfl }
  | some a =>
    cases last : xs.getLast? with
    | none =>
      obtain rfl : xs = [] := List.getLast?_eq_none_iff.mp last
      cases first
    | some z =>
      have figures : figuresOf length xs = {
          length, firstEnd := a.diameter, lastEnd := z.diameter, sed := min a.diameter z.diameter
          led := max a.diameter z.diameter, smallLast := decide (z.diameter < a.diameter)
          diameterClass := some (diameterClassOf (min a.diameter z.diameter)), volume := volumeOf (endAreaSum xs)
          sweep := sweepOf xs } := by
        unfold figuresOf
        rw [first, last]
      rw [figures]
      refine ⟨rfl, fun a' z' first' last' => ?_, ?_, fun a' z' first' last' three apart => ?_, sweepOf_straight, fun none => ?_⟩
      · cases first.symm.trans first'
        cases last.symm.trans last'
        exact ⟨rfl, rfl, rfl, rfl, rfl, congrArg some (diameterClassOf_eq _)⟩
      · rw [← endAreaSum_eq]
        rfl
      · exact sweepOf_spec first' last' three apart
      · rw [none] at first
        cases first

/-! ### The kick settled (R139) -/

/-- The record `x` of a log after its kick is settled, and the schedule and the line counters (R139). -/
structure KickSettled (n : LogNo) (x : LogRecord) (lead width : Nat) (d : LogDecision) (v t : State) : Prop where
  record : ∃ q, t.log? n = some q ∧
    q = { x with kick := q.kick, flags := { x.flags with scheduleFull := q.flags.scheduleFull } } ∧
    (d = .accept → q.kick = x.kick ∧ q.flags.scheduleFull = x.flags.scheduleFull ∧ t.output = v.output ∧ t.line = v.line) ∧
    (∀ why, d = .reject why →
      (v.line.state ≠ .run →
        q.kick = .notRun ∧ q.flags.scheduleFull = x.flags.scheduleFull ∧ t.output = v.output ∧ t.line = v.line) ∧
      (v.line.state = .run → reached v.logs.count (x.kickPoint - BitVec.ofNat 32 lead) = true →
        q.kick = .missed ∧ q.flags.scheduleFull = x.flags.scheduleFull ∧ t.output = v.output ∧ t.line = v.line) ∧
      (v.line.state = .run → reached v.logs.count (x.kickPoint - BitVec.ofNat 32 lead) = false →
        48 < v.output.chain.length + v.output.log.length + 1 →
        q.kick = .refused ∧ q.flags.scheduleFull = true ∧ t.output = v.output ∧
        t.line = { v.line with counters := { v.line.counters with
          scheduleFull := v.line.counters.scheduleFull.bump } }) ∧
      (v.line.state = .run → reached v.logs.count (x.kickPoint - BitVec.ofNat 32 lead) = false →
        v.output.chain.length + v.output.log.length + 1 ≤ 48 →
        q.kick = .scheduled ∧ q.flags.scheduleFull = x.flags.scheduleFull ∧ t.line = v.line ∧
        t.output.chain = v.output.chain ∧ LinesFollowEntries t.output ∧
        t.output.log.length = v.output.log.length + 1 ∧
        ∀ e : Entry, e ∈ t.output.log ↔ e ∈ v.output.log ∨ e = ⟨.kicker, x.kickPoint - BitVec.ofNat 32 lead,
          x.kickPoint - BitVec.ofNat 32 lead + BitVec.ofNat 32 width, n, .kick, false⟩))
  others : ∀ m, m ≠ n → t.log? m = v.log? m
  frame : t = { v with logs := { v.logs with queue := t.logs.queue }, output := t.output, line := t.line }

theorem setKick_spec {v : State} {n : LogNo} {x : LogRecord} (k : KickState) (found : v.log? n = some x) :
    (setKick n k v).log? n = some { x with kick := k } ∧ ∀ m, m ≠ n → (setKick n k v).log? m = v.log? m :=
  ⟨(changeLog_log?_self (f := fun r => { r with kick := k }) (fun _ => rfl) n v).trans (by rw [found]; rfl),
    fun _ ne => changeLog_log?_of_ne (f := fun r => { r with kick := k }) (fun _ => rfl) ne v⟩

theorem settleKick_spec {v : State} {r x : LogRecord} {g : Geometry} (d : LogDecision) (found : v.log? r.number = some x)
    (point : r.kickPoint = x.kickPoint) (loaded : v.store.geometry = some g) :
    KickSettled r.number x g.kickLead g.kickWidth d v (settleKick r d v) := by
  cases d with
  | accept =>
    exact ⟨⟨x, found, rfl, fun _ => ⟨rfl, rfl, rfl, rfl⟩, fun _ h => (by cases h)⟩, fun _ _ => rfl, rfl⟩
  | reject why =>
    have start : r.kickStart g.kickLead = x.kickPoint - BitVec.ofNat 32 g.kickLead := by rw [LogRecord.kickStart, point]
    by_cases running : v.line.state = .run
    · by_cases late : reached v.logs.count (x.kickPoint - BitVec.ofNat 32 g.kickLead) = true
      · have settled : settleKick r (.reject why) v = setKick r.number .missed v := by
          unfold settleKick
          simp only [running, loaded, ne_eq, not_true_eq_false, if_false, Option.elim_some, start, late, if_true]
        obtain ⟨record, others⟩ := setKick_spec .missed found
        rw [settled]
        exact ⟨⟨_, record, rfl, fun h => (by cases h), fun _ _ => ⟨fun h => absurd running h, fun _ _ => ⟨rfl, rfl, rfl, rfl⟩,
          fun _ h => absurd late (ne_true_of_eq_false h), fun _ h => absurd late (ne_true_of_eq_false h)⟩⟩, others, rfl⟩
      · cases joined : addEntries .log [r.kickEntry g.kickLead g.kickWidth] v with
        | none =>
          have full := (addEntries_none _ _ _).mp joined
          rw [held_eq, running] at full
          have settled : settleKick r (.reject why) v = countFault .scheduleFull (changeLog r.number
              (fun y => { y with kick := .refused, flags := { y.flags with scheduleFull := true } }) v) := by
            unfold settleKick
            simp only [running, loaded, ne_eq, not_true_eq_false, if_false, Option.elim_some, start, late, Bool.false_eq_true, joined]
          rw [settled]
          have record := changeLog_log?_self
            (f := fun y => { y with kick := .refused, flags := { y.flags with scheduleFull := true } }) (fun _ => rfl) r.number v
          rw [found] at record
          exact ⟨⟨_, record, rfl, fun h => (by cases h), fun _ _ => ⟨fun h => absurd running h, fun _ h => absurd h late,
            fun _ _ _ => ⟨rfl, rfl, rfl, rfl⟩, fun _ _ room => (by
              rcases full with halted | full
              · cases halted
              · exact absurd full (Nat.not_lt.mpr room))⟩⟩,
            fun m ne => changeLog_log?_of_ne
              (f := fun y => { y with kick := .refused, flags := { y.flags with scheduleFull := true } }) (fun _ => rfl) ne v, rfl⟩
        | some v' =>
          have room : v.output.held + 1 ≤ 48 := Nat.not_lt.mp fun full => by
            rw [(addEntries_none _ _ _).mpr (.inr full)] at joined
            cases joined
          have waits : ∀ e ∈ [r.kickEntry g.kickLead g.kickWidth], e.turnOn (v.encoderCount .log) = some e := fun e he => by
            rw [List.mem_singleton.mp he]
            exact turnOn_waiting rfl (by rw [show (r.kickEntry g.kickLead g.kickWidth).start = _ from start]; exact eq_false_of_ne_true late)
          obtain ⟨o, taken, follows, length, members, others⟩ := addEntries_waiting (by rw [running]; decide) room waits
          cases taken.symm.trans joined
          have settled : settleKick r (.reject why) v = setKick r.number .scheduled { v with output := o } := by
            unfold settleKick
            simp only [running, loaded, ne_eq, not_true_eq_false, if_false, Option.elim_some, start, late, Bool.false_eq_true, joined]
          obtain ⟨record, same⟩ := setKick_spec (v := { v with output := o }) .scheduled found
          rw [settled]
          refine ⟨⟨_, record, rfl, fun h => (by cases h), fun _ _ => ⟨fun h => absurd running h, fun _ h => absurd h late,
            fun _ _ full => absurd full (Nat.not_lt.mpr room), fun _ _ _ => ⟨rfl, rfl, rfl, others .chain (by decide), follows,
              length, fun e => (members e).trans ?_⟩⟩⟩, same, rfl⟩
          rw [List.mem_singleton, ← start]
          exact Iff.rfl
    · have settled : settleKick r (.reject why) v = setKick r.number .notRun v := by
        unfold settleKick
        exact if_pos running
      obtain ⟨record, others⟩ := setKick_spec .notRun found
      rw [settled]
      exact ⟨⟨_, record, rfl, fun h => (by cases h), fun _ _ => ⟨fun _ => ⟨rfl, rfl, rfl, rfl⟩, fun h => absurd h running,
        fun h => absurd h running, fun h => absurd h running⟩⟩, others, rfl⟩

/-! ### LOG_END (R132, R138) -/

theorem Reasons.any_iff (r : Reasons) : r.any = true ↔ r ≠ ⟨false, false, false, false, false, false⟩ := by
  obtain ⟨noSamples, short, long, smallEnd, largeEnd, sweep⟩ := r
  simp only [Reasons.any, ne_eq, Reasons.mk.injEq, Bool.or_eq_true]
  constructor
  · rintro h ⟨rfl, rfl, rfl, rfl, rfl, rfl⟩
    simp at h
  · intro h
    by_contra none
    simp only [not_or, Bool.not_eq_true] at none
    obtain ⟨⟨⟨⟨⟨h1, h2⟩, h3⟩, h4⟩, h5⟩, h6⟩ := none
    exact h ⟨h1, h2, h3, h4, h5, h6⟩

theorem LogLimits.judge_eq (l : LogLimits) (empty : Bool) (f : Figures) : l.judge empty f =
    if l.reasons empty f = ⟨false, false, false, false, false, false⟩ then .accept else .reject (l.reasons empty f) := by
  unfold LogLimits.judge
  by_cases clean : l.reasons empty f = ⟨false, false, false, false, false, false⟩
  · rw [if_pos clean, if_neg fun any => (Reasons.any_iff _).mp any clean]
  · rw [if_neg clean, if_pos ((Reasons.any_iff _).mpr clean)]

/-- Settles O40. -/
theorem logEnds : Obligations.LogEnds := by
  refine ⟨fun s none => ?_, fun s n r g lim start open_ found loaded limits atStart => ?_⟩
  · have stray : endLog s = countFault .stray s := by
      unfold endLog State.openRecord
      rw [none]
      rfl
    exact congrArg Host.Outcome.next stray
  have number := log?_number found
  generalize inches : (if reached s.logs.count r.start then (s.logs.count - r.start).toNat / g.cpi else 0) = length
  generalize judged : lim.judge r.samples.isEmpty (figuresOf length r.samples) = d
  generalize closed : (changeLog r.number (fun x => x.close length g.sampleSpacing d) s).onLogs
    (fun m => { m with openLog := none }) = v
  have ended : endLog s = settleKick r d v := by
    have record : s.openRecord = some r := by rw [State.openRecord, open_, Option.bind_some, found]
    unfold endLog
    rw [record]
    have limits' : (s.bank r.bank).logLimits = some lim := limits
    simp only [loaded, limits', Option.elim_some, inchesFrom, inches, judged, closed]
  have foundNow : v.log? r.number = some (r.close length g.sampleSpacing d) := by
    rw [← closed]
    exact (changeLog_log?_self (f := fun x => x.close length g.sampleSpacing d) (fun _ => rfl) r.number s).trans
      (by rw [number, found]; rfl)
  have othersNow : ∀ m, m ≠ n → v.log? m = s.log? m := fun m ne => by
    rw [← closed]
    exact changeLog_log?_of_ne (f := fun x => x.close length g.sampleSpacing d) (fun _ => rfl) (number ▸ ne) s
  have frame : v = { s with logs := { s.logs with queue := v.logs.queue, openLog := none } } := by rw [← closed]; rfl
  have blocks : v.output = s.output ∧ v.line = s.line ∧ v.logs.count = s.logs.count ∧ v.store = s.store ∧
      v.logs.openLog = none := by rw [frame]; exact ⟨rfl, rfl, rfl, rfl, rfl⟩
  obtain ⟨output, line, count, store, openNow⟩ := blocks
  obtain ⟨⟨q, record, same, accepted, rejected⟩, others, framed⟩ :=
    settleKick_spec d foundNow rfl (g := g) (by rw [store]; exact loaded)
  rw [← ended] at record accepted rejected others framed
  rw [number] at record rejected others
  have decision := judged.symm.trans (lim.judge_eq _ _)
  have whyReject : lim.reasons r.samples.isEmpty (figuresOf length r.samples) ≠ ⟨false, false, false, false, false, false⟩ →
      d = .reject (lim.reasons r.samples.isEmpty (figuresOf length r.samples)) := fun some_ => decision.trans (if_neg some_)
  rw [output, line, count] at rejected
  rw [output, line] at accepted
  have point : (r.close length g.sampleSpacing d).kickPoint - BitVec.ofNat 32 g.kickLead = start := atStart.symm
  rw [point] at rejected
  refine ⟨endLog s, q, figuresOf length r.samples, lim.reasons r.samples.isEmpty (figuresOf length r.samples), rfl, ?_, record,
    figuresOf_measured _ _, rfl, ?_, ?_, fun clean => ?_, fun why stopped => ?_, fun why running late => ?_,
    fun why running early full => ?_, fun why running early room => ?_, fun m ne => ?_, ?_⟩
  · rw [framed]; exact openNow
  · rw [← decision, same]
    rfl
  · rw [same]
    have inches' : (figuresOf length r.samples).length = length := (figuresOf_measured length r.samples).inches
    rw [inches']
    exact isGapped_iff _ _ _
  · exact accepted (decision.trans (if_pos clean))
  · obtain ⟨row, _⟩ := rejected _ (whyReject why)
    exact row stopped
  · obtain ⟨_, row, _⟩ := rejected _ (whyReject why)
    exact row running late
  · obtain ⟨_, _, row, _⟩ := rejected _ (whyReject why)
    exact row running early full
  · obtain ⟨_, _, _, row⟩ := rejected _ (whyReject why)
    rw [number]
    exact row running early room
  · exact (others m ne).trans (othersNow m ne)
  · rw [framed, frame]

end Sys2Proof.Machine
end

section
/-! PROOF. A receiver hunts, takes a frame whole, and abandons a bad one (O41, O42). -/

namespace Sys2Proof.Machine

/-! ### What a receiver makes of its bytes (R172) -/

/-- The bytes behind a lead byte are not yet a whole frame, and no length above 512 stands among them (R172). -/
def Incomplete (rest : List Byte) : Prop := rest.length < 2 ∨ (u16At rest 0 ≤ 512 ∧ rest.length < u16At rest 0 + 6)

theorem settle_hunting (fuel : Nat) : settle fuel [] = ⟨[], []⟩ := by cases fuel <;> rfl

theorem settle_other {b : Byte} (other : b ≠ 0xC3) (fuel : Nat) (rest : List Byte) :
    settle (fuel + 1) (b :: rest) = settle fuel rest := by
  rw [settle, if_pos other]

/-- Bytes with no lead byte among them are all discarded. -/
theorem settle_discards {bs : List Byte} {fuel : Nat} (none : (0xC3 : Byte) ∉ bs) (enough : bs.length ≤ fuel) :
    settle fuel bs = ⟨[], []⟩ := by
  induction bs generalizing fuel with
  | nil => exact settle_hunting fuel
  | cons b bs ih =>
    cases fuel with
    | zero => simp at enough
    | succ fuel =>
      rw [List.mem_cons, not_or] at none
      obtain ⟨other, rest⟩ := none
      rw [settle_other (Ne.symm other)]
      exact ih rest (by simpa using enough)

theorem settle_incomplete {rest : List Byte} (open_ : Incomplete rest) (fuel : Nat) :
    settle (fuel + 1) (0xC3 :: rest) = ⟨[], 0xC3 :: rest⟩ := by
  rw [settle, if_neg (not_not.mpr rfl)]
  rcases open_ with few | ⟨body, few⟩
  · rw [if_pos few]
  · by_cases two : rest.length < 2
    · rw [if_pos two]
    · rw [if_neg two]
      dsimp only
      rw [if_neg (show ¬bodyMax < _ from Nat.not_lt.mpr body), if_pos few]

theorem settle_overlong {rest : List Byte} (two : 2 ≤ rest.length) (long : 512 < u16At rest 0) (fuel : Nat) :
    settle (fuel + 1) (0xC3 :: rest) = (settle fuel rest).abandon := by
  rw [settle, if_neg (not_not.mpr rfl), if_neg (Nat.not_lt.mpr two)]
  exact if_pos long

theorem settle_whole {rest : List Byte} {n : Nat} (body : u16At rest 0 = n) (short : n ≤ 512) (whole : rest.length = n + 6)
    (fuel : Nat) : settle (fuel + 1) (0xC3 :: rest) =
      if (crc16 (rest.take (n + 4))).toNat = u16At rest (n + 4) then
        ⟨[some ⟨rest.getD 2 0, rest.getD 3 0, (rest.drop 4).take n⟩], []⟩
      else (settle fuel rest).abandon := by
  rw [settle, if_neg (not_not.mpr rfl), if_neg (by omega)]
  dsimp only
  rw [body, if_neg (show ¬bodyMax < _ from Nat.not_lt.mpr short), if_neg (by omega), List.drop_eq_nil_of_le (as := rest) (i := n + 6) (by omega), settle_hunting]
  rfl

/-! ### Bytes taken one by one (R172) -/

section

variable {port : Port} {s : State}

theorem setReceiver_receiver (index : portIndex port < s.link.receivers.length) (r : Receiver) :
    (setReceiver port r s).receiver port = r := by
  simp [State.receiver, setReceiver, index]

theorem setReceiver_setReceiver (q r : Receiver) : setReceiver port r (setReceiver port q s) = setReceiver port r s := by
  simp only [setReceiver, State.onLink, List.set_set]

theorem setReceiver_self (index : portIndex port < s.link.receivers.length) (r : Receiver) (same : s.receiver port = r) :
    setReceiver port r s = s := by
  have there : s.link.receivers[portIndex port] = r := by
    rw [← same, State.receiver, List.getD_eq_getElem?_getD, List.getElem?_eq_getElem index]
    rfl
  have kept : s.link.receivers.set (portIndex port) r = s.link.receivers := by
    rw [← there]
    exact List.set_getElem_self index
  simp only [setReceiver, State.onLink, kept]

/-- What a byte makes, behind the bytes the receiver holds. -/
theorem takeByte_eq {held : List Byte} {gap : Nat} (same : s.receiver port = ⟨held, gap⟩) (b : Byte) :
    takeByte port b s = (settle (held.length + 2) (held ++ [b])).made.foldl (takeMade port)
      (setReceiver port ⟨(settle (held.length + 2) (held ++ [b])).kept, 0⟩ s) := by
  unfold takeByte
  rw [same]
  simp only [List.length_append, List.length_singleton]

/-- Bytes that leave the frame incomplete are held. -/
theorem execAll_incomplete (index : portIndex port < s.link.receivers.length) (bs rest : List Byte)
    (open_ : ∀ k ≤ bs.length, Incomplete (rest ++ bs.take k)) :
    execAll (bs.map (Instr.frameByte port)) (setReceiver port ⟨0xC3 :: rest, 0⟩ s) =
      .next (setReceiver port ⟨0xC3 :: (rest ++ bs), 0⟩ s) := by
  induction bs generalizing rest with
  | nil => rw [List.append_nil]; rfl
  | cons b bs ih =>
    have one : Incomplete (rest ++ [b]) := open_ 1 (by simp)
    have taken : takeByte port b (setReceiver port ⟨0xC3 :: rest, 0⟩ s) = setReceiver port ⟨0xC3 :: (rest ++ [b]), 0⟩ s := by
      rw [takeByte_eq (setReceiver_receiver index _), List.cons_append, settle_incomplete one]
      exact setReceiver_setReceiver _ _
    have first : exec (.frameByte port b) (setReceiver port ⟨0xC3 :: rest, 0⟩ s) =
        .next (setReceiver port ⟨0xC3 :: (rest ++ [b]), 0⟩ s) := congrArg Host.Outcome.next taken
    rw [List.map_cons, execAll, first]
    refine (ih (rest ++ [b]) fun k le => ?_).trans (by rw [List.append_assoc, List.singleton_append])
    rw [List.append_assoc]
    exact open_ (k + 1) (by simpa using le)

theorem execAll_append {cs ds : List Instr} {u t : State} (run : execAll cs u = .next t) :
    execAll (cs ++ ds) u = execAll ds t := by
  induction cs generalizing u with
  | nil => cases run; rfl
  | cons c cs ih =>
    rw [List.cons_append, execAll]
    rw [execAll] at run
    cases first : exec c u with
    | next v =>
      rw [first] at run
      exact ih run
    | fault r => rw [first] at run; cases run
    | refused r => rw [first] at run; cases run

theorem takeByte_lead (hunting : s.receiver port = ⟨[], 0⟩) :
    takeByte port 0xC3 s = setReceiver port ⟨[0xC3], 0⟩ s := by
  rw [takeByte_eq hunting]
  rfl

/-- The bytes behind a lead byte, of which only the last completes anything. -/
theorem execAll_frame {w : List Byte} (index : portIndex port < s.link.receivers.length) (hunting : s.receiver port = ⟨[], 0⟩)
    (some_ : w ≠ []) (open_ : ∀ k < w.length, Incomplete (w.take k)) :
    execAll ((0xC3 :: w).map (Instr.frameByte port)) s = .next
      ((settle (w.length + 2) (0xC3 :: w)).made.foldl (takeMade port)
        (setReceiver port ⟨(settle (w.length + 2) (0xC3 :: w)).kept, 0⟩ s)) := by
  obtain ⟨front, b, rfl⟩ : ∃ front b, w = front ++ [b] := ⟨_, _, (List.dropLast_append_getLast some_).symm⟩
  have lead : execAll ([Instr.frameByte port 0xC3]) s = .next (setReceiver port ⟨[0xC3], 0⟩ s) :=
    congrArg Host.Outcome.next (takeByte_lead hunting)
  have held : execAll (front.map (Instr.frameByte port)) (setReceiver port ⟨[0xC3], 0⟩ s) =
      .next (setReceiver port ⟨0xC3 :: front, 0⟩ s) := by
    refine execAll_incomplete index front [] fun k le => ?_
    have part := open_ k (by simp; omega)
    rwa [List.take_append_of_le_length le] at part
  have last : takeByte port b (setReceiver port ⟨0xC3 :: front, 0⟩ s) = _ :=
    takeByte_eq (setReceiver_receiver index _) b
  rw [setReceiver_setReceiver] at last
  have bytes : (0xC3 :: (front ++ [b])).map (Instr.frameByte port) =
      [Instr.frameByte port 0xC3] ++ (front.map (Instr.frameByte port) ++ [Instr.frameByte port b]) := by simp
  rw [bytes, execAll_append lead, execAll_append held]
  refine (congrArg Host.Outcome.next last).trans ?_
  simp only [List.length_cons, List.length_append, List.cons_append, List.length_nil]

end

/-! ### A frame on its line (11.5) -/

section

variable (f : Frame) (check : BitVec 16)

theorem inner_length : f.inner.length = f.body.length + 4 := by
  simp [Frame.inner, bytes16]

theorem line_length : (f.inner ++ bytes16 check).length = f.body.length + 6 := by
  rw [List.length_append, inner_length]
  rfl

theorem line_body_length (short : f.body.length ≤ 512) : u16At (f.inner ++ bytes16 check) 0 = f.body.length := by
  have word := bytes16_toNat (BitVec.ofNat 16 f.body.length)
  have value : (BitVec.ofNat 16 f.body.length).toNat = f.body.length := by simp; omega
  exact word.trans value

theorem line_take : (f.inner ++ bytes16 check).take (f.body.length + 4) = f.inner :=
  List.take_left' (inner_length f)

theorem line_check : u16At (f.inner ++ bytes16 check) (f.body.length + 4) = check.toNat := by
  have hi : (f.inner ++ bytes16 check).getD (f.body.length + 4) 0 = (check >>> 8).setWidth 8 := by
    rw [List.getD_append_right _ _ _ _ (by rw [inner_length]), inner_length, Nat.sub_self]
    rfl
  have lo : (f.inner ++ bytes16 check).getD (f.body.length + 4 + 1) 0 = check.setWidth 8 := by
    rw [List.getD_append_right _ _ _ _ (by rw [inner_length]; omega), inner_length, Nat.add_sub_cancel_left]
    rfl
  rw [u16At, byteAt, byteAt, hi, lo]
  exact bytes16_toNat check

theorem line_frame : (⟨(f.inner ++ bytes16 check).getD 2 0, (f.inner ++ bytes16 check).getD 3 0,
    ((f.inner ++ bytes16 check).drop 4).take f.body.length⟩ : Frame) = f := by
  have body : ((f.inner ++ bytes16 check).drop 4).take f.body.length = f.body := by
    have behind : (f.inner ++ bytes16 check).drop 4 = f.body ++ bytes16 check := rfl
    rw [behind]
    exact List.take_left' rfl
  rw [body]
  rfl

theorem line_incomplete (short : f.body.length ≤ 512) (k : Nat) (before : k < (f.inner ++ bytes16 check).length) :
    Incomplete ((f.inner ++ bytes16 check).take k) := by
  by_cases few : k < 2
  · exact .inl (by rw [List.length_take]; omega)
  · have same : u16At ((f.inner ++ bytes16 check).take k) 0 = u16At (f.inner ++ bytes16 check) 0 := by
      match k, few with
      | k + 2, _ => rfl
    rw [line_length] at before
    refine .inr ?_
    rw [same, line_body_length f check short, List.length_take, line_length]
    omega

/-- The bytes of a frame taken one by one: the frame is taken when its check is right, and abandoned otherwise. -/
theorem execAll_line {port : Port} {s : State} (index : portIndex port < s.link.receivers.length)
    (hunting : s.receiver port = ⟨[], 0⟩) (short : f.body.length ≤ 512)
    (right : check = crc16 f.inner ∨ (0xC3 : Byte) ∉ f.inner ++ bytes16 check) :
    execAll ((0xC3 :: (f.inner ++ bytes16 check)).map (Instr.frameByte port)) s =
      .next (if check = crc16 f.inner then takeFrame port f s else countFrameError port s) := by
  have settled := settle_whole (line_body_length f check short) short (line_length f check)
    ((f.inner ++ bytes16 check).length + 1)
  rw [line_take, line_check, line_frame] at settled
  have some_ : f.inner ++ bytes16 check ≠ [] := by simp [bytes16]
  rw [execAll_frame index hunting some_ (line_incomplete f check short), settled]
  by_cases good : check = crc16 f.inner
  · rw [if_pos (by rw [good]), if_pos good]
    exact congrArg (fun t => Host.Outcome.next (takeFrame port f t)) (setReceiver_self index _ hunting)
  · have noLead := right.resolve_left good
    rw [if_neg (fun same => good (BitVec.eq_of_toNat_eq same.symm)), if_neg good, settle_discards noLead (Nat.le_succ _)]
    exact congrArg (fun t => Host.Outcome.next (countFrameError port t)) (setReceiver_self index _ hunting)

end

/-- Settles O41. -/
theorem receiversHuntAndAbandon : Obligations.ReceiversHuntAndAbandon := by
  intro s port index
  refine ⟨fun b hunting other => ?_, fun hunting => ?_, fun hi lo hunting long otherHi otherLo => ?_,
    fun f check hunting short wrong noLead => ?_, fun rest held noLead => ?_, fun hunting => ?_⟩
  · refine congrArg Host.Outcome.next ?_
    rw [takeByte_eq hunting, List.nil_append, settle_other other, settle_hunting]
    exact setReceiver_self index _ hunting
  · exact congrArg Host.Outcome.next (takeByte_lead hunting)
  · have noLead : (0xC3 : Byte) ∉ [hi, lo] := by
      simp only [List.mem_cons, List.not_mem_nil, or_false, not_or]
      exact ⟨Ne.symm otherHi, Ne.symm otherLo⟩
    have open_ : ∀ k < [hi, lo].length, Incomplete ([hi, lo].take k) := fun k lt =>
      .inl (by rw [List.length_take]; exact Nat.lt_of_le_of_lt (Nat.min_le_left _ _) lt)
    refine (execAll_frame index hunting (List.cons_ne_nil _ _) open_).trans ?_
    rw [settle_overlong (rest := [hi, lo]) (Nat.le_refl 2) long, settle_discards noLead (by simp)]
    exact congrArg (fun t => Host.Outcome.next (countFrameError port t)) (setReceiver_self index _ hunting)
  · rw [execAll_line f check index hunting short (.inr noLead), if_neg wrong]
    rfl
  · have made : abandonAll (0xC3 :: rest).length (0xC3 :: rest) = [none] := by
      rw [List.length_cons, abandonAll, settle_discards noLead (Nat.le_succ _)]
      dsimp only
      cases rest <;> rfl
    refine congrArg Host.Outcome.next ?_
    unfold gapPort
    rw [held]
    dsimp only
    rw [made]
    rfl
  · refine congrArg Host.Outcome.next ?_
    unfold gapPort
    rw [hunting]
    exact setReceiver_self index _ hunting

/-! ### A frame taken is its command (R31, R74, R80, R128, R173) -/

theorem overrideCommand_exec (k : OverrideKind) (p : PanelId) (tag : Byte) (lug : LugNo) (value : Byte) (s : State) :
    exec (overrideCommand k p tag lug value) s = .next (overrideFrame p tag lug k value s) := by
  cases k <;> rfl

/-- A frame its port accepts is its command; another is a frame error. -/
theorem takeFrame_command (port : Port) (f : Frame) (s : State) :
    (∀ c, frameCommand port f = some c → exec c s = .next (takeFrame port f s)) ∧
    (frameCommand port f = none → takeFrame port f s = countFrameError port s) := by
  cases port with
  | supervisor => exact ⟨fun c h => (by cases h; rfl), fun h => (by cases h)⟩
  | panel p =>
    by_cases hello : f.kind = 0x20
    · have command : frameCommand (.panel p) f = some (.hello p f.tag) := if_pos hello
      have taken : takeFrame (.panel p) f s = panelHello p f.tag s := if_pos hello
      rw [command, taken]
      exact ⟨fun c h => (by cases h; rfl), fun h => (by cases h)⟩
    · by_cases override : f.kind = 0x21
      · have taken : takeFrame (.panel p) f s = overrideBody p f.tag f.body s := (if_neg hello).trans (if_pos override)
        rw [taken]
        by_cases named : ∃ k, overrideKindOfCode (byteAt f.body 2) = some k ∧ f.body.length = 4
        · obtain ⟨k, kind, four⟩ := named
          have command : frameCommand (.panel p) f =
              some (overrideCommand k p f.tag (BitVec.ofNat 16 (u16At f.body 0)) (f.body.getD 3 0)) := by
            refine (if_neg hello).trans ((if_pos override).trans ?_)
            simp only [kind, four, decide_true]
          have judged : overrideBody p f.tag f.body s =
              overrideFrame p f.tag (BitVec.ofNat 16 (u16At f.body 0)) k (f.body.getD 3 0) s := by
            unfold overrideBody
            simp only [kind, four, decide_true]
          rw [command, judged]
          exact ⟨fun c h => (by cases h; exact overrideCommand_exec k p _ _ _ s), fun h => (by cases h)⟩
        · have command : frameCommand (.panel p) f = some (.malformedOverride p f.tag f.body) := by
            refine (if_neg hello).trans ((if_pos override).trans ?_)
            cases kind : overrideKindOfCode (byteAt f.body 2) with
            | none => rfl
            | some k => simp only [decide_eq_false fun four => named ⟨k, kind, four⟩]
          rw [command]
          exact ⟨fun c h => (by cases h; rfl), fun h => (by cases h)⟩
      · have command : frameCommand (.panel p) f = none := (if_neg hello).trans (if_neg override)
        rw [command]
        exact ⟨fun c h => (by cases h), fun _ => (if_neg hello).trans (if_neg override)⟩
  | head h =>
    by_cases segment : f.kind = 0x31
    · have command : frameCommand (.head h) f = some (.segment h f.body) := if_pos segment
      have taken : takeFrame (.head h) f s = judgeSegment h f.body s := if_pos segment
      rw [command, taken]
      exact ⟨fun c h => (by cases h; rfl), fun h => (by cases h)⟩
    · have command : frameCommand (.head h) f = none := if_neg segment
      rw [command]
      exact ⟨fun c h => (by cases h), fun _ => if_neg segment⟩
  | logHead =>
    by_cases start : f.kind = 0x38 ∧ f.body.length = 0
    · have command : frameCommand .logHead f = some .logStart := if_pos start
      have taken : takeFrame .logHead f s = startLog s := if_pos start
      rw [command, taken]
      exact ⟨fun c h => (by cases h; rfl), fun h => (by cases h)⟩
    · by_cases part : f.kind = 0x39 ∧ f.body.length = 8
      · have command : frameCommand .logHead f = some (.logSection (BitVec.ofNat 16 (u16At f.body 0))
            (BitVec.ofNat 16 (u16At f.body 2)) (BitVec.ofNat 16 (u16At f.body 4)) (BitVec.ofNat 16 (u16At f.body 6))) :=
          (if_neg start).trans (if_pos part)
        have taken : takeFrame .logHead f s =
            takeSection (u16At f.body 0) (u16At f.body 2) (s16At f.body 4) (s16At f.body 6) s :=
          (if_neg start).trans (if_pos part)
        have value : ∀ i, (BitVec.ofNat 16 (u16At f.body i)).toNat = u16At f.body i := fun i => by
          have := u16At_le f.body i
          rw [BitVec.toNat_ofNat]
          omega
        have section_ : ∀ a b c d : BitVec 16, exec (.logSection a b c d) s =
            .next (takeSection a.toNat b.toNat c.toInt d.toInt s) := fun _ _ _ _ => rfl
        rw [command, taken]
        refine ⟨fun c h => ?_, fun h => (by cases h)⟩
        cases h
        rw [section_, value, value]
        rfl
      · by_cases ended : f.kind = 0x3A ∧ f.body.length = 0
        · have command : frameCommand .logHead f = some .logEnd := (if_neg start).trans ((if_neg part).trans (if_pos ended))
          have taken : takeFrame .logHead f s = endLog s := (if_neg start).trans ((if_neg part).trans (if_pos ended))
          rw [command, taken]
          exact ⟨fun c h => (by cases h; rfl), fun h => (by cases h)⟩
        · have command : frameCommand .logHead f = none := (if_neg start).trans ((if_neg part).trans (if_neg ended))
          rw [command]
          exact ⟨fun c h => (by cases h), fun _ => (if_neg start).trans ((if_neg part).trans (if_neg ended))⟩

/-- Settles O42. -/
theorem bytesOfAFrameAreItsCommand : Obligations.BytesOfAFrameAreItsCommand := by
  intro s port f index hunting short
  have run := execAll_line f (crc16 f.inner) index hunting short (.inl rfl)
  rw [if_pos rfl] at run
  refine Eq.trans run ?_
  obtain ⟨accepted, refused⟩ := takeFrame_command port f s
  cases command : frameCommand port f with
  | some c => exact (accepted c command).symm
  | none => exact congrArg Host.Outcome.next (refused command)

end Sys2Proof.Machine
end

section
/-! PROOF. With no command waiting a request is taken or a millisecond passes (O2). -/

namespace Sys2Proof.Machine

/-! ### A millisecond at the receivers (R172) -/

/-- A receiver after a millisecond that ends no frame. -/
def Receiver.ticked (r : Receiver) : Receiver := if r.bytes = [] then r else { r with gap := r.gap + 1 }

theorem tickReceiver_eq {s : State} {port : Port} {r : Receiver} (there : s.link.receivers[portIndex port]? = some r)
    (quiet : r.bytes = [] ∨ r.gap < 2) : tickReceiver s port = s.onLink fun l =>
      { l with receivers := l.receivers.modify (portIndex port) Receiver.ticked } := by
  obtain ⟨index, at_⟩ := List.getElem?_eq_some_iff.mp there
  have receiver : s.receiver port = r := by
    rw [State.receiver, List.getD_eq_getElem?_getD, there]
    rfl
  have modified : s.link.receivers.modify (portIndex port) Receiver.ticked =
      s.link.receivers.set (portIndex port) r.ticked := setAt_eq_set _ _ _ _ there
  have becomes : setReceiver port r.ticked s = s.onLink fun l =>
      { l with receivers := l.receivers.modify (portIndex port) Receiver.ticked } := by
    simp only [setReceiver, State.onLink, modified]
  rw [← becomes]
  unfold tickReceiver
  rw [receiver]
  by_cases hunting : r.bytes = []
  · have same : r.ticked = r := if_pos hunting
    rw [same, setReceiver_self index r receiver]
    exact if_pos (by rw [hunting]; rfl)
  · have short := quiet.resolve_left hunting
    have later : r.ticked = { r with gap := r.gap + 1 } := if_neg hunting
    rw [later]
    dsimp only
    rw [if_neg (by simpa using hunting), if_neg (show ¬gapMax < r.gap + 1 from Nat.not_lt.mpr short)]

/-- A millisecond at the receivers of some ports, none of which it ends a frame at. -/
theorem foldl_tickReceiver {ports : List Port} {s : State} (apart : (ports.map portIndex).Nodup)
    (quiet : ∀ port ∈ ports, ∃ r, s.link.receivers[portIndex port]? = some r ∧ (r.bytes = [] ∨ r.gap < 2)) :
    ports.foldl tickReceiver s = s.onLink fun l =>
      { l with receivers := ports.foldl (fun l port => l.modify (portIndex port) Receiver.ticked) l.receivers } := by
  induction ports generalizing s with
  | nil => rfl
  | cons port ports ih =>
    rw [List.map_cons, List.nodup_cons] at apart
    obtain ⟨new, apart⟩ := apart
    obtain ⟨r, there, short⟩ := quiet port List.mem_cons_self
    rw [List.foldl_cons, tickReceiver_eq there short, ih apart]
    · rfl
    · intro other hother
      obtain ⟨x, at_, idle⟩ := quiet other (List.mem_cons_of_mem _ hother)
      have ne : portIndex port ≠ portIndex other := fun same => new (same ▸ List.mem_map_of_mem hother)
      exact ⟨x, by rw [State.onLink_link]; simpa [List.getElem?_modify, ne] using at_, idle⟩

theorem foldl_modify_getElem? {f : Receiver → Receiver} (is : List Nat) (apart : is.Nodup) (l : List Receiver) (i : Nat) :
    (is.foldl (fun l i => l.modify i f) l)[i]? = if i ∈ is then (l[i]?).map f else l[i]? := by
  induction is generalizing l with
  | nil => rfl
  | cons j is ih =>
    obtain ⟨new, apart⟩ := List.nodup_cons.mp apart
    rw [List.foldl_cons, ih apart, List.getElem?_modify]
    by_cases here : j = i
    · subst here
      simp [new]
    · simp [here, Ne.symm here]

theorem foldl_allPorts {l : List Receiver} (twelve : l.length = 12) :
    allPorts.foldl (fun l port => l.modify (portIndex port) Receiver.ticked) l = l.map Receiver.ticked := by
  have indexed : allPorts.foldl (fun l port => l.modify (portIndex port) Receiver.ticked) l =
      (List.range 12).foldl (fun l i => l.modify i Receiver.ticked) l := rfl
  refine List.ext_getElem? fun i => ?_
  rw [indexed, foldl_modify_getElem? _ List.nodup_range, List.getElem?_map]
  by_cases within : i < 12
  · rw [if_pos (List.mem_range.mpr within)]
  · rw [if_neg (by simpa using within), List.getElem?_eq_none (by omega)]
    rfl

theorem tickReceivers_spec {s : State} (twelve : s.link.receivers.length = 12)
    (quiet : ∀ r ∈ s.link.receivers, r.bytes = [] ∨ r.gap < 2) : allPorts.foldl tickReceiver s = s.onLink fun l =>
      { l with receivers := l.receivers.map Receiver.ticked } := by
  have indices : allPorts.map portIndex = List.range 12 := rfl
  rw [foldl_tickReceiver (by rw [indices]; exact List.nodup_range) fun port hport => ?_]
  · simp only [State.onLink, foldl_allPorts twelve]
  · have within : portIndex port < 12 := List.mem_range.mp (indices ▸ List.mem_map_of_mem hport)
    exact ⟨_, List.getElem?_eq_getElem (twelve.symm ▸ within), quiet _ (List.getElem_mem _)⟩

/-! ### A millisecond at the silence timers (R75, R176) -/

/-- A link of which nothing but the notices and what carries them has changed. -/
def Link.Noted (l m : Link) : Prop :=
  m = { l with notices := m.notices, seq := m.seq, sending := m.sending, dropped := m.dropped }

theorem Link.noticed_noted (l : Link) (n : Notice) : l.Noted (l.noticed n) := by
  unfold Link.Noted Link.noticed
  dsimp only
  repeat' split
  all_goals rfl

theorem Link.Noted.trans {l m n : Link} (h : l.Noted m) (k : m.Noted n) : l.Noted n := by
  unfold Link.Noted at h k ⊢
  rw [k, h]

/-- What a millisecond at the silence timer of a panel does. -/
structure PanelTicked (p : PanelId) (s t : State) : Prop where
  port : t.panels.port p = { s.panels.port p with
    timer := min ((s.panels.port p).timer + 1) s.panelTimeoutMs
    present := (s.panels.port p).present && decide ((s.panels.port p).timer + 1 < s.panelTimeoutMs) }
  other : t.panels.port (otherPanel p) = s.panels.port (otherPanel p)
  answers : t.panels.answers = s.panels.answers
  link : s.link.Noted t.link
  pressure : OnlyPressure s t
  frame : t = { s with panels := t.panels, link := t.link, governor := t.governor }
  absent : (s.panels.port p).present = false → t.link = s.link ∧ t.governor = s.governor

theorem tickPanel_spec (p : PanelId) (s : State) : PanelTicked p s (tickPanel p s) := by
  obtain ⟨port, other, answers, frame⟩ := port_onPort p (fun q => { q with timer := min (q.timer + 1) s.panelTimeoutMs }) s
  have limit := panelTimeoutMs_onPort p (fun q => { q with timer := min (q.timer + 1) s.panelTimeoutMs }) s
  have ticked : tickPanel p s = weighPanelTimer p (onPort p (fun q => { q with timer := min (q.timer + 1) s.panelTimeoutMs }) s) := rfl
  generalize onPort p (fun q => { q with timer := min (q.timer + 1) s.panelTimeoutMs }) s = u at port other answers frame limit ticked
  have blocks : u.link = s.link ∧ u.governor = s.governor := by rw [frame]; exact ⟨rfl, rfl⟩
  obtain ⟨link, governor⟩ := blocks
  rw [ticked]
  by_cases silent : (u.panels.port p).present = true ∧ u.panelTimeoutMs ≤ (u.panels.port p).timer
  · have gone : weighPanelTimer p u = setPresence p false u := if_pos silent
    obtain ⟨this, other', answers', link', pressure, frame'⟩ := setPresence_spec p false u
    rw [gone]
    obtain ⟨present, late⟩ := silent
    rw [port] at present late
    have past : ¬(s.panels.port p).timer + 1 < s.panelTimeoutMs := by
      rw [limit] at late
      dsimp only at late
      omega
    refine ⟨?_, other'.trans other, answers'.trans answers, ?_, ?_, ?_, fun absent => ?_⟩
    · rw [this, port, decide_eq_false past, Bool.and_false]
    · rw [link', link]
      exact Link.noticed_noted _ _
    · unfold OnlyPressure at pressure ⊢
      rw [governor] at pressure
      exact pressure
    · exact frame'.trans (by rw [frame])
    · rw [show (s.panels.port p).present = true from present] at absent
      cases absent
  · have stays : weighPanelTimer p u = u := if_neg silent
    rw [stays]
    refine ⟨?_, other, answers, ?_, .of_eq governor, ?_, fun _ => ⟨link, governor⟩⟩
    · rw [port]
      rw [port, limit] at silent
      dsimp only at silent
      cases present : (s.panels.port p).present with
      | false => rfl
      | true =>
        have fresh : (s.panels.port p).timer + 1 < s.panelTimeoutMs := by
          rw [present] at silent
          have := not_and.mp silent rfl
          omega
        rw [decide_eq_true fresh]
        rfl
    · rw [link]; rfl
    · rw [link, governor]
      exact frame

/-- What a millisecond at the host-silence timer does (R156, R176). -/
theorem tickHost_spec {s : State} (weighed : CausesWeighed s) :
    let silent := s.link.silent || s.hostTimeoutMs.elim false fun n => decide (n ≤ s.link.timer + 1)
    tickHost s = { s with
      link := { s.link with timer := min (s.link.timer + 1) s.hostTimerMax, silent }
      governor := s.governor.held { s.governor.causes with hostSilent := silent } } := by
  intro silent
  have same : s.governor.causes.hostSilent = s.link.silent := congrArg HoldCauses.hostSilent weighed
  have still : s.governor.held { s.governor.causes with hostSilent := s.link.silent } = s.governor := by
    rw [← same]
    unfold Governor.held
    rw [if_neg (by simp)]
  generalize ticked : s.onLink (fun l => { l with timer := min (l.timer + 1) s.hostTimerMax }) = u
  have limit : u.hostTimeoutMs = s.hostTimeoutMs := by rw [← ticked]; rfl
  have link : u.link = { s.link with timer := min (s.link.timer + 1) s.hostTimerMax } := by rw [← ticked]; rfl
  have host : tickHost s = weighHost u := by rw [← ticked]; rfl
  have unset : silent = s.link.silent → weighHost u = u → tickHost s = { s with
      link := { s.link with timer := min (s.link.timer + 1) s.hostTimerMax, silent }
      governor := s.governor.held { s.governor.causes with hostSilent := silent } } := fun kept stays => by
    rw [host, stays, kept, still, ← ticked]
    rfl
  cases timeout : s.hostTimeoutMs with
  | none =>
    have kept : silent = s.link.silent := by simp [silent, timeout]
    exact unset kept (by unfold weighHost; rw [limit, timeout])
  | some n =>
    have most : s.hostTimerMax = n := by rw [State.hostTimerMax, timeout]; rfl
    have judged : weighHost u = if n ≤ u.link.timer ∧ u.link.silent = false then setHostSilence u else u := by
      unfold weighHost
      rw [limit, timeout]
    by_cases late : n ≤ s.link.timer + 1
    · cases was : s.link.silent with
      | true =>
        have kept : silent = s.link.silent := by simp [silent, was]
        refine unset kept (judged.trans (if_neg fun h => ?_))
        have := h.2
        rw [link] at this
        cases was.symm.trans this
      | false =>
        have now : silent = true := by simp [silent, timeout, late]
        have reached : n ≤ u.link.timer := by
          rw [link, most]
          exact Nat.le_min.mpr ⟨late, Nat.le_refl n⟩
        have sets : weighHost u = setHostSilence u := judged.trans (if_pos ⟨reached, by rw [link]; exact was⟩)
        have causes : (u.onLink fun l => { l with silent := true }).holdCauses =
            { s.governor.causes with hostSilent := true } := by
          rw [← ticked, show s.governor.causes = s.holdCauses from weighed]
          rfl
        rw [host, sets, setHostSilence, weighHold_eq, causes, now, ← ticked]
        rfl
    · have kept : silent = s.link.silent := by simp [silent, timeout, late]
      refine unset kept (judged.trans (if_neg fun h => late ?_))
      have := h.1
      rw [link, most] at this
      dsimp only at this
      omega

/-! ### The idle step -/

theorem PanelTicked.link_fields {p : PanelId} {s t : State} (h : PanelTicked p s t) :
    t.link.timer = s.link.timer ∧ t.link.silent = s.link.silent ∧ t.link.receivers = s.link.receivers ∧
    t.link.requests = s.link.requests ∧ t.link.taken = s.link.taken ∧ t.link.replies = s.link.replies ∧
    t.link.frameErrors = s.link.frameErrors := by
  have noted : t.link = _ := h.link
  rw [noted]
  exact ⟨rfl, rfl, rfl, rfl, rfl, rfl, rfl⟩

theorem PanelTicked.store {p : PanelId} {s t : State} (h : PanelTicked p s t) : t.store = s.store := by rw [h.frame]

theorem PanelTicked.causesWeighed {p : PanelId} {s t : State} (h : PanelTicked p s t) (weighed : CausesWeighed s) :
    CausesWeighed t := by
  have pressure : t.governor = _ := h.pressure
  have causes : t.governor.causes = s.governor.causes := by rw [pressure]
  have line : t.line = s.line := by rw [h.frame]
  obtain ⟨-, silent, -⟩ := h.link_fields
  have same : t.holdCauses = s.holdCauses := by
    unfold State.holdCauses State.activeBank
    rw [line, silent, h.store]
  unfold CausesWeighed
  rw [causes, same]
  exact weighed

/-- The two silence timers of the panels together. -/
structure PanelsTicked (s t : State) : Prop where
  port : ∀ p, t.panels.port p = { s.panels.port p with
    timer := min ((s.panels.port p).timer + 1) s.panelTimeoutMs
    present := (s.panels.port p).present && decide ((s.panels.port p).timer + 1 < s.panelTimeoutMs) }
  answers : t.panels.answers = s.panels.answers
  link : s.link.Noted t.link
  store : t.store = s.store
  frame : t = { s with panels := t.panels, link := t.link, governor := t.governor }
  causes : CausesWeighed s → CausesWeighed t
  absent : s.panels.p1.present = false → s.panels.p2.present = false → t.link = s.link ∧ t.governor = s.governor

theorem tickPanels_spec (s : State) : PanelsTicked s (tickPanel .p2 (tickPanel .p1 s)) := by
  have first := tickPanel_spec .p1 s
  generalize tickPanel .p1 s = u at first
  have second := tickPanel_spec .p2 u
  generalize tickPanel .p2 u = t at second
  have limit : u.panelTimeoutMs = s.panelTimeoutMs := by unfold State.panelTimeoutMs; rw [first.store]
  refine ⟨fun p => ?_, second.answers.trans first.answers, first.link.trans second.link, second.store.trans first.store,
    second.frame.trans (by rw [first.frame]), fun weighed => second.causesWeighed (first.causesWeighed weighed),
    fun absent1 absent2 => ?_⟩
  · cases p with
    | p1 => exact (second.other : t.panels.port .p1 = _).trans first.port
    | p2 =>
      have other : u.panels.port .p2 = s.panels.port .p2 := first.other
      rw [second.port, other, limit]
  · obtain ⟨link1, governor1⟩ := first.absent absent1
    have other : u.panels.port .p2 = s.panels.port .p2 := first.other
    obtain ⟨link2, governor2⟩ := second.absent (by rw [other]; exact absent2)
    exact ⟨link2.trans link1, governor2.trans governor1⟩

theorem hostTimerMax_eq (s : State) : s.hostTimerMax = match s.store.geometry with
    | none => 60000
    | some g => if 1 ≤ g.hostTimeout ∧ g.hostTimeout ≤ 60 then g.hostTimeout * 1000 else 60000 := by
  unfold State.hostTimerMax State.hostTimeoutMs
  cases s.store.geometry with
  | none => rfl
  | some g => by_cases reached : 1 ≤ g.hostTimeout ∧ g.hostTimeout ≤ 60 <;> simp [reached]

theorem hostTimeoutMs_elim (s : State) (n : Nat) : (s.hostTimeoutMs.elim false fun m => decide (m ≤ n)) =
    match s.store.geometry with
    | none => false
    | some g => decide (1 ≤ g.hostTimeout ∧ g.hostTimeout ≤ 60 ∧ s.hostTimerMax ≤ n) := by
  unfold State.hostTimerMax State.hostTimeoutMs
  cases s.store.geometry with
  | none => rfl
  | some g => by_cases reached : 1 ≤ g.hostTimeout ∧ g.hostTimeout ≤ 60 <;> simp [reached, ← and_assoc]

theorem panelTimeoutMs_eq (s : State) : s.panelTimeoutMs = match s.store.geometry with
    | none => 30000
    | some g => g.panelTimeout * 1000 := by
  unfold State.panelTimeoutMs
  cases s.store.geometry <;> rfl

theorem waiting_none {s : State} (nobody : s.link.taken = true ∨ s.link.requests = []) : s.waiting = none := by
  unfold State.waiting
  obtain taken | none_left := nobody
  · rw [taken]
    rfl
  · rw [none_left]
    cases s.link.taken <;> rfl

/-- Settles O2: a request that waits is taken as its command takes it, and otherwise the panels' timers, the host-silence
timer and the receivers' gaps each take a millisecond, one after the other. -/
theorem idleStepTakesRequestOrTicks : Obligations.IdleStepTakesRequestOrTicks := by
  unfold Obligations.IdleStepTakesRequestOrTicks
  refine ⟨fun s c f empty is waits => ?_, fun s panelMax hostMax silent empty nobody weighed twelve quiet hpanel hhost
    hsilent => ?_⟩
  · have waiting := (Waiting.iff_waiting s f).mp waits
    have steps : step s = .next (idle s) := by rw [step, empty]
    rw [steps, exec_requestFrame is, offerRequest, idle, waiting]
    exact congrArg Host.Outcome.next (if_pos rfl).symm
  · have panels := tickPanels_spec s
    have steps : step s = .next (allPorts.foldl tickReceiver (tickHost (tickPanel .p2 (tickPanel .p1 s)))) := by
      rw [step, empty]
      exact congrArg Host.Outcome.next (by rw [idle, waiting_none nobody]; rfl)
    rw [steps]
    generalize tickPanel .p2 (tickPanel .p1 s) = u at panels
    have host := tickHost_spec (panels.causes weighed)
    have limit : u.hostTimerMax = s.hostTimerMax := by
      unfold State.hostTimerMax State.hostTimeoutMs
      rw [panels.store]
    have timeout : u.hostTimeoutMs = s.hostTimeoutMs := by
      unfold State.hostTimeoutMs
      rw [panels.store]
    have noted : u.link = _ := panels.link
    have timer : u.link.timer = s.link.timer := by rw [noted]
    have was : u.link.silent = s.link.silent := by rw [noted]
    have receivers : u.link.receivers = s.link.receivers := by rw [noted]
    have most : s.hostTimerMax = hostMax := (hostTimerMax_eq s).trans hhost.symm
    have late : (s.link.silent || s.hostTimeoutMs.elim false fun n => decide (n ≤ s.link.timer + 1)) = silent := by
      rw [hostTimeoutMs_elim, most]
      exact hsilent.symm
    dsimp only at host
    rw [limit, timeout, timer, was, late, most] at host
    generalize tickHost u = v at host
    have vlink : v.link = { u.link with timer := min (s.link.timer + 1) hostMax, silent } := by rw [host]
    have vreceivers : v.link.receivers = s.link.receivers := by rw [vlink]; exact receivers
    rw [tickReceivers_spec (by rw [vreceivers]; exact twelve) (by rw [vreceivers]; exact quiet)]
    have limits : s.panelTimeoutMs = panelMax := (panelTimeoutMs_eq s).trans hpanel.symm
    have ports := panels.port
    rw [limits] at ports
    have vpanels : v.panels = u.panels := by rw [host]
    refine ⟨_, rfl, fun p => ?_, ?_, ?_, ?_, ?_, ?_, ?_, ?_, ?_, ?_, fun absent1 absent2 => ?_⟩
    · rw [State.onLink_panels, vpanels]; exact ports p
    · rw [State.onLink_panels, vpanels]; exact panels.answers
    · rw [State.onLink_link, vlink]
    · rw [State.onLink_link, vlink]
    · rw [State.onLink_link, vreceivers]; rfl
    · rw [State.onLink_link, vlink, noted]
    · rw [State.onLink_link, vlink, noted]
    · rw [State.onLink_link, vlink, noted]
    · rw [State.onLink_link, vlink, noted]
    · rw [host, panels.frame]; rfl
    · obtain ⟨link, governor⟩ := panels.absent absent1 absent2
      rw [host, ← link, ← governor]
      exact ⟨rfl, rfl⟩

end Sys2Proof.Machine
end

section
/-! PROOF. The grade of a span, its moisture and the trim chosen (O29). -/

namespace Sys2Proof.Machine

/-! ### The grade of a span (R54) -/

theorem elim_false_eq_true {α : Type} {o : Option α} {f : α → Bool} :
    o.elim false f = true ↔ ∃ a, o = some a ∧ f a = true := by
  cases o <;> simp

/-- The grade of a span is the first defined code whose limits hold, and 7 where none holds. -/
theorem gradeOf_spec (b : Bank) (span : List Cell) (minT minW : Nat) (moist : Option Nat) :
    gradeOf b span minT minW moist ≤ 7 ∧
    (∀ g l, g < gradeOf b span minT minW moist → b.gradeLimits g = some l → l.hold span minT minW moist = false) ∧
    (gradeOf b span minT minW moist < 7 →
      ∃ l, b.gradeLimits (gradeOf b span minT minW moist) = some l ∧ l.hold span minT minW moist = true) := by
  unfold gradeOf
  cases found : (List.range 7).find? fun g => (b.gradeLimits g).elim false fun l => l.hold span minT minW moist with
  | none =>
    rw [List.find?_eq_none] at found
    refine ⟨Nat.le_refl 7, fun g l below defined => ?_, fun below => absurd below (Nat.lt_irrefl 7)⟩
    have fails := found g (List.mem_range.mpr below)
    rw [defined] at fails
    exact Bool.eq_false_iff.mpr fails
  | some g =>
    obtain ⟨holds, below, before⟩ := List.find?_range_eq_some.mp found
    refine ⟨Nat.le_of_lt (List.mem_range.mp below), fun i l less defined => ?_, fun _ => elim_false_eq_true.mp holds⟩
    have fails := before i less
    rw [defined] at fails
    simpa using fails

theorem Cell.isWane_eq : Cell.isWane = fun c => match c with | .present _ _ a _ => decide (0 < a) | _ => false :=
  funext fun c => by cases c <;> rfl

theorem Cell.isDefect_eq :
    Cell.isDefect = fun c => match c with | .present _ _ _ d => decide (1 ≤ d ∧ d ≤ 6) | _ => false :=
  funext fun c => by cases c <;> rfl

theorem Cell.isSkip_eq (minT minW : Nat) : Cell.isSkip minT minW =
    fun c => match c with | .present t w _ _ => decide (t < minT ∨ w < minW) | _ => false :=
  funext fun c => by cases c <;> simp [Cell.isSkip]

/-- A test of the PRESENT cells passes for a whole span. -/
theorem all_present {span : List Cell} {f : Nat → Nat → Nat → Nat → Bool} {test : Cell → Bool}
    (present : ∀ t w a d, test (.present t w a d) = f t w a d) (other : test .unreported = true ∧ test .absent = true ∧
      test .unknown = true) : span.all test = true ↔ ∀ t w a d, Cell.present t w a d ∈ span → f t w a d = true := by
  obtain ⟨unreported, absent, unknown⟩ := other
  rw [List.all_eq_true]
  refine ⟨fun h t w a d mem => present t w a d ▸ h _ mem, fun h c mem => ?_⟩
  cases c with
  | unreported => exact unreported
  | absent => exact absent
  | unknown => exact unknown
  | present t w a d => exact (present t w a d).trans (h t w a d mem)

/-- The limits of R54 as computed are those of its table, line by line. -/
theorem GradeLimits.hold_iff (g : GradeLimits) (span : List Cell) (minT minW : Nat) (moist : Option Nat) :
    g.hold span minT minW moist = true ↔ g.Holds span minT minW moist := by
  have wane := all_present (span := span) (f := fun _ _ a _ => decide (a ≤ g.waneDepth))
    (test := fun c => match c with | .present _ _ a _ => decide (a ≤ g.waneDepth) | _ => true)
    (fun _ _ _ _ => rfl) ⟨rfl, rfl, rfl⟩
  have defect := all_present (span := span) (f := fun _ _ _ d => !decide (1 ≤ d ∧ d ≤ 6) || allowed g.allow d)
    (test := fun c => match c with | .present _ _ _ d => !c.isDefect || allowed g.allow d | _ => true)
    (fun _ _ _ _ => rfl) ⟨rfl, rfl, rfl⟩
  have reading : (moist.elim true fun m => decide (m ≤ g.moisture)) = true ↔ ∀ m, moist = some m → m ≤ g.moisture := by
    cases moist <;> simp
  have unknown : (!span.contains Cell.unknown) = true ↔ Cell.unknown ∉ span := by simp
  unfold GradeLimits.hold
  simp only [Bool.and_eq_true, decide_eq_true_eq]
  constructor
  · rintro ⟨⟨⟨⟨⟨⟨known, depth⟩, share⟩, allow⟩, rate⟩, skip⟩, moisture⟩
    refine ⟨unknown.mp known, fun t w a d mem => of_decide_eq_true (wane.mp depth t w a d mem), ?_,
      fun t w a d mem least most => ?_, ?_, ?_, reading.mp moisture⟩
    · rw [Cell.isWane_eq] at share; exact share
    · have := defect.mp allow t w a d mem
      rw [decide_eq_true ⟨least, most⟩] at this
      exact this
    · rw [Cell.isDefect_eq] at rate; exact rate
    · rw [Cell.isSkip_eq] at skip; exact skip
  · rintro ⟨known, depth, share, allow, rate, skip, moisture⟩
    refine ⟨⟨⟨⟨⟨⟨unknown.mpr known, wane.mpr fun t w a d mem => decide_eq_true (depth t w a d mem)⟩, ?_⟩,
      defect.mpr fun t w a d mem => ?_⟩, ?_⟩, ?_⟩, reading.mpr moisture⟩
    · rw [Cell.isWane_eq]; exact share
    · by_cases class_ : 1 ≤ d ∧ d ≤ 6
      · rw [decide_eq_true class_]
        exact allow t w a d mem class_.1 class_.2
      · rw [decide_eq_false class_]
        rfl
    · rw [Cell.isDefect_eq]; exact rate
    · rw [Cell.isSkip_eq]; exact skip

/-! ### The span moisture (R55) -/

theorem overlaps_iff {first last left right : Nat} (saws : left < right) (run : first ≤ last) :
    (first < 4 * right ∧ 4 * left ≤ last) ↔ ∃ k, first ≤ k ∧ k ≤ last ∧ 4 * left ≤ k ∧ k < 4 * right := by
  refine ⟨fun _ => ⟨max first (4 * left), ?_⟩, fun ⟨k, _⟩ => ?_⟩ <;> omega

/-- The readings whose highest is the span moisture. -/
def spanReadings (b : Bank) (moisture : List (Option Reading)) (left right : Nat) : List Nat :=
  (List.range 4).filterMap fun c =>
    match b.channel c, (moisture[c]?).join with
    | some ch, some r => if ch.first < 4 * right ∧ 4 * left ≤ ch.last then some r.value else none
    | _, _ => none

theorem mem_spanReadings {b : Bank} {moisture : List (Option Reading)} {left right : Nat} (saws : left < right)
    (runs : ∀ c ch, b.channel c = some ch → ch.first ≤ ch.last) (m : Nat) :
    m ∈ spanReadings b moisture left right ↔ ReadsSpan b moisture left right m := by
  unfold spanReadings
  rw [List.mem_filterMap]
  constructor
  · rintro ⟨c, below, reads⟩
    split at reads
    case h_2 => cases reads
    case h_1 ch r channel reading =>
      split at reads
      case isFalse => cases reads
      case isTrue shared =>
        cases reads
        exact ⟨c, ch, r, List.mem_range.mp below, channel, Option.join_eq_some_iff.mp reading, rfl,
          (overlaps_iff saws (runs c ch channel)).mp shared⟩
  · rintro ⟨c, ch, r, below, channel, reading, rfl, shared⟩
    refine ⟨c, List.mem_range.mpr below, ?_⟩
    rw [channel, Option.join_eq_some_iff.mpr reading]
    exact if_pos ((overlaps_iff saws (runs c ch channel)).mpr shared)

/-! ### The choice among the candidates (R59) -/

/-- A candidate that does not better another, by R59's order. -/
def NoBetter (product : Candidate → Nat) (d c : Candidate) : Prop :=
  product d ≤ product c ∧ (product d = product c →
    d.length ≤ c.length ∧ (d.length = c.length → c.grade ≤ d.grade ∧ (c.grade = d.grade → c.left ≤ d.left)))

theorem prefer_eq_false {product : Candidate → Nat} {d c : Candidate} :
    prefer product d c = false ↔ NoBetter product d c := by
  rw [← Bool.not_eq_true]
  unfold prefer NoBetter
  simp only [Bool.or_eq_true, Bool.and_eq_true, decide_eq_true_eq, beq_iff_eq]
  omega

theorem NoBetter.refl (product : Candidate → Nat) (c : Candidate) : NoBetter product c c := by
  unfold NoBetter
  omega

theorem NoBetter.trans {product : Candidate → Nat} {c d e : Candidate} (h : NoBetter product c d)
    (k : NoBetter product d e) : NoBetter product c e := by
  unfold NoBetter at *
  omega

theorem NoBetter.of_prefer {product : Candidate → Nat} {c d : Candidate} (h : prefer product c d = true) :
    NoBetter product d c := by
  unfold prefer at h
  unfold NoBetter
  simp only [Bool.or_eq_true, Bool.and_eq_true, decide_eq_true_eq, beq_iff_eq] at h
  omega

/-- The candidate kept after weighing the best so far against the rest is one of them, and none of them betters it. -/
theorem foldl_prefer (product : Candidate → Nat) (cs : List Candidate) (best : Candidate) :
    let chosen := cs.foldl (fun best x => if prefer product x best then x else best) best
    chosen ∈ best :: cs ∧ ∀ d ∈ best :: cs, NoBetter product d chosen := by
  induction cs generalizing best with
  | nil => exact ⟨List.mem_singleton_self _, fun d mem => List.mem_singleton.mp mem ▸ .refl product best⟩
  | cons x cs ih =>
    rw [List.foldl_cons]
    cases better : prefer product x best with
    | true =>
      obtain ⟨mem, least⟩ := ih x
      rw [if_pos rfl]
      refine ⟨List.mem_cons_of_mem _ mem, fun d hd => ?_⟩
      obtain rfl | hd := List.mem_cons.mp hd
      · exact (NoBetter.of_prefer better).trans (least x List.mem_cons_self)
      · exact least d hd
    | false =>
      obtain ⟨mem, least⟩ := ih best
      rw [if_neg Bool.false_ne_true]
      refine ⟨?_, fun d hd => ?_⟩
      · obtain same | mem := List.mem_cons.mp mem
        · exact List.mem_cons.mpr (.inl same)
        · exact List.mem_cons_of_mem _ (List.mem_cons_of_mem _ mem)
      · rw [List.mem_cons, List.mem_cons] at hd
        obtain rfl | rfl | hd := hd
        · exact least d List.mem_cons_self
        · exact (prefer_eq_false.mp better).trans (least best List.mem_cons_self)
        · exact least d (List.mem_cons_of_mem _ hd)

/-- The decision among candidates, of which there is one at least. -/
theorem decideTrim_spec (product : Candidate → Nat) {cs : List Candidate} (some_ : cs ≠ []) :
    ∃ c ∈ cs, Unbettered product (· ∈ cs) c ∧ decideTrim product cs =
      if product c = 0 then .slash else .keep c.left c.right c.grade (product c) ((product c + 240) / 480) := by
  cases cs with
  | nil => exact absurd rfl some_
  | cons best cs =>
    obtain ⟨mem, least⟩ := foldl_prefer product cs best
    exact ⟨_, mem, least, rfl⟩

/-- Settles O29: by the first code of `find?`, R54's table line by line, the greatest of the readings that share a cell
with the span, and the invariant of the fold that keeps the best candidate. -/
theorem gradeAndTrimAreChosen : Obligations.GradeAndTrimAreChosen := by
  unfold Obligations.GradeAndTrimAreChosen
  refine ⟨gradeOf_spec, GradeLimits.hold_iff, fun b readings left right saws runs => ?_, fun product cs =>
    ⟨fun none_ => none_ ▸ rfl, decideTrim_spec product⟩⟩
  have reads := mem_spanReadings (moisture := readings) saws runs
  have greatest : spanMoisture b readings left right = (spanReadings b readings left right).max? := rfl
  rw [greatest]
  refine ⟨fun m => ?_, ?_⟩
  · rw [List.max?_eq_some_iff, reads]
    exact and_congr_right fun _ => forall_congr' fun n => by rw [reads]
  · rw [List.max?_eq_none_iff, List.eq_nil_iff_forall_not_mem]
    exact forall_congr' fun n => not_congr (reads n)

end Sys2Proof.Machine
end

section
/-! PROOF. The result of a solve (O30). -/

namespace Sys2Proof.Machine

/-! ### The size class (R51) -/

theorem classFor_found (row : Nat → Option SizeClassRow) (mean : Nat) : ClassFound row mean (classFor row mean) := by
  have earns (k : Nat) : ((row k).elim false fun r => decide (r.minimum ≤ mean)) = true ↔
      ∃ r, row k = some r ∧ r.minimum ≤ mean := by
    simpa using elim_false_eq_true (o := row k) (f := fun r => decide (r.minimum ≤ mean))
  have codes : (List.range 8).reverse = [7, 6, 5, 4, 3, 2, 1, 0] := rfl
  have descending : (List.range 8).reverse.Pairwise (· > ·) := by rw [codes]; decide
  unfold classFor
  cases found : (List.range 8).reverse.find? fun k => (row k).elim false fun r => decide (r.minimum ≤ mean) with
  | none =>
    rw [List.find?_eq_none] at found
    exact ⟨fun k none_ => (by cases none_), fun k r below defined low =>
      absurd ((earns k).mpr ⟨r, defined, low⟩) (found k (List.mem_reverse.mpr (List.mem_range.mpr below)))⟩
  | some j =>
    obtain ⟨holds, before, after, codes, fails⟩ := List.find?_eq_some_iff_append.mp found
    have mem : j ∈ (List.range 8).reverse := List.mem_of_find?_eq_some found
    refine ⟨fun k same => ?_, fun k r below defined low => ⟨j, rfl, ?_⟩⟩
    · cases same
      exact ⟨List.mem_range.mp (List.mem_reverse.mp mem), (earns j).mp holds⟩
    · have here : k ∈ before ++ j :: after := codes ▸ List.mem_reverse.mpr (List.mem_range.mpr below)
      rw [codes, List.pairwise_append, List.pairwise_cons] at descending
      obtain ⟨-, ⟨later, -⟩, -⟩ := descending
      obtain first | rfl | last := List.mem_append.mp here |>.imp_right List.mem_cons.mp
      · have no := fails k first
        rw [(earns k).mpr ⟨r, defined, low⟩] at no
        exact absurd no Bool.false_ne_true
      · exact Nat.le_refl _
      · exact Nat.le_of_lt (later k last)

theorem ClassFound.unique {row : Nat → Option SizeClassRow} {mean : Nat} {x y : Option Nat} (h : ClassFound row mean x)
    (k : ClassFound row mean y) : x = y := by
  obtain ⟨hfound, hmost⟩ := h
  obtain ⟨kfound, kmost⟩ := k
  cases x with
  | none =>
    cases y with
    | none => rfl
    | some j =>
      obtain ⟨below, r, defined, low⟩ := kfound j rfl
      obtain ⟨i, none_, -⟩ := hmost j r below defined low
      cases none_
  | some i =>
    obtain ⟨below, r, defined, low⟩ := hfound i rfl
    obtain ⟨j, rfl, le⟩ := kmost i r below defined low
    obtain ⟨below, r, defined, low⟩ := kfound j rfl
    obtain ⟨i', same, le'⟩ := hmost j r below defined low
    cases same
    rw [Nat.le_antisymm le le']

/-! ### The candidates (R53, R54, R56) -/

theorem absent_mem_spanOf {cells : List Cell} {l r : Nat} :
    Cell.absent ∉ spanOf cells l r ↔ ∀ k, 4 * l ≤ k → k < 4 * r → cells[k]? ≠ some .absent := by
  unfold spanOf
  rw [List.mem_iff_getElem?, not_exists]
  constructor
  · intro none_ k least most
    have within : k - 4 * l < 4 * (r - l) := by omega
    have := none_ (k - 4 * l)
    rw [List.getElem?_take_of_lt within, List.getElem?_drop, Nat.add_sub_cancel' least] at this
    exact this
  · intro none_ i here
    rw [List.getElem?_take] at here
    split at here
    case isTrue within =>
      rw [List.getElem?_drop] at here
      exact none_ _ (by omega) (by omega) here
    case isFalse => cases here

theorem mem_candidatePairs {minLength : Nat} {cells : List Cell} {l r : Nat} :
    (l, r) ∈ candidatePairs minLength cells ↔
      l < r ∧ r ≤ 12 ∧ minLength ≤ 2 * (r - l) ∧ ∀ k, 4 * l ≤ k → k < 4 * r → cells[k]? ≠ some .absent := by
  unfold candidatePairs
  simp only [List.mem_flatMap, List.mem_filterMap, List.mem_range, Option.ite_none_right_eq_some, Option.some.injEq,
    Prod.mk.injEq, ← absent_mem_spanOf]
  constructor
  · rintro ⟨a, -, b, below, ⟨less, long, wood⟩, rfl, rfl⟩
    exact ⟨less, Nat.le_of_lt_succ below, long, wood⟩
  · rintro ⟨less, most, long, wood⟩
    exact ⟨l, by omega, r, by omega, ⟨less, long, wood⟩, rfl, rfl⟩

/-- The grade that a span of a piece earns (R54). -/
def Solve.earned (v : Solve) (b : Bank) (minT minW l r : Nat) : Nat :=
  gradeOf b (spanOf v.cells l r) minT minW (spanMoisture b v.moisture l r)

theorem mem_candidates {v : Solve} {b : Bank} {minT minW : Nat} {c : Candidate} :
    c ∈ candidates b v.cells v.moisture minT minW ↔
      (c.left, c.right) ∈ candidatePairs b.gradeCommon.1 v.cells ∧ c.grade = v.earned b minT minW c.left c.right := by
  unfold candidates
  rw [List.mem_map]
  constructor
  · rintro ⟨⟨l, r⟩, mem, rfl⟩
    exact ⟨mem, rfl⟩
  · rintro ⟨mem, grade⟩
    exact ⟨_, mem, congrArg (Candidate.mk c.left c.right) grade.symm⟩

/-- The candidates whose grades a function of the grade earned gives. -/
theorem mem_regraded {v : Solve} {b : Bank} {minT minW : Nat} {c : Candidate} (f : Nat → Nat) :
    c ∈ (candidates b v.cells v.moisture minT minW).map (fun c => { c with grade := f c.grade }) ↔
      (c.left, c.right) ∈ candidatePairs b.gradeCommon.1 v.cells ∧
      c.grade = f (v.earned b minT minW c.left c.right) := by
  rw [List.mem_map]
  constructor
  · rintro ⟨d, mem, rfl⟩
    obtain ⟨pair, grade⟩ := mem_candidates.mp mem
    exact ⟨pair, congrArg f grade⟩
  · rintro ⟨pair, grade⟩
    exact ⟨⟨c.left, c.right, v.earned b minT minW c.left c.right⟩, mem_candidates.mpr ⟨pair, rfl⟩, by rw [← grade]⟩

/-- The grade of a candidate as an override leaves it (R56). -/
def overriddenGrade (o : Option Override) (earned : Nat) : Nat :=
  match o with
  | some ⟨.gradeSet, g, _⟩ => g
  | some ⟨.gradeDown, _, _⟩ => min 7 (earned + 1)
  | _ => earned

theorem Solve.offers_iff {v : Solve} {b : Bank} {minT minW : Nat} {c : Candidate} : v.Offers b minT minW c ↔
    (c.left, c.right) ∈ candidatePairs b.gradeCommon.1 v.cells ∧
    (∀ l panel, v.override = some ⟨.lengthLimit, l, panel⟩ → 2 * (c.right - c.left) ≤ l) ∧
    c.grade = overriddenGrade v.override (v.earned b minT minW c.left c.right) := by
  rw [mem_candidatePairs]
  constructor
  · rintro ⟨⟨less, most⟩, long, wood, limit, grade⟩
    exact ⟨⟨less, most, long, wood⟩, limit, grade _ rfl⟩
  · rintro ⟨⟨less, most, long, wood⟩, limit, grade⟩
    exact ⟨⟨less, most⟩, long, wood, limit, fun earned same => same ▸ grade⟩

/-- The candidates as the override leaves them are those a solve offers. -/
theorem mem_applyOverride {v : Solve} {b : Bank} {minT minW : Nat} {c : Candidate} :
    c ∈ applyOverride v.override (candidates b v.cells v.moisture minT minW) ↔ v.Offers b minT minW c := by
  rw [Solve.offers_iff]
  have plain : applyOverride v.override (candidates b v.cells v.moisture minT minW) =
        candidates b v.cells v.moisture minT minW →
      (∀ l panel, v.override ≠ some ⟨.lengthLimit, l, panel⟩) → (∀ n, overriddenGrade v.override n = n) →
      (c ∈ applyOverride v.override (candidates b v.cells v.moisture minT minW) ↔
        (c.left, c.right) ∈ candidatePairs b.gradeCommon.1 v.cells ∧
        (∀ l panel, v.override = some ⟨.lengthLimit, l, panel⟩ → 2 * (c.right - c.left) ≤ l) ∧
        c.grade = overriddenGrade v.override (v.earned b minT minW c.left c.right)) := fun same free keeps => by
    rw [same, mem_candidates, keeps]
    exact and_congr_right fun _ => ⟨fun grade => ⟨fun l panel h => absurd h (free l panel), grade⟩, And.right⟩
  cases override : v.override with
  | none =>
    rw [override] at plain
    exact plain rfl (fun _ _ h => by cases h) fun _ => rfl
  | some o =>
    obtain ⟨kind, value, panel⟩ := o
    rw [override] at plain
    cases kind with
    | gradeSet =>
      exact (mem_regraded fun _ => value).trans (and_congr_right fun _ =>
        ⟨fun grade => ⟨fun _ _ h => (by cases h), grade⟩, And.right⟩)
    | gradeDown =>
      exact (mem_regraded fun earned => min 7 (earned + 1)).trans (and_congr_right fun _ =>
        ⟨fun grade => ⟨fun _ _ h => (by cases h), grade⟩, And.right⟩)
    | lengthLimit =>
      have limited : c ∈ applyOverride (some ⟨.lengthLimit, value, panel⟩)
            (candidates b v.cells v.moisture minT minW) ↔
          c ∈ candidates b v.cells v.moisture minT minW ∧ 2 * (c.right - c.left) ≤ value :=
        List.mem_filter.trans (and_congr_right fun _ => decide_eq_true_iff)
      rw [limited, mem_candidates, and_assoc]
      refine and_congr_right fun _ => ⟨fun ⟨grade, short⟩ => ⟨fun l p h => ?_, grade⟩, fun ⟨limit, grade⟩ =>
        ⟨grade, limit value panel rfl⟩⟩
      cases h
      exact short
    | slash | regrade | cancel => exact plain rfl (fun _ _ h => by cases h) fun _ => rfl

/-! ### The bin-aware exclusion (R58) -/

theorem solverBinAvailable_iff {v : Solve} {margin : Nat} {named : Option Nat} :
    solverBinAvailable v.bins margin named = true ↔ v.HasRoom margin named := by
  unfold Solve.HasRoom
  cases named with
  | none => exact ⟨fun h => absurd h Bool.false_ne_true, fun ⟨_, _, none_, _⟩ => by cases none_⟩
  | some i =>
    refine elim_false_eq_true.trans ⟨fun ⟨x, here, room⟩ => ?_, fun ⟨j, x, same, here, opened, room⟩ => ?_⟩
    · rw [Bool.and_eq_true, decide_eq_true_eq, decide_eq_true_eq] at room
      exact ⟨i, x, rfl, here, room⟩
    · cases same
      exact ⟨x, here, by rw [Bool.and_eq_true, decide_eq_true_eq, decide_eq_true_eq]; exact ⟨opened, room⟩⟩

theorem routes_iff {v : Solve} {b : Bank} {margin : Nat} {c : Candidate} :
    ((b.sortRow c.grade (c.right - c.left - 1)).elim false fun r =>
      solverBinAvailable v.bins margin r.primary || solverBinAvailable v.bins margin r.alternate) = true ↔
    v.Routes b margin c := by
  rw [elim_false_eq_true]
  exact exists_congr fun row => and_congr_right fun _ => by
    rw [Bool.or_eq_true, solverBinAvailable_iff, solverBinAvailable_iff]

theorem binAware_subset (b : Bank) (bins : List Bin) (cs : List Candidate) : binAware b bins cs ⊆ cs := by
  unfold binAware
  dsimp only
  repeat' split
  case isTrue.isFalse => exact List.filter_subset_self _
  all_goals exact List.Subset.refl cs

theorem mem_binAware {v : Solve} {b : Bank} {gr : GovernorRow} (row : b.governor.rows.head? = some gr)
    {cs : List Candidate} {c : Candidate} : c ∈ binAware b v.bins cs ↔
      c ∈ cs ∧ (b.gradeCommon.2 = true → (∃ d, d ∈ cs ∧ v.Routes b gr.margin d) → v.Routes b gr.margin c) := by
  have margin : b.governorRow.elim 0 GovernorRow.margin = gr.margin := by rw [Bank.governorRow, row]; rfl
  unfold binAware
  rw [margin]
  dsimp only
  cases aware : b.gradeCommon.2 with
  | false =>
    rw [if_neg Bool.false_ne_true]
    exact ⟨fun mem => ⟨mem, fun no => absurd no Bool.false_ne_true⟩, And.left⟩
  | true =>
    rw [if_pos rfl]
    split
    case isTrue empty =>
      rw [List.isEmpty_iff, List.filter_eq_nil_iff] at empty
      refine ⟨fun mem => ⟨mem, fun _ ⟨d, hd, routes⟩ => absurd (routes_iff.mpr routes) (empty d hd)⟩, And.left⟩
    case isFalse kept =>
      rw [List.isEmpty_iff] at kept
      obtain ⟨d, kept⟩ := List.exists_mem_of_ne_nil _ kept
      obtain ⟨hd, routes⟩ := List.mem_filter.mp kept
      rw [List.mem_filter, routes_iff]
      exact and_congr_right fun _ => ⟨fun r _ _ => r, fun r => r rfl ⟨d, hd, routes_iff.mp routes⟩⟩

/-! ### The result of a solve -/

/-- The candidates that go on to the choice of a solve of a piece of classes `t` and `w`. -/
def Solve.remaining (v : Solve) (b : Bank) (t w : Nat) : List Candidate :=
  binAware b v.bins (applyOverride v.override (candidates b v.cells v.moisture
    ((b.thickness t).elim 0 SizeClassRow.minimum) ((b.width w).elim 0 SizeClassRow.minimum)))

theorem Solve.mem_remaining {v : Solve} {b : Bank} {gr : GovernorRow} (row : b.governor.rows.head? = some gr) {t w : Nat}
    {tr wr : SizeClassRow} (thick : b.thickness t = some tr) (wide : b.width w = some wr) {c : Candidate} :
    c ∈ v.remaining b t w ↔ v.Stands b gr.margin tr.minimum wr.minimum c := by
  unfold Solve.remaining Solve.Stands
  rw [thick, wide, mem_binAware row]
  simp only [mem_applyOverride]
  rfl

theorem meanSize_some {cells : List Cell} (sizes : cells.filterMap Cell.size? ≠ []) : meanSize cells =
    some (((cells.filterMap Cell.size?).map Prod.fst).sum / (cells.filterMap Cell.size?).length,
      ((cells.filterMap Cell.size?).map Prod.snd).sum / (cells.filterMap Cell.size?).length) := by
  unfold meanSize
  exact if_neg (by rw [List.isEmpty_iff]; exact sizes)

theorem Solve.result_unsized {v : Solve} (b : Bank) (sizes : v.cells.filterMap Cell.size? = []) :
    v.result b = (none, if isSlash v.override then some .slash else none) := by
  have none_ : meanSize v.cells = none := by
    unfold meanSize
    rw [sizes]
    rfl
  unfold Solve.result
  rw [none_]

theorem Solve.result_undersize {v : Solve} {b : Bank} {mean : Nat × Nat} (means : meanSize v.cells = some mean)
    (size : sizeClassOf b mean = .undersize) : v.result b = (some .undersize, some .slash) := by
  unfold Solve.result
  rw [means]
  dsimp only
  rw [size]

theorem Solve.result_sized {v : Solve} {b : Bank} {mean : Nat × Nat} {t w : Nat} (means : meanSize v.cells = some mean)
    (size : sizeClassOf b mean = .sized t w) : v.result b = (some (.sized t w),
      some (if isSlash v.override then .slash else decideTrim (productOf b t w) (v.remaining b t w))) := by
  unfold Solve.result Solve.remaining
  rw [means]
  dsimp only
  rw [size]
  dsimp only
  split <;> rfl

theorem isSlash_iff {o : Option Override} : isSlash o = true ↔ o.map Override.kind = some .slash := by
  unfold isSlash
  exact beq_iff_eq

theorem sizeClassOf_undersize {b : Bank} {mean : Nat × Nat}
    (unmet : classFor b.thickness mean.1 = none ∨ classFor b.width mean.2 = none) : sizeClassOf b mean = .undersize := by
  unfold sizeClassOf
  obtain none_ | none_ := unmet
  · rw [none_]
  · rw [none_]
    cases classFor b.thickness mean.1 <;> rfl

theorem sizeClassOf_sized_iff {b : Bank} {mean : Nat × Nat} {t w : Nat} : sizeClassOf b mean = .sized t w ↔
    classFor b.thickness mean.1 = some t ∧ classFor b.width mean.2 = some w := by
  unfold sizeClassOf
  cases classFor b.thickness mean.1 <;> cases classFor b.width mean.2 <;> simp

/-- What a product is worth at the nominal sizes and the price of its classes (R57). -/
theorem productOf_eq {b : Bank} {t w : Nat} {tr wr : SizeClassRow} (thick : b.thickness t = some tr)
    (wide : b.width w = some wr) : productOf b t w = fun c =>
      tr.nominal * wr.nominal * (2 * (c.right - c.left)) * b.priceOf c.grade (c.right - c.left - 1) t w := by
  funext c
  unfold productOf bf48Of
  dsimp only
  rw [thick, wide]
  rfl

/-- The result of a solve with a PRESENT cell, as R51 to R59 give it. -/
theorem Solve.result_classed {v : Solve} {b : Bank} {mean : Nat × Nat} (means : meanSize v.cells = some mean)
    {ft fw : Option Nat} (thick : ClassFound b.thickness mean.1 ft) (wide : ClassFound b.width mean.2 fw) :
    (ft = none ∨ fw = none → v.result b = (some .undersize, some .slash)) ∧
    (∀ t w, ft = some t → fw = some w → v.result b = (some (.sized t w),
      some (if isSlash v.override then .slash else decideTrim (productOf b t w) (v.remaining b t w)))) := by
  have tclass := (classFor_found b.thickness mean.1).unique thick
  have wclass := (classFor_found b.width mean.2).unique wide
  refine ⟨fun unmet => Solve.result_undersize means (sizeClassOf_undersize ?_), fun t w ht hw =>
    Solve.result_sized means (sizeClassOf_sized_iff.mpr ⟨tclass.trans ht, wclass.trans hw⟩)⟩
  rw [tclass, wclass]
  exact unmet

/-- Candidates that keep their place, and the one chosen. -/
theorem Solve.chosen {v : Solve} {b : Bank} {t w : Nat} {stands : Candidate → Prop} (product : Candidate → Nat)
    (remain : ∀ c, c ∈ v.remaining b t w ↔ stands c) :
    ((∀ c, ¬stands c) → decideTrim product (v.remaining b t w) = .slash) ∧
    ((∃ c, stands c) → ∃ c, stands c ∧ Unbettered product stands c ∧
      decideTrim product (v.remaining b t w) = if product c = 0 then .slash
        else .keep c.left c.right c.grade (product c) ((product c + 240) / 480)) := by
  have among : (· ∈ v.remaining b t w) = stands := funext fun c => propext (remain c)
  refine ⟨fun none_ => ?_, fun ⟨c, hc⟩ => ?_⟩
  · rw [List.eq_nil_iff_forall_not_mem.mpr fun c mem => none_ c ((remain c).mp mem)]
    rfl
  · obtain ⟨d, mem, best, decision⟩ := decideTrim_spec product (List.ne_nil_of_mem ((remain c).mpr hc))
    rw [among] at best
    exact ⟨d, (remain d).mp mem, best, decision⟩

/-- A KEEP decision is that of a candidate of the solve which is worth something. -/
theorem Solve.keep_offered {v : Solve} {b : Bank} {size : Option SizeClass} {l r grade product value : Nat}
    (result : v.result b = (size, some (.keep l r grade product value))) : ∃ t w tr wr,
      size = some (.sized t w) ∧ b.thickness t = some tr ∧ b.width w = some wr ∧
      v.Offers b tr.minimum wr.minimum ⟨l, r, grade⟩ ∧ product = productOf b t w ⟨l, r, grade⟩ ∧ 0 < product ∧
      value = (product + 240) / 480 := by
  by_cases sizes : v.cells.filterMap Cell.size? = []
  · rw [Solve.result_unsized b sizes] at result
    split at result <;> cases result
  · obtain ⟨under, sized⟩ := Solve.result_classed (meanSize_some sizes) (classFor_found b.thickness _)
      (classFor_found b.width _)
    generalize ht : classFor b.thickness _ = ft at under sized
    generalize hw : classFor b.width _ = fw at under sized
    cases ft with
    | none =>
      rw [under (.inl rfl)] at result
      cases result
    | some t =>
      cases fw with
      | none =>
        rw [under (.inr rfl)] at result
        cases result
      | some w =>
        obtain ⟨-, tr, thick, -⟩ := (classFor_found b.thickness _).1 t ht
        obtain ⟨-, wr, wide, -⟩ := (classFor_found b.width _).1 w hw
        rw [sized t w rfl rfl] at result
        obtain ⟨rfl, decision⟩ := Prod.mk.inj result
        split at decision
        case isTrue => cases decision
        have decision := Option.some.inj decision
        cases remaining : v.remaining b t w with
        | nil =>
          rw [remaining] at decision
          cases decision
        | cons c cs =>
          obtain ⟨d, mem, -, chosen⟩ := decideTrim_spec (productOf b t w) (remaining ▸ List.cons_ne_nil c cs)
          rw [chosen] at decision
          split at decision
          case isTrue => cases decision
          case isFalse worth =>
            cases decision
            have offered := mem_applyOverride.mp (binAware_subset b v.bins _ mem)
            rw [thick, wide] at offered
            exact ⟨t, w, tr, wr, rfl, thick, wide, offered, rfl, Nat.pos_of_ne_zero worth, rfl⟩

/-- Settles O30: the classes R51 finds are unique, the candidates that go on are those that stand, and a KEEP decision is
one of the candidates the solve offers. -/
theorem keepDecisionsAreProper : Obligations.KeepDecisionsAreProper := by
  unfold Obligations.KeepDecisionsAreProper
  constructor
  · intro v b gr sizes slash ft fw row hsizes hslash
    have overridden : isSlash v.override = true ↔ slash := isSlash_iff.trans hslash.symm
    subst hsizes
    refine ⟨fun unsized => ?_, fun sized thick wide => ?_⟩
    · rw [Solve.result_unsized b unsized]
      exact ⟨fun yes => by rw [if_pos (overridden.mpr yes)], fun no => by rw [if_neg fun h => no (overridden.mp h)]⟩
    · obtain ⟨under, result⟩ := Solve.result_classed (meanSize_some sized) thick wide
      refine ⟨under, fun t w tr wr product stands ht hw htr hwr hproduct hstands => ?_⟩
      have product_eq : productOf b t w = product := (productOf_eq htr hwr).trans hproduct.symm
      have remain (c : Candidate) : c ∈ v.remaining b t w ↔ stands c := by
        rw [hstands]
        exact Solve.mem_remaining row htr hwr
      obtain ⟨none_stands, one_stands⟩ := Solve.chosen product remain
      rw [result t w ht hw, product_eq]
      refine ⟨fun yes => by rw [if_pos (overridden.mpr yes)], fun no none_ => ?_, fun no some_ => ?_⟩
      · rw [if_neg fun h => no (overridden.mp h), none_stands none_]
      · obtain ⟨c, hc, best, decision⟩ := one_stands some_
        exact ⟨c, hc, best, by rw [if_neg fun h => no (overridden.mp h), decision]⟩
  · intro v b size l r grade product value result
    obtain ⟨t, w, tr, wr, classed, thick, wide, offered, worth, positive, reported⟩ := Solve.keep_offered result
    obtain ⟨less, most⟩ := offered.saws
    refine ⟨less, most, offered.length, offered.wood, positive, reported, t, w, tr, wr, classed, thick, wide, ?_⟩
    rw [worth, productOf_eq thick wide]

end Sys2Proof.Machine
end

section
/-! PROOF. What a LINE_RESET leaves (O54). -/

namespace Sys2Proof.Machine

/-! ### What notices alone change -/

/-- Of the link nothing but the notices and what carries them has changed, and of the governor nothing but notice
pressure. -/
structure Announced (s t : State) : Prop where
  link : s.link.Noted t.link
  pressure : OnlyPressure s t

theorem Announced.of_eq {s t : State} (link : t.link = s.link) (governor : t.governor = s.governor) : Announced s t :=
  ⟨by rw [link]; rfl, .of_eq governor⟩

theorem Announced.trans {s t u : State} (h : Announced s t) (k : Announced t u) : Announced s u :=
  ⟨h.link.trans k.link, h.pressure.trans k.pressure⟩

theorem queueNotice_announced (n : Notice) (s : State) : Announced s (queueNotice n s) :=
  ⟨queueNotice_link s n ▸ s.link.noticed_noted n, queueNotice_onlyPressure s n⟩

theorem weighBin_announced (i : Nat) (cause : BinCause) (s : State) : Announced s (weighBin i cause s) := by
  unfold weighBin
  split
  · exact .of_eq rfl rfl
  · split
    · exact .of_eq rfl rfl
    · rename_i b _ _
      have noticed := queueNotice_announced (.binEvent i b.fullNow cause { b with full := b.fullNow } s.chain.lug)
        (s.onBins fun l => l.set i { b with full := b.fullNow })
      exact ⟨noticed.link, noticed.pressure⟩

theorem releaseBin_announced (i : Nat) (s : State) : Announced s (releaseBin i s) := by
  have weighed := weighBin_announced i .release (s.onBins fun l => setAt l i fun b => { b with reserved := b.reserved - 1 })
  exact ⟨weighed.link, weighed.pressure⟩

theorem releaseBins_announced (l : List Nat) (s : State) : Announced s (releaseBins l s) := by
  induction l generalizing s with
  | nil => exact .of_eq rfl rfl
  | cons b l ih => exact (releaseBin_announced b s).trans (ih (releaseBin b s))

/-! ### The bins that pieces give up (R121) -/

/-- What a release makes of the bins is read off the bins alone. -/
theorem releaseBins_bins_congr (l : List Nat) {s t : State} (same : s.bins = t.bins) :
    (releaseBins l s).bins = (releaseBins l t).bins :=
  List.ext_getElem? fun b => by rw [releaseBins_getElem?, releaseBins_getElem?, same]

theorem reservedBin_eq_some_iff {p : Piece} {b : Nat} : p.reservedBin = some b ↔ p.dest = some (.bin b) := by
  unfold Piece.reservedBin
  split
  · rename_i c dest
    simp [dest]
  · rename_i other
    exact ⟨fun h => (by cases h), fun h => absurd h (other b)⟩

/-- The bins that hold a reservation for the pieces of a list. -/
def reservedBins (ps : List Piece) : List Nat := ps.filterMap Piece.reservedBin

theorem reservedBins_cons (p : Piece) (ps : List Piece) :
    reservedBins (p :: ps) = p.reservedBin.toList ++ reservedBins ps := by
  unfold reservedBins
  cases reserved : p.reservedBin with
  | none => exact List.filterMap_cons_none reserved
  | some b => exact List.filterMap_cons_some reserved

theorem reservedBins_count (b : Nat) (ps : List Piece) :
    (reservedBins ps).count b = ps.countP fun p => p.dest == some (.bin b) := by
  induction ps with
  | nil => rfl
  | cons p ps ih =>
    rw [reservedBins_cons, List.count_append, ih, List.countP_cons, Nat.add_comm]
    congr 1
    cases reserved : p.reservedBin with
    | none =>
      have unbound : ¬p.dest = some (.bin b) := fun h => by
        rw [reservedBin_eq_some_iff.mpr h] at reserved
        cases reserved
      simp [unbound]
    | some c =>
      have bound := reservedBin_eq_some_iff.mp reserved
      simp [bound, List.count_singleton]

/-! ### A count of the period that stays at its greatest value (R145) -/

/-- A place of a list of counts raised by `n`, no count passing its greatest value. -/
def countedUp (l : List Nat) (i n : Nat) : List Nat := l.modify i fun k => min (2 ^ 32 - 1) (k + n)

theorem countedUp_one (l : List Nat) (i n : Nat) : countedUp (countedUp l i 1) i n = countedUp l i (n + 1) := by
  unfold countedUp
  rw [List.modify_modify_eq]
  congr 1
  funext k
  simp only [Function.comp_apply]
  omega

/-! ### A piece lost (R18, R92, R121) -/

/-- The oldest piece has been lost: its reservation given up, its answer paid, its finish counted. -/
structure PieceLost (p : Piece) (rest : List Piece) (s t : State) : Prop where
  chain : t.chain = { s.chain with pieces := rest, finished := s.chain.finished + 1 }
  bins : t.bins = (releaseBins p.reservedBin.toList s).bins
  paid : LapsedPaid .lost p.decision p.lug s t
  announced : Announced s t
  snapshot : t.tally.snapshot = s.tally.snapshot
  number : t.tally.period.number = s.tally.period.number
  logOutcomes : t.tally.period.logOutcomes = s.tally.period.logOutcomes
  outcomes : t.tally.period.pieceOutcomes = countedUp s.tally.period.pieceOutcomes 7 1

theorem tallyPiece_lost (p : Piece) (s : State) :
    tallyPiece p .lost s = s.onTally fun t => { t with period := t.period.countPiece .lost } := by
  unfold tallyPiece
  cases p.decision <;> cases p.dest <;> rfl

theorem losePiece_front {s : State} {p : Piece} {rest : List Piece} (front : s.chain.pieces = p :: rest) :
    PieceLost p rest s (losePiece s p.lug) := by
  have found : s.piece? p.lug = some p := by
    rw [State.piece?, front]
    exact List.find?_cons_of_pos (beq_self_eq_true _)
  have lost : losePiece s p.lug = finishPiece p.lug .lost (payLapsed p.lug .lost (releaseBins p.reservedBin.toList s)) := by
    unfold losePiece
    rw [found, Option.bind_some]
    cases p.reservedBin <;> rfl
  have released := releaseBins_announced p.reservedBin.toList s
  have frame : (releaseBins p.reservedBin.toList s).chain = s.chain ∧
      (releaseBins p.reservedBin.toList s).panels = s.panels ∧ (releaseBins p.reservedBin.toList s).tally = s.tally := by
    cases p.reservedBin <;> simp [releaseBins]
  generalize hu : releaseBins p.reservedBin.toList s = u at lost released frame
  obtain ⟨chain, panels, tally⟩ := frame
  obtain ⟨paid, same⟩ := payLapsed_paid p.lug .lost u
  rw [piece?_of_chain chain, found, Option.bind_some] at paid
  generalize payLapsed p.lug .lost u = v at lost paid same
  have blocks : v.chain = s.chain ∧ v.tally = s.tally ∧ v.bins = u.bins ∧ v.link = u.link ∧ v.governor = u.governor := by
    rw [same]
    exact ⟨chain, tally, rfl, rfl, rfl⟩
  obtain ⟨vchain, vtally, vbins, vlink, vgovernor⟩ := blocks
  have finish : finishPiece p.lug .lost v = queueNotice (.pieceDone { p with outcome := some .lost, stage := .finished })
      (tallyPiece { p with outcome := some .lost, stage := .finished } .lost (v.onChain fun c =>
        { c with pieces := c.pieces.eraseP (fun q => q.lug == p.lug), finished := c.finished + 1 })) := by
    unfold finishPiece
    rw [piece?_of_chain vchain, found]
  rw [tallyPiece_lost] at finish
  rw [lost]
  have announced := queueNotice_announced (.pieceDone { p with outcome := some .lost, stage := .finished })
    ((v.onChain fun c =>
        { c with pieces := c.pieces.eraseP (fun q => q.lug == p.lug), finished := c.finished + 1 }).onTally fun t =>
      { t with period := t.period.countPiece .lost })
  rw [← finish] at announced
  have ended : (finishPiece p.lug .lost v).tally = { v.tally with period := v.tally.period.countPiece .lost } := by
    rw [finish]
    simp
  rw [vtally] at ended
  refine ⟨?_, ?_, paid.congr panels.symm ?_, ?_, ?_, ?_, ?_, ?_⟩
  · rw [finish]
    simp [vchain, front]
  · simp [vbins, hu]
  · simp
  · exact (released.trans (.of_eq vlink vgovernor)).trans ⟨announced.link, announced.pressure⟩
  all_goals rw [ended]
  all_goals rfl

/-! ### Every piece lost (R170 step 1) -/

theorem LapsedPaid.port_kept {why : LapseReason} {d : Option Decision} {lug : LugNo} {s t : State}
    (h : LapsedPaid why d lug s t) {x : PanelId} (silent : (s.panels.port x).present = false ∨ s.panels.answers = []) :
    t.panels.port x = s.panels.port x ∧ ((t.panels.port x).present = false ∨ t.panels.answers = []) := by
  cases owed : s.answer? lug with
  | none =>
    have same := h.quiet fun a found => (by rw [owed] at found; cases found)
    rw [same]
    exact ⟨rfl, silent⟩
  | some a =>
    obtain ⟨-, other, told⟩ := h.paid a owed trivial
    have absent : (s.panels.port x).present = false := silent.resolve_right fun none_ => by
      rw [State.answer?, none_] at owed
      cases owed
    have same : t.panels.port x = s.panels.port x := by
      by_cases here : x = a.panel
      · subst here
        rw [absent] at told
        exact told
      · have that : x = otherPanel a.panel := by
          revert here
          cases x <;> cases a.panel <;> simp [otherPanel]
        rw [that]
        exact other
    exact ⟨same, .inl (same ▸ absent)⟩

/-- Every piece of the queue has been lost. -/
structure PiecesLost (ps : List Piece) (s t : State) : Prop where
  chain : t.chain = { s.chain with pieces := [], finished := s.chain.finished + BitVec.ofNat 64 ps.length }
  bins : t.bins = (releaseBins (reservedBins ps) s).bins
  ports : ∀ x, (s.panels.port x).present = false ∨ s.panels.answers = [] → t.panels.port x = s.panels.port x
  announced : Announced s t
  snapshot : t.tally.snapshot = s.tally.snapshot
  number : t.tally.period.number = s.tally.period.number
  logOutcomes : t.tally.period.logOutcomes = s.tally.period.logOutcomes
  outcomes : ps ≠ [] → t.tally.period.pieceOutcomes = countedUp s.tally.period.pieceOutcomes 7 ps.length
  none_lost : ps = [] → t = s

theorem losePieces_spec {ps : List Piece} {s : State} (queue : s.chain.pieces = ps) :
    PiecesLost ps s ((ps.map Piece.lug).foldl losePiece s) := by
  induction ps generalizing s with
  | nil =>
    refine ⟨?_, rfl, fun _ _ => rfl, .of_eq rfl rfl, rfl, rfl, rfl, fun some_ => absurd rfl some_, fun _ => rfl⟩
    show s.chain = _
    rw [List.length_nil, ← queue]
    exact congrArg (fun n => ({ s.chain with finished := n } : Chain)) (BitVec.add_zero _).symm
  | cons p ps ih =>
    have first := losePiece_front queue
    rw [List.map_cons, List.foldl_cons]
    generalize losePiece s p.lug = u at first
    have rest := ih (s := u) (by rw [first.chain])
    generalize (ps.map Piece.lug).foldl losePiece u = t at rest
    refine ⟨?_, ?_, fun x silent => ?_, first.announced.trans rest.announced, rest.snapshot.trans first.snapshot,
      rest.number.trans first.number, rest.logOutcomes.trans first.logOutcomes, fun _ => ?_,
      fun none_ => absurd none_ (List.cons_ne_nil p ps)⟩
    · have total : s.chain.finished + 1 + BitVec.ofNat 64 ps.length =
          s.chain.finished + BitVec.ofNat 64 (p :: ps).length := by
        rw [List.length_cons, BitVec.add_assoc, Nat.add_comm, BitVec.ofNat_add]
        rfl
      rw [rest.chain, first.chain, total]
    · have both : releaseBins (reservedBins (p :: ps)) s =
          releaseBins (reservedBins ps) (releaseBins p.reservedBin.toList s) := by
        rw [reservedBins_cons]
        exact List.foldl_append
      rw [both, rest.bins]
      exact releaseBins_bins_congr _ first.bins
    · obtain ⟨same, still⟩ := first.paid.port_kept silent
      exact (rest.ports x still).trans same
    · by_cases last : ps = []
      · rw [rest.none_lost last, first.outcomes, last]
        rfl
      · rw [rest.outcomes last, first.outcomes, countedUp_one]
        rfl

/-! ### Every log finished UNMEASURED (R141, R170 step 1) -/

/-- A record of the log queue has been finished UNMEASURED. -/
structure LogLost (s t : State) : Prop where
  announced : Announced s t
  snapshot : t.tally.snapshot = s.tally.snapshot
  number : t.tally.period.number = s.tally.period.number
  pieceOutcomes : t.tally.period.pieceOutcomes = s.tally.period.pieceOutcomes

theorem finishLog_front {s : State} {r : LogRecord} {rest : List LogRecord} (cause : Option EndCause)
    (front : s.logs.queue = r :: rest) : LogLost s (finishLog r.number .unmeasured cause s) ∧
      (finishLog r.number .unmeasured cause s).tally.period.logOutcomes = countedUp s.tally.period.logOutcomes 3 1 := by
  have found : s.log? r.number = some r := by
    rw [State.log?, front]
    exact List.find?_cons_of_pos (beq_self_eq_true _)
  have finish : finishLog r.number .unmeasured cause s =
      queueNotice (.logDone { r with outcome := some .unmeasured, endCause := cause })
        (tallyLog { r with outcome := some .unmeasured, endCause := cause } .unmeasured (s.onLogs fun m =>
          { m with queue := m.queue.eraseP fun q => q.number == r.number
                   openLog := if m.openLog = some r.number then none else m.openLog })) := by
    unfold finishLog
    rw [found]
  have tally : (finishLog r.number .unmeasured cause s).tally = { s.tally with
      period := s.tally.period.takeLog { r with outcome := some .unmeasured, endCause := cause } .unmeasured } := by
    rw [finish, (queueNotice_frame _ _).2.2.2.2.2.2.2.2.1]
    rfl
  have announced := queueNotice_announced (.logDone { r with outcome := some .unmeasured, endCause := cause })
    (tallyLog { r with outcome := some .unmeasured, endCause := cause } .unmeasured (s.onLogs fun m =>
      { m with queue := m.queue.eraseP fun q => q.number == r.number
               openLog := if m.openLog = some r.number then none else m.openLog }))
  rw [← finish] at announced
  have counted := takeLog_counted { r with outcome := some .unmeasured, endCause := cause } .unmeasured s.tally.period
  rw [tally]
  refine ⟨⟨⟨announced.link, announced.pressure⟩, by rw [tally], ?_, ?_⟩, counted.outcomes⟩
  · rw [tally, counted.rest]
  · rw [tally, counted.rest]

theorem finishLogs_lost (cause : Option EndCause) {rs : List LogRecord} {s : State} (queue : s.logs.queue = rs) :
    let t := (rs.map LogRecord.number).foldl (fun t n => finishLog n .unmeasured cause t) s
    LogLost s t ∧ (rs ≠ [] → t.tally.period.logOutcomes = countedUp s.tally.period.logOutcomes 3 rs.length) := by
  induction rs generalizing s with
  | nil => exact ⟨⟨.of_eq rfl rfl, rfl, rfl, rfl⟩, fun some_ => absurd rfl some_⟩
  | cons r rs ih =>
    obtain ⟨first, counted⟩ := finishLog_front cause queue
    have queue' : (finishLog r.number .unmeasured cause s).logs.queue = rs := by
      rw [finishLog_queue, queue]
      exact List.eraseP_cons_of_pos (beq_self_eq_true _)
    dsimp only
    rw [List.map_cons, List.foldl_cons]
    generalize finishLog r.number .unmeasured cause s = u at first counted queue'
    obtain ⟨rest, more⟩ := ih queue'
    refine ⟨⟨first.announced.trans rest.announced, rest.snapshot.trans first.snapshot, rest.number.trans first.number,
      rest.pieceOutcomes.trans first.pieceOutcomes⟩, fun _ => ?_⟩
    by_cases last : rs = []
    · subst last
      exact counted
    · rw [more last, counted, countedUp_one]
      rfl

/-- Every log of the queue finished, with the counts of the period. -/
theorem finishAllLogs_lost (cause : EndCause) (s : State) : LogLost s (finishAllLogs cause s) ∧
    (s.logs.queue ≠ [] → (finishAllLogs cause s).tally.period.logOutcomes =
      countedUp s.tally.period.logOutcomes 3 s.logs.queue.length) := by
  obtain ⟨lost, counted⟩ := finishLogs_lost (some cause) (rs := s.logs.queue) (s := s) rfl
  exact ⟨⟨⟨lost.announced.link, lost.announced.pressure⟩, lost.snapshot, lost.number, lost.pieceOutcomes⟩, counted⟩

/-! ### The bank store (R180, R181) -/

/-- An aborted sequence leaves every bank but its own, which is LOADING, as it was, and takes no part in what is ACTIVE. -/
theorem abortSequence_active {s : State} (loading : ∀ q, s.store.sequence = some q → (s.bank q.bank).state = .loading) :
    (abortSequence s).activeBank = s.activeBank ∧ ∀ x, s.activeBank = some x → (abortSequence s).bank x = s.bank x := by
  cases opened : s.store.sequence with
  | none =>
    have same : abortSequence s = s := by rw [abortSequence, opened]
    rw [same]
    exact ⟨rfl, fun _ _ => rfl⟩
  | some q =>
    have state := loading q opened
    obtain ⟨bank, kind, next⟩ := q
    have aborted : abortSequence s = (onBank bank (fun b => (b.setLoaded false kind).close) s).onStore fun st =>
        { st with sequence := none } := by rw [abortSequence, opened]
    have closed := (closed_ne ((s.bank bank).setLoaded false kind)).1
    rw [aborted]
    cases bank with
    | a =>
      have inactive : s.store.bankA.state ≠ .active := fun h => by
        rw [show s.store.bankA.state = .loading from state] at h
        cases h
      have active : s.activeBank = if s.store.bankB.state = .active then some .b else none := if_neg inactive
      refine ⟨active ▸ if_neg closed, fun x hx => ?_⟩
      rw [active] at hx
      split at hx <;> cases hx
      rfl
    | b =>
      have inactive : s.store.bankB.state ≠ .active := fun h => by
        rw [show s.store.bankB.state = .loading from state] at h
        cases h
      have active : s.activeBank = if s.store.bankA.state = .active then some .a else none := by
        unfold State.activeBank
        rw [if_neg inactive]
      refine ⟨?_, fun x hx => ?_⟩
      · rw [active]
        unfold State.activeBank
        exact congrArg (if s.store.bankA.state = .active then some BankId.a else ·) (if_neg closed)
      · rw [active] at hx
        split at hx <;> cases hx
        rfl

/-! ### The governor (R156, R162) -/

theorem lineReset_held (row : Option GovernorRow) (g : Governor) (now : HoldCauses) :
    let h := (Governor.lineReset row g).held now
    h.causes = now ∧ h.permit = false ∧ h.record = [] ∧
    ∀ r, row = some r → h.g = r.gMin ∧ h.phase = .fill ∧ h.remaining = r.window := by
  unfold Governor.held Governor.lineReset
  cases row with
  | none =>
    refine ⟨?_, ?_, ?_, fun r h => (by cases h)⟩ <;> dsimp only <;> split <;> rfl
  | some r =>
    refine ⟨?_, ?_, ?_, fun r' h => ?_⟩
    case refine_4 =>
      cases h
      dsimp only
      split <;> exact ⟨rfl, rfl, rfl⟩
    all_goals dsimp only
    all_goals split <;> rfl

/-! ### The four steps of a LINE_RESET (R170) -/

/-- Every piece and every log finished, oldest first. -/
structure AllFinished (s u : State) : Prop where
  chain : u.chain = { s.chain with
    pieces := [], finished := s.chain.finished + BitVec.ofNat 64 s.chain.pieces.length }
  logs : u.logs = { s.logs with queue := [], openLog := none }
  bins : u.bins = (releaseBins (reservedBins s.chain.pieces) s).bins
  paid : ∀ p, s.chain.pieces = [p] → LapsedPaid .lost p.decision p.lug s u
  ports : ∀ x, (s.panels.port x).present = false ∨ s.panels.answers = [] → u.panels.port x = s.panels.port x
  announced : Announced s u
  snapshot : u.tally.snapshot = s.tally.snapshot
  number : u.tally.period.number = s.tally.period.number
  pieceOutcomes : s.chain.pieces ≠ [] →
    u.tally.period.pieceOutcomes = countedUp s.tally.period.pieceOutcomes 7 s.chain.pieces.length
  logOutcomes : s.logs.queue ≠ [] →
    u.tally.period.logOutcomes = countedUp s.tally.period.logOutcomes 3 s.logs.queue.length

theorem finishAll_spec (s : State) : AllFinished s (finishAll s) := by
  have pieces := losePieces_spec (s := s) rfl
  have single : ∀ p, s.chain.pieces = [p] →
      LapsedPaid .lost p.decision p.lug s ((s.chain.pieces.map Piece.lug).foldl losePiece s) := fun p alone => by
    rw [alone]
    exact (losePiece_front alone).paid
  have logs_kept : ((s.chain.pieces.map Piece.lug).foldl losePiece s).logs = s.logs :=
    foldl_keeps State.logs _ (fun t lug => by simp) _ s
  unfold finishAll
  generalize (s.chain.pieces.map Piece.lug).foldl losePiece s = u at pieces single logs_kept
  obtain ⟨logs, -⟩ := finishAllLogs_spec .reset u
  obtain ⟨lost, counted⟩ := finishAllLogs_lost .reset u
  rw [logs_kept] at logs counted
  rw [pieces.logOutcomes] at counted
  have panels : (finishAllLogs .reset u).panels = u.panels := by simp
  exact {
    chain := (finishAllLogs_frame u .reset).1.trans pieces.chain
    logs
    bins := (finishAllLogs_frame u .reset).2.2.2.2.2.2.1.trans pieces.bins
    paid := fun p alone => (single p alone).congr rfl panels
    ports := fun x silent => (congrArg (Panels.port · x) panels).trans (pieces.ports x silent)
    announced := pieces.announced.trans lost.announced
    snapshot := lost.snapshot.trans pieces.snapshot
    number := lost.number.trans pieces.number
    pieceOutcomes := fun some_ => lost.pieceOutcomes.trans (pieces.outcomes some_)
    logOutcomes := counted }

/-- The solver, the chain tracker, the moisture unit and the panel unit at a LINE_RESET, the bank store not yet. -/
def State.cleared (s : State) : State :=
  { s with
    solver := { queue := [], running := none }
    chain := { s.chain with suspect := none, goodRun := 0, hold := none, lockOn := false }
    moisture := { s.moisture with
      converter := none, held := s.moisture.held.map fun _ => none, ages := s.moisture.ages.map fun _ => 0 }
    panels := { s.panels with answers := [] } }

theorem resetBlocks_eq (s : State) :
    resetBlocks s = (abortSequence s.cleared).onStore fun st => { st with pendingBank := none } := rfl

/-- What a LINE_RESET leaves of each block once every piece and log has been finished. -/
structure ResetFrom (u t : State) : Prop where
  chain : t.chain = { u.chain with suspect := none, goodRun := 0, hold := none, lockOn := false }
  scan : t.scan = u.scan
  moisture : t.moisture = { u.moisture with
    converter := none, held := u.moisture.held.map fun _ => none, ages := u.moisture.ages.map fun _ => 0 }
  solver : t.solver = { queue := [], running := none }
  panels : t.panels = { u.panels with answers := [] }
  output : t.output.chain = [] ∧ t.output.log = [] ∧ t.output.dark
  bins : t.bins = u.bins
  logs : u.logs.queue = [] → t.logs = u.logs
  tally : t.tally = u.tally
  line : t.line = { u.line with state := .idle, haltCause := none, faultLine := false }
  link : t.link = u.link
  pending : t.pending = u.pending

theorem reset_blocks (u : State) : ResetFrom u (resetLine (resetBlocks (cancelAll u))) := by
  refine ⟨?_, ?_, ?_, ?_, ?_, ?output, ?_, fun empty => ?logs, ?_, ?line, ?_, ?_⟩
  case output =>
    rw [(resetLine_frame _).2.2.2.2.2.1, (resetBlocks_frame _).2.1]
    exact ⟨rfl, rfl, dark_of_empty (linesFollow_refresh _) rfl rfl⟩
  case logs =>
    have cancelled : (cancelAll u).logs = { u.logs with
      queue := u.logs.queue.map (LogRecord.kickRemoved (u.output.log.map Entry.owner)) } := rfl
    rw [(resetLine_frame _).2.2.2.2.2.2.2.1, (resetBlocks_frame _).2.2.2.1, cancelled, empty, List.map_nil, ← empty]
  case line =>
    have same : (resetBlocks (cancelAll u)).line = u.line := (resetBlocks_frame _).2.2.2.2.2.2.1
    rw [resetLine, (weighHold_frame _).2.2.2.2.2.2.2.2.2.1, ← same]
    rfl
  all_goals
    simp only [resetLine_frame, resetBlocks_eq, State.onStore_chain, State.onStore_scan, State.onStore_moisture,
      State.onStore_solver, State.onStore_panels, State.onStore_bins, State.onStore_tally, State.onStore_link,
      State.onStore_pending, abortSequence_frame]
    rfl

/-- The bank store and the governor at a LINE_RESET. -/
structure StoreReset (u t : State) : Prop where
  geometry : t.store.geometry = u.store.geometry
  pendingBank : t.store.pendingBank = none
  sequence : t.store.sequence = none
  activeBank : t.activeBank = u.activeBank
  still : u.store.sequence = none → t.store = { u.store with pendingBank := none }
  causes : t.governor.causes = { idle := true, halt := false, hostSilent := u.link.silent, noBank := u.activeBank.isNone }
  permit : t.governor.permit = false
  record : t.governor.record = []
  phase : ∀ x r, u.activeBank = some x → (u.bank x).governor.rows.head? = some r →
    t.governor.g = r.gMin ∧ t.governor.phase = .fill ∧ t.governor.remaining = r.window

theorem reset_store {u : State} (loading : ∀ q, u.store.sequence = some q → (u.bank q.bank).state = .loading) :
    StoreReset u (resetLine (resetBlocks (cancelAll u))) := by
  generalize cleared : (cancelAll u).cleared = v
  have store : v.store = u.store := by rw [← cleared]; rfl
  have link : v.link = u.link := by rw [← cleared]; rfl
  obtain ⟨aborted, pending, geometry⟩ := abortSequence_store v
  obtain ⟨active, bank⟩ := abortSequence_active (s := v) fun q hq => by
    rw [bank_of_store store]
    exact loading q (store ▸ hq)
  generalize blocks : resetBlocks (cancelAll u) = w
  have made : w = (abortSequence v).onStore fun st => { st with pendingBank := none } := by
    rw [← blocks, resetBlocks_eq, cleared]
  have wstore : w.store = { (abortSequence v).store with pendingBank := none } := by rw [made]; rfl
  have wlink : w.link = u.link := by
    rw [made, State.onStore_link, (abortSequence_frame v).2.2.2.2.2.2.2.2.2.2.2.1, link]
  have wactive : w.activeBank = u.activeBank := by
    rw [← activeBank_of_store store, ← active, made]
    rfl
  have wbank : ∀ x, u.activeBank = some x → w.bank x = u.bank x := fun x hx => by
    rw [← activeBank_of_store store] at hx
    rw [← bank_of_store store, ← bank x hx, made]
    cases x <;> rfl
  have tstore : (resetLine w).store = w.store := by simp
  have held : (resetLine w).governor =
      (Governor.lineReset (w.activeBank.bind fun x => (w.bank x).governorRow) w.governor).held
        { idle := true, halt := false, hostSilent := w.link.silent, noBank := w.activeBank.isNone } := by
    rw [resetLine, weighHold_eq]
    rfl
  obtain ⟨causes, permit, record, phase⟩ := lineReset_held (w.activeBank.bind fun x => (w.bank x).governorRow) w.governor
    { idle := true, halt := false, hostSilent := w.link.silent, noBank := w.activeBank.isNone }
  rw [← held] at causes permit record phase
  refine ⟨?_, ?_, ?_, (activeBank_of_store tstore).trans wactive, fun closed => ?_, ?_, permit, record,
    fun x r hx hr => phase r ?_⟩
  · rw [tstore, wstore, ← store]
    exact geometry
  · rw [tstore, wstore]
  · rw [tstore, wstore]
    exact aborted
  · have same : abortSequence v = v := by rw [abortSequence, store, closed]
    rw [tstore, wstore, same, store]
  · rw [causes, wlink, wactive]
  · rw [wactive, hx, Option.bind_some, wbank x hx]
    exact hr

/-- An answer paid, after which no answer is owed at all, where none but that was. -/
theorem LapsedPaid.emptied {why : LapseReason} {d : Option Decision} {lug : LugNo} {s u t : State}
    (h : LapsedPaid why d lug s u) (own : ∀ a ∈ s.panels.answers, a.lug = lug)
    (panels : t.panels = { u.panels with answers := [] }) : LapsedPaid why d lug s t := by
  have ports (x : PanelId) : t.panels.port x = u.panels.port x := by rw [panels]; cases x <;> rfl
  refine ⟨fun quiet => ?_, fun a owed due => ?_⟩
  · have same := h.quiet quiet
    have none_ : s.panels.answers = [] := List.eq_nil_iff_forall_not_mem.mpr fun a mem => by
      cases found : s.answer? lug with
      | none => exact List.find?_eq_none.mp found a mem (beq_iff_eq.mpr (own a mem))
      | some b => exact quiet b found trivial
    rw [panels, same, ← none_]
  · obtain ⟨-, other, told⟩ := h.paid a owed due
    refine ⟨?_, (ports _).trans other, ?_⟩
    · rw [panels]
      exact (List.filter_eq_nil_iff.mpr fun b mem => by simp [own b mem]).symm
    · rw [ports]
      exact told

/-- Settles O54: the pieces and the logs are finished one by one, and the other blocks are then cleared. -/
theorem lineResetLeaves : Obligations.LineResetLeaves := by
  intro s tag waits loading
  have finished := finishAll_spec s.serving
  have noted : (finishAll s.serving).link = _ := finished.announced.link
  have store_kept : (finishAll s.serving).store = s.store := (finishAll_frame s.serving).2.2.2.2.2.1
  have frame := finishAll_frame s.serving
  generalize made : finishAll s.serving = u at finished noted store_kept frame
  have blocks := reset_blocks u
  have stores := reset_store (u := u) fun q hq => by
    rw [bank_of_store store_kept]
    exact loading q (store_kept ▸ hq)
  have served : serve .lineReset [] s.serving = ⟨resetLine (resetBlocks (cancelAll u)), .ok,
      put1 s.chain.pieces.length ++ put1 s.logs.queue.length⟩ := by
    rw [← made]
    rfl
  generalize resetLine (resetBlocks (cancelAll u)) = t at blocks stores served
  have taken : t.link.taken = true := by rw [blocks.link, noted]; rfl
  have active : u.activeBank = s.activeBank := activeBank_of_store store_kept
  have silent : u.link.silent = s.link.silent := by rw [noted]; rfl
  refine ⟨_, congrArg Host.Outcome.next (request_replied .lineReset tag [] s waits rfl .ok _ t served taken), ?_⟩
  obtain ⟨scan, moisture, solver, output, line, store, pending⟩ := frame
  refine ⟨?_, ?_, blocks.output.1, blocks.output.2.1, blocks.output.2.2, blocks.solver, ?_, ?_, blocks.scan.trans scan,
    ?_, ?_, fun b x there => ?_, fun p alone own => ?_, fun x quiet => ?_, ?_, stores.pendingBank, stores.sequence,
    stores.activeBank.trans active, fun closed => ?_, ?_, stores.permit, stores.record, fun x r hx hr => ?_, ?_, ?_,
    fun some_ => ?_, fun some_ => ?_, ?_, ?_, rfl, ?_, blocks.pending.trans pending⟩
  · rw [blocks.chain, finished.chain]; rfl
  · have logs := finished.logs
    exact (blocks.logs (by rw [logs])).trans logs
  · exact congrArg Panels.answers blocks.panels
  · rw [blocks.moisture, moisture]; rfl
  · rw [blocks.line, line]; rfl
  · exact (congrArg List.length (blocks.bins.trans finished.bins)).trans (releaseBins_length _ _)
  · have gone := congrArg (·[b]?) (blocks.bins.trans finished.bins)
    rw [releaseBins_getElem?, reservedBins_count, State.onLink_bins, there] at gone
    exact gone.trans (apply_ite some _ _ _).symm
  · exact ((finished.paid p alone).emptied own blocks.panels).congr rfl rfl
  · have port : (t.panels.port x) = u.panels.port x := by rw [blocks.panels]; cases x <;> rfl
    exact port.trans (finished.ports x quiet)
  · rw [stores.geometry, store_kept]
  · rw [stores.still (by rw [store_kept]; exact closed), store_kept]
  · rw [stores.causes, silent, active]
  · exact stores.phase x r (active.trans hx) (by rw [bank_of_store store_kept]; exact hr)
  · rw [blocks.tally]; exact finished.snapshot
  · rw [blocks.tally]; exact finished.number
  · rw [blocks.tally]; exact finished.pieceOutcomes some_
  · rw [blocks.tally]; exact finished.logOutcomes some_
  · rw [Link.replied, blocks.link, noted]; rfl
  · rw [Link.replied, blocks.link, noted]; rfl
  · rw [Link.replied, blocks.link, noted]; rfl

end Sys2Proof.Machine
end
